-- ==== Sys2Proof/Word.lean ====
section
/-! DEFINITION. The word types of the Hamdor HBC-8: bytes on the link and on D7-D0, 16-bit card bus words and
frame fields, 24-bit frame fields (R195), and the 32-bit time base (R144). -/

namespace Sys2Proof

/-- A byte: one frame byte, one byte of image memory, one card's D7-D0. -/
abbrev Byte := BitVec 8

/-- A 16-bit value: a card bus word (D15-D0) or a two-byte frame field. -/
abbrev Word16 := BitVec 16

/-- A three-byte frame field (R195), values up to 0xFFFFFF. -/
abbrev Word24 := BitVec 24

/-- A reading of the 32-bit microsecond counter (R144). -/
abbrev Time := BitVec 32

/-- The 16 data lines of each of the eight slots, as the cards and the backplane's pull-ups present them. -/
abbrev CardLines := Vector Word16 8

end Sys2Proof
end

