-- ==== Sys2Proof/Config.lean ====
section
/-! DEFINITION. The free values: what the manual leaves open and the model does not choose. None has a body a
proof could use, so a statement holds whatever they are. -/

namespace Sys2Proof

/-- The on/off fields of the request layouts of R195 that take a whole byte. -/
inductive FlagField
  | claimEnabled | claimReadOnly
  | lineEnabled | lineKeepAlive
  | serviceRecord
  | timerKeepAlive
  | watchDataCompare | watchOneShot | watchClearCount
  deriving DecidableEq, Repr

namespace Config

/-- UNVERIFIED: how an on/off field reads when its byte is neither 0 (off) nor 1 (on). R195 gives such a field no
code list and no rule refuses the byte; log entry 6. -/
opaque otherFlag : FlagField → Byte → Bool

/-- The `k`-th byte the part presents to the watch units without having sampled it (a DMA transfer whose memory
side is its own owner slot, R95 and R166); log entry 4. -/
opaque unsampledByte : Nat → Byte

/-- The `k`-th choice of order where the manual lets events come in either order (R39, R43, R154, and 00
"Order of events"); log entry 3. -/
opaque order : Nat → Nat

/-- The part of a microsecond, in half bus clocks, from the start of the `k`-th timed cycle to the first microsecond
end after it: the manual does not tie the bus clock to the time base (R1, R144); log entry 7. -/
opaque clockPhase : Nat → Nat

end Config

end Sys2Proof
end

