-- ==== Sys2Proof/Syntax.lean ====
section
/-! DEFINITION. The commands of the HBC-8: one constructor per row of spec/opcode_table.json. A request row carries
the tag and the fields of its layout (R195), each as wide as the layout makes it; an event row carries what the card
side presents at that instant. -/

namespace Sys2Proof

/-- The two card bus address spaces (R9). -/
inductive Space
  | mem | io
  deriving DecidableEq, Repr

/-- The fields of a CLAIM write, bytes 0 to 16 of its layout (R4, R195). -/
structure ClaimFields where
  entry       : Byte
  enabled     : Byte
  space       : Byte
  decode      : Byte
  base        : Word24
  limit       : Word24
  target      : Byte
  width       : Byte
  extra       : Byte
  imageOffset : Word24
  readOnly    : Byte
  deriving DecidableEq, Repr

/-- The fields of a WATCH CONFIGURE, bytes 2 to 19 of its layout (R171, R195). -/
structure WatchFields where
  space       : Byte
  address     : Word24
  mask        : Word24
  kinds       : Byte
  initiators  : Byte
  dataCompare : Byte
  dataValue   : Word16
  dataMask    : Word16
  actions     : Byte
  oneShot     : Byte
  arm         : Byte
  clearCount  : Byte
  deriving DecidableEq, Repr

/-- One constructor per row of the table of operations and events. -/
inductive Instr
  /-- PART_RESET (R194): the presence inputs (bit n set: slot n's input shows a card), the wide straps (bit n set:
  slot n has the wide connector) and the supply input, as they stand at the end of part reset. -/
  | partReset (present straps : Byte) (supplyGood : Bool)
  /-- LINK_READY (R182). -/
  | linkReady
  /-- LINK_LOSS (R193). -/
  | linkLoss
  /-- FRAME_DISCARDED (R185): the frame as received. -/
  | frameDiscarded (kind tag : Byte) (length : Word16) (payload : List Byte) (check : Byte)
  /-- RECEIVER_SILENCE_TIMEOUT (R185). -/
  | receiverSilenceTimeout
  /-- IN_PIPE_READ (R189). -/
  | inPipeRead
  /-- UNKNOWN_REQUEST (R187): a good frame whose kind is not in the dispatch table, or whose payload has no layout
  of R195 (its length or its action code), which its owner refuses with BAD_REQUEST. -/
  | unknownRequest (kind tag : Byte) (payload : List Byte)
  /-- IDENT (R192). -/
  | ident (tag : Byte)
  /-- STATUS (R192). -/
  | status (tag : Byte)
  /-- SET (R191). -/
  | set (tag number : Byte) (value : Word16)
  /-- GET (R191). -/
  | get (tag number : Byte)
  /-- BUS_RUN (R39). -/
  | busRun (tag : Byte)
  /-- BUS_HOLD (R39). -/
  | busHold (tag : Byte)
  /-- BUS_STOP (R39). -/
  | busStop (tag : Byte)
  /-- BUS_OFF (R42). -/
  | busOff (tag : Byte)
  /-- BUS_RESET (R40). -/
  | busReset (tag : Byte)
  /-- SLOT_QUERY (R32). -/
  | slotQuery (tag slot : Byte)
  /-- SLOT_ATTACH (R33). -/
  | slotAttach (tag slot : Byte)
  /-- SLOT_ISOLATE (R34). -/
  | slotIsolate (tag slot : Byte)
  /-- CLAIM_WRITE (R6). -/
  | claimWrite (tag : Byte) (w : ClaimFields)
  /-- CLAIM_READ (R8). -/
  | claimRead (tag entry : Byte)
  /-- OPS (R68): the whole payload, since its records vary in length. -/
  | ops (tag : Byte) (payload : List Byte)
  /-- DMA_MODE (R85). -/
  | dmaMode (tag channel mode direction owner options : Byte)
  /-- DMA_ADDR (R86). -/
  | dmaAddr (tag channel page : Byte) (offset : Word16) (step : Byte)
  /-- DMA_COUNT (R87). -/
  | dmaCount (tag channel : Byte) (n : Word24)
  /-- DMA_START (R88). -/
  | dmaStart (tag channel : Byte)
  /-- DMA_CLEAR (R89). -/
  | dmaClear (tag channel : Byte)
  /-- DMA_PULSE (R90). -/
  | dmaPulse (tag channel : Byte)
  /-- DMA_QUERY (R91). -/
  | dmaQuery (tag channel : Byte)
  /-- LINE_QUERY (R123). -/
  | lineQuery (tag line : Byte)
  /-- LINE_CONFIGURE (R121). -/
  | lineConfigure (tag line sense enabled group keepAlive entry : Byte)
  /-- CLEAR_STUCK (R119). -/
  | clearStuck (tag line bitmap : Byte)
  /-- CLEAR_PENDING (R122). -/
  | clearPending (tag line bitmap : Byte)
  /-- SERVICE_WRITE (R129): the step records as the bytes that follow the step count. -/
  | serviceWrite (tag entry record count : Byte) (steps : List Byte)
  /-- SERVICE_QUERY (R130). -/
  | serviceQuery (tag entry : Byte)
  /-- TIMER_QUERY (R147). -/
  | timerQuery (tag timer : Byte)
  /-- TIMER_START (R147). -/
  | timerStart (tag timer : Byte) (period : Word16) (entry keepAlive : Byte)
  /-- TIMER_STOP (R147). -/
  | timerStop (tag timer : Byte) (period : Word16) (entry keepAlive : Byte)
  /-- WATCH_QUERY (R172). -/
  | watchQuery (tag unit : Byte)
  /-- WATCH_CONFIGURE (R171). -/
  | watchConfigure (tag unit : Byte) (w : WatchFields)
  /-- WATCH_ARM (R172). -/
  | watchArm (tag unit : Byte)
  /-- WATCH_DISARM (R172). -/
  | watchDisarm (tag unit : Byte)
  /-- DRAIN (R160), with Ne. -/
  | drain (tag ne : Byte)
  /-- DRAIN_CLEAR (R161), with Ne. -/
  | drainClear (tag ne : Byte)
  /-- IMG_WRITE (R178). -/
  | imgWrite (tag : Byte) (offset : Word24) (count : Word16) (data : List Byte)
  /-- IMG_READ (R179). -/
  | imgRead (tag : Byte) (offset : Word24) (length : Word16)
  /-- IMG_FILL (R180). -/
  | imgFill (tag : Byte) (offset length : Word24) (value : Byte)
  /-- FILL_STORE (R180). -/
  | fillStore
  /-- PRESENCE_ARRIVAL (R29). -/
  | presenceArrival (slot : Fin 8)
  /-- PRESENCE_LOSS (R30). -/
  | presenceLoss (slot : Fin 8)
  /-- CSUPGOOD_LOW (R45). -/
  | csupgoodLow
  /-- CSUPGOOD_HIGH (R45). -/
  | csupgoodHigh
  /-- SUPPLY_LOST (R46). -/
  | supplyLost
  /-- SUPPLY_RESTORED (R47). -/
  | supplyRestored
  /-- PULSE_END (R41). -/
  | pulseEnd
  /-- CYCLE_START (R1): whether the target slot asserts wide-acknowledge at the end of the SETUP clock (R12). -/
  | cycleStart (wideAck : Bool)
  /-- CYCLE_WAIT_END (R14): the WAIT clocks the ready sources held, and the slots' data lines at that instant. -/
  | cycleWaitEnd (waits : Nat) (lines : CardLines)
  /-- READY_TIMEOUT (R14): the slots' data lines at that instant. -/
  | readyTimeout (lines : CardLines)
  /-- CYCLE_END (R1). -/
  | cycleEnd
  /-- DELAY_EXPIRY (R137). -/
  | delayExpiry
  /-- PAUSE_EXPIRY (R75). -/
  | pauseExpiry
  /-- WAIT_DMA_TIMEOUT (R76). -/
  | waitDmaTimeout
  /-- TIMER_EXPIRY (R146). -/
  | timerExpiry (timer : Fin 4)
  /-- REFRESH_INTERVAL_EXPIRY (R62). -/
  | refreshIntervalExpiry
  /-- REFRESH_CYCLE_END (R63). -/
  | refreshCycleEnd
  /-- HOLD_TIMER_EXPIRY (R61). -/
  | holdTimerExpiry
  /-- CHANNEL_REQUEST_ASSERT (R92): a card asserts its CREQ line of one channel. -/
  | channelRequestAssert (channel : Fin 4) (slot : Fin 8)
  /-- CHANNEL_REQUEST_DEASSERT (R59). -/
  | channelRequestDeassert (channel : Fin 4) (slot : Fin 8)
  /-- MASTER_STROBE_ASSERT (R23): the space and direction of the strobe and the address the master drives. -/
  | masterStrobeAssert (space : Space) (address : BitVec 20) (write : Bool)
  /-- MASTER_STROBE_RELEASE (R23): the clocks the strobe was held, and the byte other than the part's own on the
  owner's D7-D0 at that instant. -/
  | masterStrobeRelease (clocks : Nat) (data : Byte)
  /-- LINE_ASSERT (R110): a card asserts its copy of an interrupt line. -/
  | lineAssert (line : Fin 12) (slot : Fin 8)
  /-- LINE_DEASSERT (R109). -/
  | lineDeassert (line : Fin 12) (slot : Fin 8)
  /-- BYTE_TAKEN (R184): the byte at the head of the OUT pipe. -/
  | byteTaken (b : Byte)
  deriving DecidableEq, Repr

end Sys2Proof
end

