-- ==== Sys2Proof/Decode.lean ====
section
/-! DEFINITION. Frames and layouts (R183, R187, R195): how the fields of a request lie in its payload, which row of
the table a frame spells, and the bytes of a frame. The opcode table gives no row any bits, so no table word spells a
command. -/

namespace Sys2Proof

/-! ## Byte order (00 Conventions: multi-byte fields are little-endian) -/

/-- Two frame bytes as a field, the least significant first. -/
def word16 (b0 b1 : Byte) : Word16 := b1 ++ b0

/-- Three frame bytes as a field, the least significant first. -/
def word24 (b0 b1 b2 : Byte) : Word24 := b2 ++ (b1 ++ b0)

/-- The low byte of a value of any width. -/
def byte0 {w : Nat} (v : BitVec w) : Byte := v.extractLsb' 0 8

/-- The byte above the low byte. -/
def byte1 {w : Nat} (v : BitVec w) : Byte := v.extractLsb' 8 8

/-- The third byte. -/
def byte2 {w : Nat} (v : BitVec w) : Byte := v.extractLsb' 16 8

/-- A number as one frame byte. -/
def natByte (n : Nat) : Byte := BitVec.ofNat 8 n

/-- A number as a two-byte field. -/
def bytes2 (n : Nat) : List Byte := [natByte n, natByte (n / 256)]

/-- A number as a three-byte field. -/
def bytes3 (n : Nat) : List Byte := [natByte n, natByte (n / 256), natByte (n / 65536)]

/-- A number as a four-byte field. -/
def bytes4 (n : Nat) : List Byte := [natByte n, natByte (n / 256), natByte (n / 65536), natByte (n / 16777216)]

/-- An on/off field: 0 off, 1 on, any other byte open (log entry 6). -/
def flagByte (f : FlagField) (b : Byte) : Bool :=
  if b = 0 then false else if b = 1 then true else Config.otherFlag f b

/-! ## Frames (R183) -/

/-- The sum R183 takes over kind, tag, both length bytes and every payload byte. -/
def frameSum (kind tag : Byte) (length : Word16) (payload : List Byte) : Byte :=
  kind + tag + byte0 length + byte1 length + payload.sum

/-- The check byte: the two's complement of the sum. -/
def checkByte (kind tag : Byte) (length : Word16) (payload : List Byte) : Byte :=
  - frameSum kind tag length payload

/-- A frame's length field. -/
def lengthField (payload : List Byte) : Word16 := BitVec.ofNat 16 payload.length

/-- The bytes of a frame as they cross a pipe: sync, kind, tag, length, payload, check byte. -/
def frameBytes (kind tag : Byte) (payload : List Byte) : List Byte :=
  [0xA5, 0x5A, kind, tag, byte0 (lengthField payload), byte1 (lengthField payload)] ++ payload ++
    [checkByte kind tag (lengthField payload) payload]

/-- Whether a received frame passes the receiver: its length is at most 1024, its sum with the check byte is 0, and
its kind is below 0x80 (R185). -/
def framePasses (kind tag : Byte) (length : Word16) (payload : List Byte) (check : Byte) : Bool :=
  length.toNat ≤ 1024 && (frameSum kind tag length payload + check == 0) && kind.toNat < 128

/-! ## Payload layouts (R195) -/

/-- The payload of a CLAIM write. -/
def ClaimFields.payload (w : ClaimFields) : List Byte :=
  [w.entry, w.enabled, w.space, w.decode, byte0 w.base, byte1 w.base, byte2 w.base, byte0 w.limit, byte1 w.limit,
    byte2 w.limit, w.target, w.width, w.extra, byte0 w.imageOffset, byte1 w.imageOffset, byte2 w.imageOffset,
    w.readOnly]

/-- Bytes 2 to 19 of a WATCH CONFIGURE payload. -/
def WatchFields.payload (w : WatchFields) : List Byte :=
  [w.space, byte0 w.address, byte1 w.address, byte2 w.address, byte0 w.mask, byte1 w.mask, byte2 w.mask, w.kinds,
    w.initiators, w.dataCompare, byte0 w.dataValue, byte1 w.dataValue, byte0 w.dataMask, byte1 w.dataMask, w.actions,
    w.oneShot, w.arm, w.clearCount]

/-- The frame of a request: its kind (R187), its tag and its payload (R195). `none` for an event. -/
def requestFrame : Instr → Option (Byte × Byte × List Byte)
  | .unknownRequest kind tag payload => some (kind, tag, payload)
  | .ident tag => some (0x01, tag, [])
  | .status tag => some (0x02, tag, [])
  | .set tag n v => some (0x03, tag, [n, byte0 v, byte1 v])
  | .get tag n => some (0x04, tag, [n])
  | .busRun tag => some (0x05, tag, [0])
  | .busHold tag => some (0x05, tag, [1])
  | .busStop tag => some (0x05, tag, [2])
  | .busOff tag => some (0x05, tag, [3])
  | .busReset tag => some (0x05, tag, [4])
  | .slotQuery tag n => some (0x06, tag, [n, 0])
  | .slotAttach tag n => some (0x06, tag, [n, 1])
  | .slotIsolate tag n => some (0x06, tag, [n, 2])
  | .claimWrite tag w => some (0x07, tag, w.payload)
  | .claimRead tag n => some (0x07, tag, [n])
  | .ops tag payload => some (0x08, tag, payload)
  | .dmaMode tag ch mode dir owner options => some (0x09, tag, [ch, mode, dir, owner, options])
  | .dmaAddr tag ch page offset step => some (0x0A, tag, [ch, page, byte0 offset, byte1 offset, step])
  | .dmaCount tag ch n => some (0x0B, tag, [ch, byte0 n, byte1 n, byte2 n])
  | .dmaStart tag ch => some (0x0C, tag, [ch, 0])
  | .dmaClear tag ch => some (0x0C, tag, [ch, 1])
  | .dmaPulse tag ch => some (0x0C, tag, [ch, 2])
  | .dmaQuery tag ch => some (0x0D, tag, [ch])
  | .lineQuery tag l => some (0x0E, tag, [l, 0])
  | .lineConfigure tag l sense enabled group keep entry => some (0x0E, tag, [l, 1, sense, enabled, group, keep, entry])
  | .clearStuck tag l bitmap => some (0x0E, tag, [l, 2, bitmap])
  | .clearPending tag l bitmap => some (0x0E, tag, [l, 3, bitmap])
  | .serviceWrite tag e record count steps => some (0x0F, tag, e :: 1 :: record :: count :: steps)
  | .serviceQuery tag e => some (0x0F, tag, [e, 0])
  | .timerQuery tag t => some (0x10, tag, [t, 0])
  | .timerStart tag t period entry keep => some (0x10, tag, [t, 1, byte0 period, byte1 period, entry, keep, 1])
  | .timerStop tag t period entry keep => some (0x10, tag, [t, 1, byte0 period, byte1 period, entry, keep, 0])
  | .watchQuery tag u => some (0x11, tag, [u, 0])
  | .watchConfigure tag u w => some (0x11, tag, u :: 1 :: w.payload)
  | .watchArm tag u => some (0x11, tag, [u, 2])
  | .watchDisarm tag u => some (0x11, tag, [u, 3])
  | .drain tag ne => some (0x12, tag, [0, ne])
  | .drainClear tag ne => some (0x12, tag, [1, ne])
  | .imgWrite tag offset count data =>
    some (0x13, tag, byte0 offset :: byte1 offset :: byte2 offset :: byte0 count :: byte1 count :: data)
  | .imgRead tag offset length =>
    some (0x14, tag, [byte0 offset, byte1 offset, byte2 offset, byte0 length, byte1 length])
  | .imgFill tag offset length value =>
    some (0x15, tag, [byte0 offset, byte1 offset, byte2 offset, byte0 length, byte1 length, byte2 length, value])
  | .partReset _ _ _ => none
  | .linkReady => none
  | .linkLoss => none
  | .frameDiscarded _ _ _ _ _ => none
  | .receiverSilenceTimeout => none
  | .inPipeRead => none
  | .fillStore => none
  | .presenceArrival _ => none
  | .presenceLoss _ => none
  | .csupgoodLow => none
  | .csupgoodHigh => none
  | .supplyLost => none
  | .supplyRestored => none
  | .pulseEnd => none
  | .cycleStart _ => none
  | .cycleWaitEnd _ _ => none
  | .readyTimeout _ => none
  | .cycleEnd => none
  | .delayExpiry => none
  | .pauseExpiry => none
  | .waitDmaTimeout => none
  | .timerExpiry _ => none
  | .refreshIntervalExpiry => none
  | .refreshCycleEnd => none
  | .holdTimerExpiry => none
  | .channelRequestAssert _ _ => none
  | .channelRequestDeassert _ _ => none
  | .masterStrobeAssert _ _ _ => none
  | .masterStrobeRelease _ _ => none
  | .lineAssert _ _ => none
  | .lineDeassert _ _ => none
  | .byteTaken _ => none

/-! ## Which row a frame spells (R187, R195)

A payload that has no layout (its length, or an action code not in its list) spells UNKNOWN_REQUEST: its owner
refuses it with BAD_REQUEST before any other check (R187). -/

/-- BUS: one action byte. -/
def busRequest (tag : Byte) (payload : List Byte) : Instr :=
  match payload with
  | [a] =>
    if a = 0 then .busRun tag
    else if a = 1 then .busHold tag
    else if a = 2 then .busStop tag
    else if a = 3 then .busOff tag
    else if a = 4 then .busReset tag
    else .unknownRequest 0x05 tag payload
  | _ => .unknownRequest 0x05 tag payload

/-- SLOT: a slot number and an action byte. -/
def slotRequest (tag : Byte) (payload : List Byte) : Instr :=
  match payload with
  | [n, a] =>
    if a = 0 then .slotQuery tag n
    else if a = 1 then .slotAttach tag n
    else if a = 2 then .slotIsolate tag n
    else .unknownRequest 0x06 tag payload
  | _ => .unknownRequest 0x06 tag payload

/-- CLAIM: one byte reads, seventeen bytes write. -/
def claimRequest (tag : Byte) (payload : List Byte) : Instr :=
  match payload with
  | [n] => .claimRead tag n
  | [entry, enabled, space, decode, b0, b1, b2, l0, l1, l2, target, width, extra, o0, o1, o2, readOnly] =>
    .claimWrite tag
      { entry := entry, enabled := enabled, space := space, decode := decode, base := word24 b0 b1 b2,
        limit := word24 l0 l1 l2, target := target, width := width, extra := extra, imageOffset := word24 o0 o1 o2,
        readOnly := readOnly }
  | _ => .unknownRequest 0x07 tag payload

/-- DMA_MODE. -/
def dmaModeRequest (tag : Byte) (payload : List Byte) : Instr :=
  match payload with
  | [ch, mode, dir, owner, options] => .dmaMode tag ch mode dir owner options
  | _ => .unknownRequest 0x09 tag payload

/-- DMA_ADDR. -/
def dmaAddrRequest (tag : Byte) (payload : List Byte) : Instr :=
  match payload with
  | [ch, page, o0, o1, step] => .dmaAddr tag ch page (word16 o0 o1) step
  | _ => .unknownRequest 0x0A tag payload

/-- DMA_COUNT. -/
def dmaCountRequest (tag : Byte) (payload : List Byte) : Instr :=
  match payload with
  | [ch, n0, n1, n2] => .dmaCount tag ch (word24 n0 n1 n2)
  | _ => .unknownRequest 0x0B tag payload

/-- DMA_CMD: a channel and a command byte. -/
def dmaCmdRequest (tag : Byte) (payload : List Byte) : Instr :=
  match payload with
  | [ch, c] =>
    if c = 0 then .dmaStart tag ch
    else if c = 1 then .dmaClear tag ch
    else if c = 2 then .dmaPulse tag ch
    else .unknownRequest 0x0C tag payload
  | _ => .unknownRequest 0x0C tag payload

/-- DMA_QUERY. -/
def dmaQueryRequest (tag : Byte) (payload : List Byte) : Instr :=
  match payload with
  | [ch] => .dmaQuery tag ch
  | _ => .unknownRequest 0x0D tag payload

/-- LINE: a line, an action, and that action's fields. -/
def lineRequest (tag : Byte) (payload : List Byte) : Instr :=
  match payload with
  | [l, a] => if a = 0 then .lineQuery tag l else .unknownRequest 0x0E tag payload
  | [l, a, bitmap] =>
    if a = 2 then .clearStuck tag l bitmap
    else if a = 3 then .clearPending tag l bitmap
    else .unknownRequest 0x0E tag payload
  | [l, a, sense, enabled, group, keep, entry] =>
    if a = 1 then .lineConfigure tag l sense enabled group keep entry else .unknownRequest 0x0E tag payload
  | _ => .unknownRequest 0x0E tag payload

/-- SERVICE: an entry, an action, and for WRITE the record flag, the step count and the step records. -/
def serviceRequest (tag : Byte) (payload : List Byte) : Instr :=
  match payload with
  | [e, a] => if a = 0 then .serviceQuery tag e else .unknownRequest 0x0F tag payload
  | e :: a :: record :: count :: steps =>
    if a = 1 then .serviceWrite tag e record count steps else .unknownRequest 0x0F tag payload
  | _ => .unknownRequest 0x0F tag payload

/-- TIMER: a timer, an action, and for CONFIGURE its fields. -/
def timerRequest (tag : Byte) (payload : List Byte) : Instr :=
  match payload with
  | [t, a] => if a = 0 then .timerQuery tag t else .unknownRequest 0x10 tag payload
  | [t, a, p0, p1, entry, keep, run] =>
    if a = 1 then
      if run = 1 then .timerStart tag t (word16 p0 p1) entry keep
      else if run = 0 then .timerStop tag t (word16 p0 p1) entry keep
      else .unknownRequest 0x10 tag payload
    else .unknownRequest 0x10 tag payload
  | _ => .unknownRequest 0x10 tag payload

/-- WATCH: a unit, an action, and for CONFIGURE its fields. -/
def watchRequest (tag : Byte) (payload : List Byte) : Instr :=
  match payload with
  | [u, a] =>
    if a = 0 then .watchQuery tag u
    else if a = 2 then .watchArm tag u
    else if a = 3 then .watchDisarm tag u
    else .unknownRequest 0x11 tag payload
  | [u, a, space, a0, a1, a2, m0, m1, m2, kinds, initiators, compare, v0, v1, d0, d1, actions, oneShot, arm, clear] =>
    if a = 1 then
      .watchConfigure tag u
        { space := space, address := word24 a0 a1 a2, mask := word24 m0 m1 m2, kinds := kinds,
          initiators := initiators, dataCompare := compare, dataValue := word16 v0 v1, dataMask := word16 d0 d1,
          actions := actions, oneShot := oneShot, arm := arm, clearCount := clear }
    else .unknownRequest 0x11 tag payload
  | _ => .unknownRequest 0x11 tag payload

/-- DRAIN: a flags byte, whose bit 0 is CLEAR and whose other bits are clear, and Ne. -/
def drainRequest (tag : Byte) (payload : List Byte) : Instr :=
  match payload with
  | [flags, ne] =>
    if flags = 0 then .drain tag ne
    else if flags = 1 then .drainClear tag ne
    else .unknownRequest 0x12 tag payload
  | _ => .unknownRequest 0x12 tag payload

/-- IMG_WRITE. -/
def imgWriteRequest (tag : Byte) (payload : List Byte) : Instr :=
  match payload with
  | o0 :: o1 :: o2 :: c0 :: c1 :: data => .imgWrite tag (word24 o0 o1 o2) (word16 c0 c1) data
  | _ => .unknownRequest 0x13 tag payload

/-- IMG_READ. -/
def imgReadRequest (tag : Byte) (payload : List Byte) : Instr :=
  match payload with
  | [o0, o1, o2, n0, n1] => .imgRead tag (word24 o0 o1 o2) (word16 n0 n1)
  | _ => .unknownRequest 0x14 tag payload

/-- IMG_FILL. -/
def imgFillRequest (tag : Byte) (payload : List Byte) : Instr :=
  match payload with
  | [o0, o1, o2, n0, n1, n2, value] => .imgFill tag (word24 o0 o1 o2) (word24 n0 n1 n2) value
  | _ => .unknownRequest 0x15 tag payload

/-- The row a good frame spells, by the dispatch table of R187 and the layouts of R195. -/
def requestOf (kind tag : Byte) (payload : List Byte) : Instr :=
  if kind = 0x01 then (if payload = [] then .ident tag else .unknownRequest 0x01 tag payload)
  else if kind = 0x02 then (if payload = [] then .status tag else .unknownRequest 0x02 tag payload)
  else if kind = 0x03 then
    match payload with
    | [n, v0, v1] => .set tag n (word16 v0 v1)
    | _ => .unknownRequest 0x03 tag payload
  else if kind = 0x04 then
    match payload with
    | [n] => .get tag n
    | _ => .unknownRequest 0x04 tag payload
  else if kind = 0x05 then busRequest tag payload
  else if kind = 0x06 then slotRequest tag payload
  else if kind = 0x07 then claimRequest tag payload
  else if kind = 0x08 then .ops tag payload
  else if kind = 0x09 then dmaModeRequest tag payload
  else if kind = 0x0A then dmaAddrRequest tag payload
  else if kind = 0x0B then dmaCountRequest tag payload
  else if kind = 0x0C then dmaCmdRequest tag payload
  else if kind = 0x0D then dmaQueryRequest tag payload
  else if kind = 0x0E then lineRequest tag payload
  else if kind = 0x0F then serviceRequest tag payload
  else if kind = 0x10 then timerRequest tag payload
  else if kind = 0x11 then watchRequest tag payload
  else if kind = 0x12 then drainRequest tag payload
  else if kind = 0x13 then imgWriteRequest tag payload
  else if kind = 0x14 then imgReadRequest tag payload
  else if kind = 0x15 then imgFillRequest tag payload
  else .unknownRequest kind tag payload

/-! ## The opcode table's words -/

/-- The command a word of the opcode table spells. The table gives no row any bits (98_reader.md: 0 rows with fixed
bits, 0 with fields), so no word spells one. -/
def decodeTableWord (_nbits _w : Nat) : Option Instr := none

end Sys2Proof
end

