-- ==== Sys2Proof/Machine/Types.lean ====
section
/-! DEFINITION. The plain data each block of the HBC-8 owns: one structure or inductive per record the manual lists.
State.lean joins them. -/

namespace Sys2Proof.Machine

/-! ## Bus controller and slots (Chapter 2) -/

/-- The six bus states (R38). -/
inductive BusState
  | off | resetting | run | hold | stop | down
  deriving DecidableEq, Repr

/-- The cause of the most recent change of bus state (R38). -/
inductive BusCause
  | none | request | watch (unit : Fin 2) | supply | resetEnd
  deriving DecidableEq, Repr

/-- The supply monitor's four states (R45). -/
inductive SupplyState
  | good | low | lost | recovering
  deriving DecidableEq, Repr

/-- The bus controller's fields (R38), the running millisecond of the pulse (R41), the time the supply input has
held its level (R45), and the clock code BCLK runs at (R44). -/
structure Bus where
  state        : BusState
  cause        : BusCause
  pulseLeft    : Nat
  pulseMicros  : Nat
  holdRequest  : Option (Fin 2)
  supply       : SupplyState
  supplyMicros : Nat
  clock        : Nat
  deriving DecidableEq, Repr

/-- A slot's place in the slot state machine (R26). -/
inductive SlotState
  | empty | isolated | attached | faulted
  deriving DecidableEq, Repr

/-- Why a slot is FAULTED (R26). -/
inductive SlotFault
  | none | holdLimit
  deriving DecidableEq, Repr

/-- A SLOT request taken and waiting for a cycle boundary (R26). -/
inductive SlotChange
  | none | isolate | attach
  deriving DecidableEq, Repr

/-- The cause a SLOT_CHANGE notice carries (R195). -/
inductive SlotCause
  | presence | request | holdLimit | bus
  deriving DecidableEq, Repr

/-- A request whose reply is built later (R188): its tag, and whether it still belongs to the present link (R193). -/
structure Waiting where
  tag    : Byte
  wanted : Bool
  deriving DecidableEq, Repr

/-- A slot record (R26), with the requests that wait for its pending change (R33, R34). -/
structure Slot where
  state   : SlotState
  present : Bool
  wide    : Bool
  fault   : SlotFault
  change  : SlotChange
  waiting : List Waiting
  deriving DecidableEq, Repr

/-- What the card in a slot drives on its own side of the buffers: its copies of the twelve interrupt lines and of
the four channel request lines, true when asserted (R27). -/
structure Card where
  lines    : Vector Bool 12
  requests : Vector Bool 4
  deriving DecidableEq, Repr

/-! ## Cycle planner (Chapter 1) -/

/-- The target of a claim (R4). -/
inductive ClaimTarget
  | slot (n : Fin 8) | image
  deriving DecidableEq, Repr

/-- A claim table entry (R4). `wide` is the width field, `extra` is E. -/
structure Claim where
  enabled     : Bool
  space       : Space
  base        : Nat
  limit       : Nat
  decode      : Nat
  target      : ClaimTarget
  wide        : Bool
  extra       : Nat
  imageOffset : Nat
  readOnly    : Bool
  deriving DecidableEq, Repr

/-- The target of a cycle (R1). -/
inductive CycleTarget
  | slot (n : Fin 8) | image | all
  deriving DecidableEq, Repr

/-- What one byte address resolves to (R5, R10): the claim entry, or none when unclaimed, with the target, width, E,
the byte's own offset in image memory (R20) and read-only. -/
structure Resolved where
  entry       : Option (Fin 24)
  target      : CycleTarget
  wide        : Bool
  extra       : Nat
  imageOffset : Nat
  readOnly    : Bool
  deriving DecidableEq, Repr

/-- How one byte of an access ended (R15). -/
inductive ByteStatus
  | ok | timeout | blocked
  deriving DecidableEq, Repr

/-- One byte of an access result: its outcome, and its value for a read (R15). -/
structure ByteResult where
  status : ByteStatus
  value  : Byte
  deriving DecidableEq, Repr

/-- Which of its cycles an access runs next (R11). -/
inductive Stage
  | first | second | done
  deriving DecidableEq, Repr

/-- The flags of an access result (R9). -/
structure AccessFlags where
  unclaimed : Bool
  prot      : Bool
  narrowed  : Bool
  deriving DecidableEq, Repr

/-- An access in progress (R9): its inputs, its two resolutions (R10), its plan (`wideAttempt`, R11; `narrowed`,
R12), the cycle it runs next, the outcomes so far, and its cycles driven (R13). A DMA transfer's access also carries
whether it is the terminal count transfer (R97) and whether a pulse was pending when it began (R90). -/
structure Access where
  space       : Space
  address     : Nat
  word        : Bool
  write       : Bool
  writeLow    : Byte
  writeHigh   : Byte
  low         : Resolved
  high        : Resolved
  wideAttempt : Bool
  narrowed    : Bool
  stage       : Stage
  lowResult   : ByteResult
  highResult  : ByteResult
  cycles      : Nat
  terminal    : Bool
  pulsed      : Bool
  deriving DecidableEq, Repr

/-- What an initiator asks the planner for (R9). -/
structure AccessInput where
  space     : Space
  address   : Nat
  word      : Bool
  write     : Bool
  writeLow  : Byte
  writeHigh : Byte
  deriving DecidableEq, Repr

/-- The initiators of cycles (R25). -/
inductive Initiator
  | queue | channel (n : Fin 4) | service | master
  deriving DecidableEq, Repr

/-- A DMA channel's direction (R82). -/
inductive DmaDirection
  | toCard | fromCard | verify
  deriving DecidableEq, Repr

/-- The card side of a DMA transfer's cycle (R93): the owner slot, the direction, and whether TC is asserted. -/
structure CardSide where
  owner     : Fin 8
  direction : DmaDirection
  terminal  : Bool
  deriving DecidableEq, Repr

/-- The kinds of driven cycle: one of an access, a PROBE (R22), a refresh (R63). -/
inductive CycleKind
  | access | probe | refresh
  deriving DecidableEq, Repr

/-- The phases of a cycle (R1). -/
inductive Phase
  | setup | strobe | wait | recovery
  deriving DecidableEq, Repr

/-- The running driven cycle (R1): phase, space, address, direction, width, target, E, Tc, W and initiator, with the
clock code fixed for it (R3); the slots that take part in a cycle to ALL or a PROBE (R17, R18, R22); the image offset
and read-only field (R20); the byte of the access it carries when NARROW (R11); the write data; the bytes it took and
a PROBE's samples; whether W reached Tc (R14) and whether its target's buffers closed (R21); the card side of a DMA
transfer (R93). `spent` is the time since SETUP began in half bus clocks, as it stood at the last microsecond end,
`none` before the first one (log entry 7). -/
structure Cycle where
  kind        : CycleKind
  phase       : Phase
  spent       : Option Nat
  space       : Space
  address     : Nat
  write       : Bool
  wide        : Bool
  target      : CycleTarget
  extra       : Nat
  clock       : Nat
  limit       : Nat
  waits       : Nat
  initiator   : Initiator
  members     : Vector Bool 8
  imageOffset : Nat
  readOnly    : Bool
  unclaimed   : Bool
  highByte    : Bool
  writeLow    : Byte
  writeHigh   : Byte
  readLow     : Byte
  readHigh    : Byte
  samples     : Vector Byte 8
  timedOut    : Bool
  lost        : Bool
  cardSide    : Option CardSide
  deriving DecidableEq, Repr

/-- A master cycle whose strobe is asserted (R23): the channel and its owner slot, the cycle, what its address
resolved to, the byte fetched for a window read (R176), and the time since the strobe was asserted, in half bus clocks
as it stood at the last microsecond end, `none` before the first one (log entry 7). -/
structure MasterCycle where
  channel : Fin 4
  slot    : Fin 8
  space   : Space
  address : Nat
  write   : Bool
  found   : Resolved
  fetched : Byte
  spent   : Option Nat
  deriving DecidableEq, Repr

/-- The planner's state: the running cycle, the asserted master cycle, the address lines (R1), the length of the
last cycle that ended (R13) and the free bytes used so far (log entry 4). -/
structure Planner where
  cycle      : Option Cycle
  master     : Option MasterCycle
  address    : BitVec 20
  lastClocks : Nat
  freeBytes  : Nat
  deriving DecidableEq, Repr

/-- What the planner presents to the watch units (R25, R166). -/
structure Presentation where
  space     : Space
  address   : Nat
  word      : Bool
  write     : Bool
  data0     : Byte
  data1     : Byte
  initiator : Initiator
  slot      : Option (Fin 8)
  unclaimed : Bool
  prot      : Bool
  timeout   : Bool
  deriving DecidableEq, Repr

/-! ## Bus arbiter (Chapter 3) -/

/-- The claimant whose cycle runs now, or whose grant stands (R48). -/
inductive Owner
  | none | refresh | channel (n : Fin 4) | service | queue | master (n : Fin 4)
  deriving DecidableEq, Repr

/-- The channel that keeps the bus between its cycles (R48). -/
inductive Hold
  | none | demand (n : Fin 4) | block (n : Fin 4) | cascade (n : Fin 4)
  deriving DecidableEq, Repr

/-- The arbiter's fields (R48), the cascade grant in force (R58), a hold that ends at the next boundary (R56), the
burst limit read for the hold (R54), and the refresh interval in use with a SET of it that waits (R62). -/
structure Arbiter where
  owner         : Owner
  hold          : Hold
  grant         : Option (Fin 4)
  holdEnding    : Bool
  burst         : Nat
  burstLimit    : Nat
  timerChannel  : Option (Fin 4)
  timerElapsed  : Nat
  timerLimit    : Nat
  owed          : Nat
  lost          : Nat
  row           : Byte
  shortReported : Bool
  interval      : Nat
  intervalUse   : Nat
  intervalSet   : Bool
  deriving DecidableEq, Repr

/-! ## Operation queue (Chapter 4) -/

/-- A host operation (R67); `times` is the repeat, 1 to 256. -/
inductive OpKind
  | access (space : Space) (write : Bool) (address : Nat) (word : Bool) (times : Nat) (fixed : Bool) (data : List Byte)
  | probe (port : Nat)
  | pause (micros : Nat)
  | waitDma (channel : Fin 4) (limit : Nat)
  deriving DecidableEq, Repr

/-- An operation record with its progress (R66). -/
structure OpRecord where
  kind   : OpKind
  frame  : Nat
  index  : Nat
  done   : Nat
  cycles : Nat
  flags  : AccessFlags
  data   : List Byte
  deriving DecidableEq, Repr

/-- How an operation ended (R73). -/
inductive OpStatus
  | ok | timeout | blocked | skipped | aborted
  deriving DecidableEq, Repr

/-- An operation's result (R73). -/
structure OpResult where
  status : OpStatus
  flags  : AccessFlags
  cycles : Nat
  data   : List Byte
  deriving DecidableEq, Repr

/-- An open frame (R66). -/
structure OpenFrame where
  id          : Nat
  tag         : Byte
  stopOnError : Bool
  opCount     : Nat
  adjusted    : Bool
  wanted      : Bool
  results     : List OpResult
  deriving DecidableEq, Repr

/-- The queue's execution state (R66). -/
inductive QueueState
  | idle | executing | pausing | waitingDma
  deriving DecidableEq, Repr

/-- The operation queue's fields (R66), with the access in progress. `overtaken` is on while the command
WAIT_DMA_TIMEOUT that is due belongs to a wait the channel has ended first (R76). -/
structure OpQueue where
  ops       : List OpRecord
  frames    : List OpenFrame
  nextFrame : Nat
  state     : QueueState
  pauseLeft : Nat
  waitLeft  : Nat
  overtaken : Bool
  access    : Option Access
  deriving DecidableEq, Repr

/-! ## DMA unit (Chapter 5) -/

/-- A channel's mode (R82). -/
inductive DmaMode
  | single | demand | block | cascade
  deriving DecidableEq, Repr

/-- A channel's state (R83). -/
inductive DmaState
  | idle | loaded | running | done | faulted
  deriving DecidableEq, Repr

/-- A channel's fault cause or last cause (R82). -/
inductive DmaCause
  | none | blocked | timeout | ownerLost | holdLimit | aborted
  deriving DecidableEq, Repr

/-- A channel context (R82), with the transfer in progress. Busy is on exactly in RUNNING (R83) and the width
belongs to the channel number, so neither is a field. -/
structure Channel where
  mode          : DmaMode
  direction     : DmaDirection
  owner         : Fin 8
  recordEnd     : Bool
  autoReload    : Bool
  down          : Bool
  page          : Fin 16
  offset        : Word16
  count         : Word16
  basePage      : Fin 16
  baseOffset    : Word16
  baseCount     : Word16
  addressLoaded : Bool
  countLoaded   : Bool
  finished      : Bool
  state         : DmaState
  cause         : DmaCause
  runFlags      : AccessFlags
  pulse         : Bool
  blockRun      : Bool
  stray         : Nat
  waiting       : List Waiting
  access        : Option Access
  deriving DecidableEq, Repr

/-- The sub-conditions of RUNNING (R84). -/
inductive SubCondition
  | waiting | transferring | master | releasing
  deriving DecidableEq, Repr

/-! ## Interrupt unit (Chapter 6) -/

/-- How a card's use of a line makes a request (R106). -/
inductive Sense
  | edge | level
  deriving DecidableEq, Repr

/-- A line's configuration (R106); entry `none` is NONE. -/
structure LineConfig where
  sense     : Sense
  enabled   : Bool
  group     : Fin 8
  keepAlive : Bool
  entry     : Option (Fin 24)
  deriving DecidableEq, Repr

/-- A line-slot's state (R108). -/
structure LineSlot where
  pending       : Bool
  inService     : Bool
  stuck         : Bool
  stillAsserted : Nat
  reference     : Bool
  deriving DecidableEq, Repr

/-! ## Service engine and timers (Chapter 7) -/

/-- A step of a service entry (R128). -/
inductive Step
  | inp (port : Nat) (word : Bool)
  | inrep (port : Nat) (word : Bool) (times : Nat)
  | out (port : Nat) (word : Bool) (value : Word16)
  | min (address : Nat) (times : Nat)
  | mout (address : Nat) (word : Bool) (value : Word16)
  | delay (micros : Nat)
  deriving DecidableEq, Repr

/-- An entry of the service table (R127). -/
structure ServiceEntry where
  record : Bool
  steps  : List Step
  deriving DecidableEq, Repr

/-- The 106 sources: 96 line-slots, four timers, four channels, two watch units (00 Terms, R149). -/
inductive Source
  | lineSlot (line : Fin 12) (slot : Fin 8)
  | timer (n : Fin 4)
  | channel (n : Fin 4)
  | watch (u : Fin 2)
  deriving DecidableEq, Repr

/-- The engine's states (R131). -/
inductive EngineState
  | idle | serving | suspended
  deriving DecidableEq, Repr

/-- The flags of a capture record (R150). -/
structure RecordFlags where
  stepError     : Bool
  unclaimed     : Bool
  blocked       : Bool
  timeout       : Bool
  prot          : Bool
  narrowed      : Bool
  stillAsserted : Bool
  held          : Bool
  reload        : Bool
  deriving DecidableEq, Repr

/-- The service engine's fields (R131), with the access in progress. `entry` is `none` while IDLE, `some none` for a
service of NONE and `some (some e)` for entry e. -/
structure Engine where
  state     : EngineState
  source    : Option Source
  entry     : Option (Option (Fin 24))
  step      : Nat
  done      : Nat
  delayLeft : Nat
  captured  : List Byte
  flags     : RecordFlags
  firstFail : Option Nat
  start     : Time
  held      : Bool
  access    : Option Access
  deriving DecidableEq, Repr

/-- A periodic timer (R145). -/
structure Timer where
  running   : Bool
  period    : Nat
  entry     : Option (Fin 24)
  keepAlive : Bool
  elapsed   : Nat
  pending   : Bool
  inService : Bool
  deriving DecidableEq, Repr

/-! ## Capture queue (Chapter 8) -/

/-- A capture record (R150). The source names the kind; `slot` is that of a DMA_END or WATCH record, a LINE record's
slot standing in its source. -/
structure Record where
  source    : Source
  slot      : Option (Fin 8)
  flags     : RecordFlags
  sequence  : Word16
  time      : Time
  coalesced : Nat
  lost      : Nat
  firstFail : Option Nat
  entry     : Option (Fin 24)
  steps     : Option Nat
  data      : List Byte
  deriving DecidableEq, Repr

/-- A source's counts (R149). -/
structure Counts where
  coalesced : Nat
  lost      : Nat
  deriving DecidableEq, Repr

/-- The capture queue's fields (R149); the record count and byte count are functions of the list. -/
structure Capture where
  records      : List Record
  seq          : Word16
  lineCounts   : Vector (Vector Counts 8) 12
  timerCounts  : Vector Counts 4
  channelLost  : Vector Nat 4
  watchLost    : Vector Nat 2
  dropTotal    : Nat
  high         : Bool
  deriving DecidableEq, Repr

/-! ## Bus watch (Chapter 9) -/

/-- A watch unit (R165). -/
structure Watch where
  armed       : Bool
  space       : Space
  address     : BitVec 20
  mask        : BitVec 20
  reads       : Bool
  writes      : Bool
  fromQueue   : Bool
  fromChannel : Bool
  fromService : Bool
  fromMaster  : Bool
  dataCompare : Bool
  dataValue   : Word16
  dataMask    : Word16
  record      : Bool
  hold        : Bool
  oneShot     : Bool
  hits        : Nat
  deriving DecidableEq, Repr

/-! ## Image memory (Chapter 10) -/

/-- Image memory and its fill record (R174). `cells` is the canonical list of the bytes that are not 0x00. -/
structure Image where
  cells       : List Host.Cell
  filling     : Bool
  fillValue   : Byte
  fillNext    : Nat
  fillEnd     : Nat
  fillTag     : Byte
  replyWanted : Bool
  deriving DecidableEq, Repr

/-! ## Message link (Chapter 11) -/

/-- The receiver's three states (R184). -/
inductive RxState
  | hunt | header | payload
  deriving DecidableEq, Repr

/-- The receiver: its state, whether the first sync is seen, and the bytes gathered (R184). -/
structure Receiver where
  state   : RxState
  sync    : Bool
  header  : List Byte
  payload : List Byte
  deriving DecidableEq, Repr

/-- A frame in the transmit list: kind, tag and payload; its length and check byte follow from them (R183). `isNotice`
says whether an owner handed it over as a notice (R190) or a request is answered with it: R189 counts the two apart, and
the kind byte does not tell them, since the reply to a request of kind 0x60 has kind 0xE0 too (R187). -/
structure Frame where
  kind     : Byte
  tag      : Byte
  payload  : List Byte
  isNotice : Bool := false
  deriving DecidableEq, Repr

/-- The link's state (R182 to R189), with the bytes that wait in the OUT pipe and the last frame sent. -/
structure Link where
  ready    : Bool
  rx       : Receiver
  silence  : Nat
  tx       : List Frame
  outPipe  : List Byte
  errors   : Nat
  overflow : Bool
  lastSent : List Byte
  deriving DecidableEq, Repr

/-- The settings table (R191), in the order of the setting numbers 1 to 11. -/
structure Settings where
  clock         : Nat
  readyTimeout  : Nat
  refresh       : Nat
  pulse         : Nat
  afterReset    : Nat
  masterLimit   : Nat
  burstLimit    : Nat
  almostFull    : Nat
  notices       : Nat
  globalEnable  : Nat
  groupMask     : Nat
  deriving DecidableEq, Repr

/-- The status byte of a reply (R188). -/
inductive Status
  | ok | adjusted | badRequest | range | badState | busy | conflict
  deriving DecidableEq, Repr

end Sys2Proof.Machine
end

