-- ==== Sys2Proof/Machine/ResetValues.lean ====
section
/-! DEFINITION. The value of each block's fields after part reset (R194 and each block's own table). -/

namespace Sys2Proof.Machine

/-- R38; the supply monitor starts in GOOD or LOW with the input (R45); BCLK runs at code 16 (R44). -/
def resetBus (supplyGood : Bool) : Bus where
  state := .off
  cause := .none
  pulseLeft := 0
  pulseMicros := 0
  holdRequest := none
  supply := if supplyGood then .good else .low
  supplyMicros := 0
  clock := 16

/-- R26, R28 and R31: state and present from the presence input, the strap as read. -/
def resetSlot (present wide : Bool) : Slot where
  state := if present then .isolated else .empty
  present := present
  wide := wide
  fault := .none
  change := .none
  waiting := []

/-- A card that drives none of its lines. -/
def quietCard : Card where
  lines := Vector.replicate 12 false
  requests := Vector.replicate 4 false

/-- R4. -/
def resetClaim : Claim where
  enabled := false
  space := .mem
  base := 0
  limit := 0
  decode := 20
  target := .slot 0
  wide := false
  extra := 0
  imageOffset := 0
  readOnly := false

/-- R24: no cycle, the address lines at 0x00000. -/
def resetPlanner : Planner where
  cycle := none
  master := none
  address := 0
  lastClocks := 0
  freeBytes := 0

/-- R48, with setting 3's reset value in use (R62, R191). -/
def resetArbiter : Arbiter where
  owner := .none
  hold := .none
  grant := none
  holdEnding := false
  burst := 0
  burstLimit := 0
  timerChannel := none
  timerElapsed := 0
  timerLimit := 0
  owed := 0
  lost := 0
  row := 0
  shortReported := false
  interval := 0
  intervalUse := 15
  intervalSet := false

/-- R66. -/
def resetQueue : OpQueue where
  ops := []
  frames := []
  nextFrame := 0
  state := .idle
  pauseLeft := 0
  waitLeft := 0
  overtaken := false
  access := none

/-- No flags. -/
def noFlags : AccessFlags where
  unclaimed := false
  prot := false
  narrowed := false

/-- R82. -/
def resetChannel : Channel where
  mode := .single
  direction := .toCard
  owner := 0
  recordEnd := false
  autoReload := false
  down := false
  page := 0
  offset := 0
  count := 0
  basePage := 0
  baseOffset := 0
  baseCount := 0
  addressLoaded := false
  countLoaded := false
  finished := false
  state := .idle
  cause := .none
  runFlags := noFlags
  pulse := false
  blockRun := false
  stray := 0
  waiting := []
  access := none

/-- R106. -/
def resetLine : LineConfig where
  sense := .edge
  enabled := false
  group := 0
  keepAlive := false
  entry := none

/-- R108. -/
def resetLineSlot : LineSlot where
  pending := false
  inService := false
  stuck := false
  stillAsserted := 0
  reference := false

/-- R127. -/
def resetEntry : ServiceEntry where
  record := false
  steps := []

/-- No record flags. -/
def noRecordFlags : RecordFlags where
  stepError := false
  unclaimed := false
  blocked := false
  timeout := false
  prot := false
  narrowed := false
  stillAsserted := false
  held := false
  reload := false

/-- R131; also the engine's fields in IDLE. -/
def resetEngine : Engine where
  state := .idle
  source := none
  entry := none
  step := 0
  done := 0
  delayLeft := 0
  captured := []
  flags := noRecordFlags
  firstFail := none
  start := 0
  held := false
  access := none

/-- R145. -/
def resetTimer : Timer where
  running := false
  period := 1000
  entry := none
  keepAlive := false
  elapsed := 0
  pending := false
  inService := false

/-- A source's counts at zero (R149). -/
def zeroCounts : Counts where
  coalesced := 0
  lost := 0

/-- R149. -/
def resetCapture : Capture where
  records := []
  seq := 0
  lineCounts := Vector.replicate 12 (Vector.replicate 8 zeroCounts)
  timerCounts := Vector.replicate 4 zeroCounts
  channelLost := Vector.replicate 4 0
  watchLost := Vector.replicate 2 0
  dropTotal := 0
  high := false

/-- R165. -/
def resetWatch : Watch where
  armed := false
  space := .mem
  address := 0
  mask := 0
  reads := true
  writes := true
  fromQueue := true
  fromChannel := true
  fromService := true
  fromMaster := true
  dataCompare := false
  dataValue := 0
  dataMask := 0
  record := false
  hold := false
  oneShot := false
  hits := 0

/-- R174: every byte 0x00, no fill. -/
def resetImage : Image where
  cells := []
  filling := false
  fillValue := 0
  fillNext := 0
  fillEnd := 0
  fillTag := 0
  replyWanted := false

/-- R184: HUNT, no first sync seen, no bytes gathered. -/
def resetReceiver : Receiver where
  state := .hunt
  sync := false
  header := []
  payload := []

/-- R182, R186, R189, R194. -/
def resetLink : Link where
  ready := false
  rx := resetReceiver
  silence := 0
  tx := []
  outPipe := []
  errors := 0
  overflow := false
  lastSent := []

/-- R191, last column. -/
def resetSettings : Settings where
  clock := 16
  readyTimeout := 15
  refresh := 15
  pulse := 20
  afterReset := 0
  masterLimit := 50
  burstLimit := 0
  almostFull := 384
  notices := 0xFF
  globalEnable := 0
  groupMask := 0

end Sys2Proof.Machine
end

