-- ==== Sys2Proof/Machine/State.lean ====
section
/-! DEFINITION. The whole state of the HBC-8, its faults and refusals, and the state after part reset. -/

namespace Sys2Proof.Machine

/-- Reasons a command could stop the machine. There are none: the manual names no event that stops the HBC-8, and
every command has an effect (safe: no run ends). -/
inductive Fault where
  deriving DecidableEq, Repr

/-- Reasons a command has no meaning in the model. -/
inductive Refusal where
  /-- Raised by an arm of `exec` whose command the model does not cover yet; no arm raises it now (safe). -/
  | notModelled (mnemonic : String)
  deriving DecidableEq, Repr

/-- Everything the manual gives the HBC-8, with the queue of waiting commands in front. INVENTORY.md lists each
field with its rule and its reset value. -/
structure State where
  pending   : List Instr
  bus       : Bus
  slots     : Vector Slot 8
  cards     : Vector Card 8
  claims    : Vector Claim 24
  planner   : Planner
  arb       : Arbiter
  queue     : OpQueue
  channels  : Vector Channel 4
  lines     : Vector LineConfig 12
  lineSlots : Vector (Vector LineSlot 8) 12
  entries   : Vector ServiceEntry 24
  engine    : Engine
  timers    : Vector Timer 4
  timeBase  : Time
  capture   : Capture
  watch     : Vector Watch 2
  image     : Image
  link      : Link
  settings  : Settings
  choices   : Nat
  deriving DecidableEq, Repr

/-- The machine right after part reset (R194): every field at the value its block's table gives. The inputs part
reset reads are taken as no card seated, no wide strap, card supply good (log entry 5). -/
def State.reset : State where
  pending := []
  bus := resetBus true
  slots := Vector.replicate 8 (resetSlot false false)
  cards := Vector.replicate 8 quietCard
  claims := Vector.replicate 24 resetClaim
  planner := resetPlanner
  arb := resetArbiter
  queue := resetQueue
  channels := Vector.replicate 4 resetChannel
  lines := Vector.replicate 12 resetLine
  lineSlots := Vector.replicate 12 (Vector.replicate 8 resetLineSlot)
  entries := Vector.replicate 24 resetEntry
  engine := resetEngine
  timers := Vector.replicate 4 resetTimer
  timeBase := 0
  capture := resetCapture
  watch := Vector.replicate 2 resetWatch
  image := resetImage
  link := resetLink
  settings := resetSettings
  choices := 0

end Sys2Proof.Machine
end

