-- ==== Sys2Proof/Machine/Codes.lean ====
section
/-! DEFINITION. The code lists of R195 and R188: the number each state, cause, kind and status carries in a frame. -/

namespace Sys2Proof.Machine

/-- R188. -/
def Status.code : Status → Byte
  | .ok => 0
  | .adjusted => 1
  | .badRequest => 2
  | .range => 3
  | .badState => 4
  | .busy => 5
  | .conflict => 6

/-- R195, bus state. -/
def BusState.code : BusState → Byte
  | .off => 0
  | .resetting => 1
  | .run => 2
  | .hold => 3
  | .stop => 4
  | .down => 5

/-- R195, bus cause. -/
def BusCause.code : BusCause → Byte
  | .none => 0
  | .request => 1
  | .watch 0 => 2
  | .watch 1 => 3
  | .supply => 4
  | .resetEnd => 5

/-- R195, slot state. -/
def SlotState.code : SlotState → Byte
  | .empty => 0
  | .isolated => 1
  | .attached => 2
  | .faulted => 3

/-- R195, SLOT QUERY: fault cause. -/
def SlotFault.code : SlotFault → Byte
  | .none => 0
  | .holdLimit => 1

/-- R195, SLOT QUERY: pending change. -/
def SlotChange.code : SlotChange → Byte
  | .none => 0
  | .isolate => 1
  | .attach => 2

/-- R195, slot change cause. -/
def SlotCause.code : SlotCause → Byte
  | .presence => 0
  | .request => 1
  | .holdLimit => 2
  | .bus => 3

/-- An on/off field as it is sent. -/
def boolCode (b : Bool) : Byte := if b then 1 else 0

/-- R195, space. -/
def spaceCode : Space → Byte
  | .mem => 0
  | .io => 1

/-- R195, target: SLOT 0-7 as 0-7, IMAGE 8. -/
def ClaimTarget.code : ClaimTarget → Byte
  | .slot n => natByte n.val
  | .image => 8

/-- R195, op status. -/
def OpStatus.code : OpStatus → Byte
  | .ok => 0
  | .timeout => 1
  | .blocked => 2
  | .skipped => 3
  | .aborted => 4

/-- R195, DMA mode. -/
def DmaMode.code : DmaMode → Byte
  | .single => 0
  | .demand => 1
  | .block => 2
  | .cascade => 3

/-- R195, DMA direction. -/
def DmaDirection.code : DmaDirection → Byte
  | .toCard => 0
  | .fromCard => 1
  | .verify => 2

/-- R195, DMA state. -/
def DmaState.code : DmaState → Byte
  | .idle => 0
  | .loaded => 1
  | .running => 2
  | .done => 3
  | .faulted => 4

/-- R195, DMA cause. -/
def DmaCause.code : DmaCause → Byte
  | .none => 0
  | .blocked => 1
  | .timeout => 2
  | .ownerLost => 3
  | .holdLimit => 4
  | .aborted => 5

/-- R195, sub-condition: 0xFF for none. -/
def subConditionCode : Option SubCondition → Byte
  | none => 0xFF
  | some .waiting => 0
  | some .transferring => 1
  | some .master => 2
  | some .releasing => 3

/-- R195, line sense. -/
def Sense.code : Sense → Byte
  | .edge => 0
  | .level => 1

/-- R195, service entry: 0xFF for NONE. -/
def entryCode : Option (Fin 24) → Byte
  | none => 0xFF
  | some e => natByte e.val

/-- R195: a field that can be none carries 0xFF for none. -/
def optionCode : Option Nat → Byte
  | none => 0xFF
  | some n => natByte n

/-- R195: a slot field. -/
def slotCode : Option (Fin 8) → Byte
  | none => 0xFF
  | some n => natByte n.val

/-- R195, engine state. -/
def EngineState.code : EngineState → Byte
  | .idle => 0
  | .serving => 1
  | .suspended => 2

/-- R195, initiator. -/
def Initiator.code : Initiator → Byte
  | .queue => 0
  | .channel _ => 1
  | .service => 2
  | .master => 3

/-- R195, record kind in bits 7-6 and source in bits 3-0 (R150). -/
def Source.recordByte : Source → Byte
  | .lineSlot l _ => natByte l.val
  | .timer n => natByte (64 + n.val)
  | .channel n => natByte (128 + n.val)
  | .watch u => natByte (192 + u.val)

/-! ## Codes read from a request: `none` for an unknown code -/

/-- R195, space. -/
def readSpace (b : Byte) : Option Space :=
  if b = 0 then some .mem else if b = 1 then some .io else none

/-- R195, target. -/
def readTarget (b : Byte) : Option ClaimTarget :=
  if h : b.toNat < 8 then some (.slot ⟨b.toNat, h⟩) else if b = 8 then some .image else none

/-- R195, width of a claim: WIDE is `true`. -/
def readClaimWidth (b : Byte) : Option Bool :=
  if b = 0 then some false else if b = 1 then some true else none

/-- R195, DMA mode. -/
def readMode (b : Byte) : Option DmaMode :=
  if b = 0 then some .single else if b = 1 then some .demand else if b = 2 then some .block
  else if b = 3 then some .cascade else none

/-- R195, DMA direction. -/
def readDirection (b : Byte) : Option DmaDirection :=
  if b = 0 then some .toCard else if b = 1 then some .fromCard else if b = 2 then some .verify else none

/-- R195, DMA step: DOWN is `true`. -/
def readDmaStep (b : Byte) : Option Bool :=
  if b = 0 then some false else if b = 1 then some true else none

/-- R195, line sense. -/
def readSense (b : Byte) : Option Sense :=
  if b = 0 then some .edge else if b = 1 then some .level else none

/-- R195, arm field: ARMED is `true`. -/
def readArm (b : Byte) : Option Bool :=
  if b = 0 then some false else if b = 1 then some true else none

/-! ## Numbers in range -/

/-- A byte as an index below `n`, when it is one. -/
def indexBelow (n : Nat) (b : Byte) : Option (Fin n) :=
  if h : b.toNat < n then some ⟨b.toNat, h⟩ else none

/-- An entry byte: 0 to 23, 0xFF for NONE, and nothing else (R120, R147). -/
def readEntry (b : Byte) : Option (Option (Fin 24)) :=
  if h : b.toNat < 24 then some (some ⟨b.toNat, h⟩) else if b = 0xFF then some none else none

end Sys2Proof.Machine
end

