-- ==== Sys2Proof/Machine/Flags.lean ====
section
/-! DEFINITION. Flags: how the flags of accesses, operations and capture records gather and how they are numbered
in a frame (R15, R73, R99, R143, R195). -/

namespace Sys2Proof.Machine

/-- The flags of either of two accesses (R72, R95). -/
def AccessFlags.join (a b : AccessFlags) : AccessFlags where
  unclaimed := a.unclaimed || b.unclaimed
  prot := a.prot || b.prot
  narrowed := a.narrowed || b.narrowed

/-- R195, op flags: UNCLAIMED bit 0, PROTECTED bit 1, NARROWED bit 2. -/
def AccessFlags.opByte (f : AccessFlags) : Byte :=
  natByte (f.unclaimed.toNat + 2 * f.prot.toNat + 4 * f.narrowed.toNat)

/-- R195, record flags: STEP_ERROR bit 0 to RELOAD bit 8. -/
def RecordFlags.number (f : RecordFlags) : Nat :=
  f.stepError.toNat + 2 * f.unclaimed.toNat + 4 * f.blocked.toNat + 8 * f.timeout.toNat + 16 * f.prot.toNat +
    32 * f.narrowed.toNat + 64 * f.stillAsserted.toNat + 128 * f.held.toNat + 256 * f.reload.toNat

/-- A channel's run flags as record flags (R99, and the run flags of a DMA_QUERY reply, R195). -/
def runRecordFlags (f : AccessFlags) (reload : Bool) : RecordFlags :=
  { noRecordFlags with unclaimed := f.unclaimed, prot := f.prot, narrowed := f.narrowed, reload := reload }

/-- UNCLAIMED and PROTECTED of an access join the record flags; NARROWED is not carried (R135). -/
def RecordFlags.joinAccess (f : RecordFlags) (a : AccessFlags) : RecordFlags :=
  { f with unclaimed := f.unclaimed || a.unclaimed, prot := f.prot || a.prot }

/-- A failing access adds STEP_ERROR and its status (R136). -/
def RecordFlags.fail (f : RecordFlags) (status : ByteStatus) : RecordFlags :=
  match status with
  | .ok => f
  | .timeout => { f with stepError := true, timeout := true }
  | .blocked => { f with stepError := true, blocked := true }

/-- The flags of an access (R15): UNCLAIMED when any byte was unclaimed, PROTECTED when any byte was a write into a
read-only window, NARROWED when a wide attempt fell back. -/
def Access.flags (a : Access) : AccessFlags where
  unclaimed := a.low.entry.isNone || (a.word && a.high.entry.isNone)
  prot := a.write && (a.low.readOnly || (a.word && a.high.readOnly))
  narrowed := a.narrowed

/-- The status of an access (R15): OK when every byte is OK, otherwise the outcome of the first byte, A before A1,
that is not OK. -/
def Access.status (a : Access) : ByteStatus :=
  if a.lowResult.status ≠ .ok then a.lowResult.status
  else if a.word then a.highResult.status else .ok

/-- The data of a read (R9, R15): the low byte, then the high byte of a word access. -/
def Access.data (a : Access) : List Byte :=
  if a.word then [a.lowResult.value, a.highResult.value] else [a.lowResult.value]

end Sys2Proof.Machine
end

