-- ==== Sys2Proof/Machine/Operands.lean ====
section
/-! DEFINITION. Operand forms: the service step records of a SERVICE WRITE (R128, R129) and the operation records of an
OPS frame (R67 to R69), read from their bytes by the layouts of R195, with the sizes the manual gives them. -/

namespace Sys2Proof.Machine

/-! ## Service steps (R128, R195) -/

/-- The fields of a service step record, read before any range check. -/
structure RawStep where
  kind    : Byte
  width   : Byte
  count   : Byte
  address : Word24
  value   : Word16
  deriving DecidableEq, Repr

/-- `n` step records of eight bytes each, and nothing after them; `none` when the bytes are too few or too many
(R129). -/
def readSteps : Nat → List Byte → Option (List RawStep)
  | 0, [] => some []
  | 0, _ => none
  | n + 1, kind :: width :: count :: a0 :: a1 :: a2 :: v0 :: v1 :: rest =>
    match readSteps n rest with
    | some steps => some ({ kind := kind, width := width, count := count, address := word24 a0 a1 a2, value := word16 v0 v1 } :: steps)
    | none => none
  | _ + 1, _ => none

/-- Whether a step's kind code is known: IN 1 to DELAY 6 (R195). -/
def RawStep.known (r : RawStep) : Bool := 1 ≤ r.kind.toNat && r.kind.toNat ≤ 6

/-- A width field of 1 or 2. -/
def widthOk (b : Byte) : Bool := b = 1 || b = 2

/-- A step's fields in range (R129): width, count, I/O port or MEM address, each where the kind reads it. -/
def RawStep.inRange (r : RawStep) : Bool :=
  match r.kind.toNat with
  | 1 => widthOk r.width && r.address.toNat ≤ 0xFFFF
  | 2 => widthOk r.width && 1 ≤ r.count.toNat && r.count.toNat ≤ 32 && r.address.toNat ≤ 0xFFFF
  | 3 => widthOk r.width && r.address.toNat ≤ 0xFFFF
  | 4 => 1 ≤ r.count.toNat && r.count.toNat ≤ 32 && r.address.toNat ≤ 0xFFFFF
  | 5 => widthOk r.width && r.address.toNat ≤ 0xFFFFF
  | _ => true

/-- The value of OUT and MOUT: one byte for width 1, a word for width 2 (R128). -/
def stepValue (word : Bool) (v : Word16) : Word16 := if word then v else v &&& 0x00FF

/-- The step a record stands for; a DELAY time of 0 is stored as 1 (R129). -/
def RawStep.step (r : RawStep) : Step :=
  match r.kind.toNat with
  | 1 => .inp r.address.toNat (r.width = 2)
  | 2 => .inrep r.address.toNat (r.width = 2) r.count.toNat
  | 3 => .out r.address.toNat (r.width = 2) (stepValue (r.width = 2) r.value)
  | 4 => .min r.address.toNat r.count.toNat
  | 5 => .mout r.address.toNat (r.width = 2) (stepValue (r.width = 2) r.value)
  | _ => .delay (max 1 r.count.toNat)

/-- Whether the write is answered ADJUSTED for this record: a DELAY time of 0 (R129). -/
def RawStep.adjusted (r : RawStep) : Bool := r.kind = 6 && r.count = 0

/-- 1 for a byte, 2 for a word. -/
def widthOf (word : Bool) : Nat := if word then 2 else 1

/-- The bytes a step captures (R128). -/
def Step.captures : Step → Nat
  | .inp _ word => widthOf word
  | .inrep _ word times => times * widthOf word
  | .out _ _ _ => 0
  | .min _ times => times
  | .mout _ _ _ => 0
  | .delay _ => 0

/-- The captured length of a list of steps (R127). -/
def capturedLength (steps : List Step) : Nat := (steps.map Step.captures).sum

/-- The accesses a step makes (R128): a MIN reads words while two or more bytes remain and a byte for a last odd
one. -/
def Step.accesses : Step → Nat
  | .inp _ _ => 1
  | .inrep _ _ times => times
  | .out _ _ _ => 1
  | .min _ times => (times + 1) / 2
  | .mout _ _ _ => 1
  | .delay _ => 0

/-- A step's `k`-th access, counted from 0 (R128, R135). A DELAY step makes none. -/
def Step.access (st : Step) (k : Nat) : Option AccessInput :=
  match st with
  | .inp port word => some { space := .io, address := port, word := word, write := false, writeLow := 0, writeHigh := 0 }
  | .inrep port word _ =>
    some { space := .io, address := port, word := word, write := false, writeLow := 0, writeHigh := 0 }
  | .out port word v =>
    some { space := .io, address := port, word := word, write := true, writeLow := byte0 v, writeHigh := byte1 v }
  | .min address times =>
    some { space := .mem, address := (address + 2 * k) % 2 ^ 20, word := decide (2 * k + 2 ≤ times), write := false,
           writeLow := 0, writeHigh := 0 }
  | .mout address word v =>
    some { space := .mem, address := address, word := word, write := true, writeLow := byte0 v, writeHigh := byte1 v }
  | .delay _ => none

/-- Whether a step captures what its accesses read (R135). -/
def Step.reads : Step → Bool
  | .inp _ _ => true
  | .inrep _ _ _ => true
  | .out _ _ _ => false
  | .min _ _ => true
  | .mout _ _ _ => false
  | .delay _ => false

/-- A step as the eight bytes of a SERVICE QUERY reply (R130, R195): a field its kind does not read is sent as 0. -/
def Step.record : Step → List Byte
  | .inp port word => [1, natByte (widthOf word), 0] ++ bytes3 port ++ [0, 0]
  | .inrep port word times => [2, natByte (widthOf word), natByte times] ++ bytes3 port ++ [0, 0]
  | .out port word v => [3, natByte (widthOf word), 0] ++ bytes3 port ++ [byte0 v, byte1 v]
  | .min address times => [4, 0, natByte times] ++ bytes3 address ++ [0, 0]
  | .mout address word v => [5, natByte (widthOf word), 0] ++ bytes3 address ++ [byte0 v, byte1 v]
  | .delay micros => [6, 0, natByte micros, 0, 0, 0, 0, 0]

/-! ## Operations (R67, R195) -/

/-- The fields of an operation record, read before any range check; `address` is the four-byte field, `data` the
write bytes. -/
structure RawOp where
  kind  : Byte
  width : Byte
  times : Byte
  step  : Byte
  a0    : Byte
  a1    : Byte
  a2    : Byte
  a3    : Byte
  data  : List Byte
  deriving DecidableEq, Repr

/-- A repeat field of 0 means 256 (R67). -/
def repeatOf (b : Byte) : Nat := if b = 0 then 256 else b.toNat

/-- The four-byte address or parameter. -/
def RawOp.address (r : RawOp) : Nat := r.a0.toNat + 256 * r.a1.toNat + 65536 * r.a2.toNat + 16777216 * r.a3.toNat

/-- The limit of a WAIT_DMA: bytes 5 and 6 of its record (R195). DESIGN CHOICE (log entry 12): byte 7, to which R195
gives no meaning, is not read, so a limit above 65535 (R68) cannot be spelt. -/
def RawOp.limit (r : RawOp) : Nat := r.a1.toNat + 256 * r.a2.toNat

/-- The write bytes a header calls for: repeat times width for MEM_WR and IO_WR, else none (R67). -/
def writeBytes (kind width times : Byte) : Nat :=
  if kind = 2 || kind = 4 then repeatOf times * width.toNat else 0

/-- `n` operation records, each an 8-byte header and its write data, and nothing after them; `none` when the payload
ends before the last of them or bytes remain (R68). -/
def readOps : Nat → List Byte → Option (List RawOp)
  | 0, [] => some []
  | 0, _ => none
  | n + 1, kind :: width :: times :: step :: a0 :: a1 :: a2 :: a3 :: rest =>
    let k := writeBytes kind width times
    if rest.length < k then none
    else
      match readOps n (rest.drop k) with
      | some ops =>
        some ({ kind := kind, width := width, times := times, step := step, a0 := a0, a1 := a1, a2 := a2, a3 := a3,
                data := rest.take k } :: ops)
      | none => none
  | _ + 1, _ => none

/-- An access kind: MEM_RD, MEM_WR, IO_RD or IO_WR (R67). -/
def RawOp.isAccess (r : RawOp) : Bool := 1 ≤ r.kind.toNat && r.kind.toNat ≤ 4

/-- Known codes: the kind, and the step of an access kind (R68, first pass). -/
def RawOp.known (r : RawOp) : Bool :=
  1 ≤ r.kind.toNat && r.kind.toNat ≤ 7 && (!r.isAccess || r.step.toNat ≤ 1)

/-- The read bytes of an operation's result (R67). -/
def RawOp.readBytes (r : RawOp) : Nat :=
  if r.kind = 1 || r.kind = 3 then repeatOf r.times * r.width.toNat else if r.kind = 5 then 9 else 0

/-- An operation's fields in range (R68, third pass). -/
def RawOp.inRange (r : RawOp) : Bool :=
  match r.kind.toNat with
  | 1 => widthOk r.width && r.address ≤ 0xFFFFF
  | 2 => widthOk r.width && r.address ≤ 0xFFFFF
  | 3 => widthOk r.width && r.address ≤ 0xFFFF
  | 4 => widthOk r.width && r.address ≤ 0xFFFF
  | 5 => r.address ≤ 0xFFFF
  | 6 => r.address ≤ 65535
  | _ => r.a0.toNat ≤ 3 && 1 ≤ r.limit

/-- Whether the frame is answered ADJUSTED for this operation: a PAUSE time of 0 (R69). -/
def RawOp.adjusted (r : RawOp) : Bool := r.kind = 6 && r.address = 0

/-- The operation a record stands for (R67); a PAUSE time of 0 is stored as 1 (R69). -/
def RawOp.op (r : RawOp) : OpKind :=
  match r.kind.toNat with
  | 1 => .access .mem false r.address (r.width = 2) (repeatOf r.times) (r.step = 1) []
  | 2 => .access .mem true r.address (r.width = 2) (repeatOf r.times) (r.step = 1) r.data
  | 3 => .access .io false r.address (r.width = 2) (repeatOf r.times) (r.step = 1) []
  | 4 => .access .io true r.address (r.width = 2) (repeatOf r.times) (r.step = 1) r.data
  | 5 => .probe r.address
  | 6 => .pause (max 1 r.address)
  | _ => .waitDma (Fin.ofNat 4 r.a0.toNat) r.limit

/-- The length of an operation's read data (R67, R73). -/
def OpKind.readLength : OpKind → Nat
  | .access _ write _ word times _ _ => if write then 0 else times * widthOf word
  | .probe _ => 9
  | .pause _ => 0
  | .waitDma _ _ => 0

/-- The modulus addresses of a space wrap at (R10, R16). -/
def spaceSize : Space → Nat
  | .mem => 2 ^ 20
  | .io => 2 ^ 16

/-- The `k`-th access of an operation, counted from 0: its address stepped as Stage 6 gives (R16, R72), its write
bytes taken in order. Only the access kinds make accesses. -/
def OpKind.access? (op : OpKind) (k : Nat) : Option AccessInput :=
  match op with
  | .access space write address word times fixed data =>
    if k < times then
      let w := widthOf word
      some { space := space
             address := if fixed then address % spaceSize space else (address + k * w) % spaceSize space
             word := word
             write := write
             writeLow := data.getD (k * w) 0xFF
             writeHigh := data.getD (k * w + 1) 0xFF }
    else none
  | .probe _ => none
  | .pause _ => none
  | .waitDma _ _ => none

end Sys2Proof.Machine
end

