-- ==== Sys2Proof/Machine/Ops.lean ====
section
/-! DEFINITION. Named operations the blocks share: updating one of a fixed number of records, image memory's bytes,
handing replies and notices to the link (R188 to R190), free choices of order, and what the part sees of a slot
(R27). -/

namespace Sys2Proof.Machine

/-! ## Vectors -/

/-- `v` with its `i`-th member changed by `f`. -/
def upd {α : Type} {n : Nat} (v : Vector α n) (i : Fin n) (f : α → α) : Vector α n := v.set i.val (f v[i]) i.isLt

/-- `f` at every member of `v`. -/
def mapAll {α β : Type} {n : Nat} (f : α → β) (v : Vector α n) : Vector β n := Vector.ofFn fun i => f v[i]

/-- The eight slots, slot 0 first. -/
def allSlots : List (Fin 8) := [0, 1, 2, 3, 4, 5, 6, 7]

/-- The four channels, timers and request lines. -/
def allFour : List (Fin 4) := [0, 1, 2, 3]

/-- The twelve interrupt lines. -/
def allLines : List (Fin 12) := [0, 1, 2, 3, 4, 5, 6, 7, 8, 9, 10, 11]

/-! ## Image memory (R174): a canonical list of the bytes that are not 0x00 -/

/-- What an offset the list does not name reads as: the value part reset gives every byte (R174). -/
def memoryDefault : Byte := 0

/-- The byte at an offset. -/
def readByte : List Host.Cell → Nat → Byte
  | [], _ => memoryDefault
  | (k, v) :: rest, a => if k = a then v else readByte rest a

/-- The list with the byte at one offset replaced; it stays canonical. -/
def writeByte : List Host.Cell → Nat → Byte → List Host.Cell
  | [], a, b => if b = memoryDefault then [] else [(a, b)]
  | (k, v) :: rest, a, b =>
    if a < k then (if b = memoryDefault then (k, v) :: rest else (a, b) :: (k, v) :: rest)
    else if a = k then (if b = memoryDefault then rest else (a, b) :: rest)
    else (k, v) :: writeByte rest a b

/-- The canonical form: offsets strictly rising from at least `low`, and no byte equal to what an unlisted offset
reads as. -/
def cellsFrom : Nat → List Host.Cell → Bool
  | _, [] => true
  | low, (k, v) :: rest => decide (low ≤ k) && (v != memoryDefault) && cellsFrom (k + 1) rest

/-- The canonical form of image memory. -/
def Memory.wf (cells : List Host.Cell) : Bool := cellsFrom 0 cells

/-- The bytes at `n` offsets upward from `a`. -/
def readBytes (cells : List Host.Cell) (a : Nat) : Nat → List Byte
  | 0 => []
  | n + 1 => readByte cells a :: readBytes cells (a + 1) n

/-- The list with bytes stored upward from `a` (R178). -/
def writeBytesAt (cells : List Host.Cell) (a : Nat) : List Byte → List Host.Cell
  | [] => cells
  | b :: rest => writeBytesAt (writeByte cells a b) (a + 1) rest

/-! ## The link's transmit list (R189, R190) -/

/-- The kind byte of a notice (R190). -/
def noticeKind : Byte := 0xE0

/-- Replies waiting in a transmit list (R189). -/
def repliesIn (tx : List Frame) : Nat := (tx.filter fun f => !f.isNotice).length

/-- Notices waiting in a transmit list (R189). -/
def noticesIn (tx : List Frame) : Nat := (tx.filter fun f => f.isNotice).length

/-- Appends a frame to the transmit list; while the link is not ready the frame is discarded (R182, R193). -/
def send (f : Frame) (s : State) : State :=
  if s.link.ready then { s with link := { s.link with tx := s.link.tx ++ [f] } } else s

/-- A reply: the request's kind + 0x80, its tag, and a payload that begins with the status (R187, R188). -/
def reply (kind tag : Byte) (status : Status) (fields : List Byte) (s : State) : State :=
  send { kind := kind + 0x80, tag := tag, payload := status.code :: fields } s

/-- A reply that waited: sent only if its request still belongs to the present link (R193). -/
def replyLater (kind : Byte) (w : Waiting) (status : Status) (fields : List Byte) (s : State) : State :=
  if w.wanted then reply kind w.tag status fields s else s

/-- A notice handed over by its owner: discarded while the link is not ready (R193) or its kind is not enabled in
setting 9 (R190), and with 32 notices waiting, which sets notice overflow (R189). DESIGN CHOICE (log entry 36): the
enable is read first, so a notice of a disabled kind leaves the flag alone, however many notices wait. -/
def notice (kind : Nat) (fields : List Byte) (s : State) : State :=
  if s.link.ready && s.settings.notices.testBit kind then
    if noticesIn s.link.tx < 32 then
      send { kind := noticeKind, tag := 0, payload := natByte kind :: (bytes4 s.timeBase.toNat ++ fields),
             isNotice := true } s
    else { s with link := { s.link with overflow := true } }
  else s

/-! ## Free choices of order (log entry 3) -/

/-- The next free choice. -/
def choice (s : State) : Nat := Config.order s.choices

/-- Consumes a free choice. -/
def usedChoice (s : State) : State := { s with choices := s.choices + 1 }

/-- Runs two effects that may come in either order. -/
def eitherOrder (f g : State → State) (s : State) : State :=
  if choice s % 2 = 0 then g (f (usedChoice s)) else f (g (usedChoice s))

/-! ## What the part sees of a slot (R27) -/

/-- The bus is in RUN, HOLD or STOP. -/
def BusState.live : BusState → Bool
  | .run => true
  | .hold => true
  | .stop => true
  | .off => false
  | .resetting => false
  | .down => false

/-- The slot is ATTACHED: its buffers are open (R27). -/
def attached (s : State) (n : Fin 8) : Bool := s.slots[n].state == .attached

/-- The slots that are ATTACHED now. -/
def attachedSet (s : State) : Vector Bool 8 := mapAll (fun x => x.state == .attached) s.slots

/-- A slot's channel request line as the part sees it: deasserted behind closed buffers (R27, R92). -/
def requested (s : State) (ch : Fin 4) (n : Fin 8) : Bool := attached s n && s.cards[n].requests[ch]

/-- A slot's interrupt line as the part sees it (R27). -/
def asserted (s : State) (l : Fin 12) (n : Fin 8) : Bool := attached s n && s.cards[n].lines[l]

/-- The interrupt unit watches the slot: ATTACHED, with the bus in RUN, HOLD or STOP (R109). -/
def watched (s : State) (n : Fin 8) : Bool := attached s n && s.bus.state.live

/-- The data lines the part sees of a slot: 0xFF behind closed buffers (R27); D15-D8 undriven, so 0xFF, at a slot
without the wide strap (R96). -/
def seenLines (s : State) (lines : CardLines) (n : Fin 8) : Word16 :=
  if attached s n then (if s.slots[n].wide then lines[n] else lines[n] ||| 0xFF00) else 0xFFFF

/-! ## Block updates -/

/-- Changes one slot record. -/
def modSlot (n : Fin 8) (f : Slot → Slot) (s : State) : State := { s with slots := upd s.slots n f }

/-- Changes one channel context. -/
def modChannel (n : Fin 4) (f : Channel → Channel) (s : State) : State := { s with channels := upd s.channels n f }

/-- Changes one line-slot. -/
def modLineSlot (l : Fin 12) (n : Fin 8) (f : LineSlot → LineSlot) (s : State) : State :=
  { s with lineSlots := upd s.lineSlots l fun row => upd row n f }

/-- Changes one timer. -/
def modTimer (n : Fin 4) (f : Timer → Timer) (s : State) : State := { s with timers := upd s.timers n f }

/-- Changes the arbiter's fields. -/
def modArb (f : Arbiter → Arbiter) (s : State) : State := { s with arb := f s.arb }

/-- Changes the engine's fields. -/
def modEngine (f : Engine → Engine) (s : State) : State := { s with engine := f s.engine }

/-- Changes the operation queue's fields. -/
def modQueue (f : OpQueue → OpQueue) (s : State) : State := { s with queue := f s.queue }

/-- Changes the planner's fields. -/
def modPlanner (f : Planner → Planner) (s : State) : State := { s with planner := f s.planner }

/-- Changes the bus controller's fields. -/
def modBus (f : Bus → Bus) (s : State) : State := { s with bus := f s.bus }

/-- Changes the link's fields. -/
def modLink (f : Link → Link) (s : State) : State := { s with link := f s.link }

/-- A driven cycle is running (R1). -/
def cycleRunning (s : State) : Bool := s.planner.cycle.isSome

/-- A cycle runs: a driven cycle, or a master cycle, whose boundary is the release of its strobe (00 Terms, R43). -/
def anyCycle (s : State) : Bool := cycleRunning s || s.planner.master.isSome

end Sys2Proof.Machine
end

