-- ==== Sys2Proof/Machine/Queue.lean ====
section
/-! DEFINITION. The operation queue (Chapter 4): the OPS checks and acceptance, starting and ending operations, replies
and the flush. -/

namespace Sys2Proof.Machine

/-! ## Results and replies (R73, R78) -/

/-- The status is an error for STOP_ON_ERROR (R73). -/
def OpStatus.isError : OpStatus → Bool
  | .ok => false
  | .timeout => true
  | .blocked => true
  | .skipped => false
  | .aborted => false

/-- The result of an operation that ends: its progress, its read data filled with 0xFF to the length of its kind
(R73). -/
def OpRecord.result (r : OpRecord) (status : OpStatus) : OpResult where
  status := status
  flags := r.flags
  cycles := r.cycles
  data := r.data ++ List.replicate (r.kind.readLength - r.data.length) 0xFF

/-- A result as it stands in a reply (R195). -/
def OpResult.bytes (r : OpResult) : List Byte := [r.status.code, r.flags.opByte] ++ bytes2 r.cycles ++ r.data

/-- Files a result with its frame. -/
def fileResult (id : Nat) (r : OpResult) (frames : List OpenFrame) : List OpenFrame :=
  frames.map fun f => if f.id = id then { f with results := f.results ++ [r] } else f

/-- Every operation of the frame has ended. -/
def OpenFrame.complete (f : OpenFrame) : Bool := decide (f.opCount ≤ f.results.length)

/-- Builds a frame's reply, handed over only if it is still wanted (R78, R81). -/
def buildReply (s : State) (f : OpenFrame) : State :=
  if f.wanted then
    reply 0x08 f.tag (if f.adjusted then .adjusted else .ok)
      (natByte f.opCount :: (f.results.map OpResult.bytes).flatten) s
  else s

/-- Builds the reply of every frame whose operations have all ended, in acceptance order, and removes the frame
(R78). -/
def closeFrames (s : State) : State :=
  let ended := s.queue.frames.filter OpenFrame.complete
  ended.foldl buildReply (modQueue (fun q => { q with frames := q.frames.filter fun f => !f.complete }) s)

/-- The frame has STOP_ON_ERROR set. -/
def stopsOnError (frames : List OpenFrame) (id : Nat) : Bool := frames.any fun f => decide (f.id = id) && f.stopOnError

/-- Skips every operation of a frame still in the list (R77). -/
def skipFrame (id : Nat) (q : OpQueue) : OpQueue :=
  { q with
    ops := q.ops.filter fun r => decide (r.frame ≠ id)
    frames := (q.ops.filter fun r => decide (r.frame = id)).foldl (fun fs r => fileResult id (r.result .skipped) fs)
      q.frames }

/-- The end of the current operation (R73), up to the start of the next. -/
def endOp (status : OpStatus) (s : State) : State :=
  match s.queue.ops with
  | [] => s
  | op :: rest =>
    let q := { s.queue with
      ops := rest
      frames := fileResult op.frame (op.result status) s.queue.frames
      state := .idle
      pauseLeft := 0
      waitLeft := 0
      access := none }
    let q' := if status.isError && stopsOnError q.frames op.frame then skipFrame op.frame q else q
    closeFrames { s with queue := q' }

/-! ## Starting (R71, R75, R76) -/

/-- Whether a WAIT_DMA on the channel ends at once: Done is set, or the channel is not RUNNING (R76). -/
def waitOver (s : State) (n : Fin 4) : Bool := s.channels[n].finished || (s.channels[n].state != .running)

/-- Starts operations while the queue is IDLE and the bus in RUN, HOLD or STOP (R71); a WAIT_DMA may end at once.
Each round but the last ends an operation, so the list's length bounds the rounds. -/
def startRounds : Nat → State → State
  | 0, s => s
  | fuel + 1, s =>
    if (s.queue.state == .idle) && s.bus.state.live then
      match s.queue.ops with
      | [] => s
      | op :: _ =>
        match op.kind with
        | .access _ _ _ _ _ _ _ => modQueue (fun q => { q with state := .executing }) s
        | .probe _ => modQueue (fun q => { q with state := .executing }) s
        | .pause micros => modQueue (fun q => { q with state := .pausing, pauseLeft := micros }) s
        | .waitDma n limit =>
          if waitOver s n then startRounds fuel (endOp .ok s)
          else modQueue (fun q => { q with state := .waitingDma, waitLeft := limit * 100 }) s
    else s

/-- Starts the oldest operation if R71 allows. -/
def startOps (s : State) : State := startRounds s.queue.ops.length s

/-- The channel ends the wait of a WAIT_DMA (R76). With no wait time left the wait's WAIT_DMA_TIMEOUT is due and will
come: it is marked as overtaken, since that later expiry does not happen. -/
def endWaitDma (s : State) : State :=
  endOp .ok (modQueue (fun q => { q with overtaken := q.overtaken || decide (q.waitLeft = 0) }) s)

/-- The DMA unit tells the queue that a channel's Done flag is set or that it has left RUNNING (R76). -/
def tellQueue (n : Fin 4) (s : State) : State :=
  match s.queue.state, s.queue.ops with
  | .waitingDma, op :: _ =>
    match op.kind with
    | .waitDma k _ => if k = n then endWaitDma s else s
    | .access _ _ _ _ _ _ _ => s
    | .probe _ => s
    | .pause _ => s
  | _, _ => s

/-! ## Accesses (R72, R74) -/

/-- The queue needs a card bus cycle (R49). -/
def queueClaims (s : State) : Bool := s.queue.state == .executing

/-- The access the queue begins next, for an access kind (R72). -/
def queueWants (s : State) : Option AccessInput :=
  match s.queue.state, s.queue.ops with
  | .executing, op :: _ => op.kind.access? op.done
  | _, _ => none

/-- The port of the PROBE the queue performs (R74). -/
def probing (s : State) : Option Nat :=
  match s.queue.state, s.queue.ops with
  | .executing, op :: _ =>
    match op.kind with
    | .probe port => some port
    | .access _ _ _ _ _ _ _ => none
    | .pause _ => none
    | .waitDma _ _ => none
  | _, _ => none

/-- An access of the current operation has ended (R72). -/
def queueAccessDone (a : Access) (s : State) : State :=
  match s.queue.ops with
  | [] => modQueue (fun q => { q with access := none }) s
  | op :: rest =>
    let op' := { op with
      done := op.done + 1
      cycles := op.cycles + a.cycles
      flags := op.flags.join a.flags
      data := op.data ++ (if a.write then [] else a.data) }
    let s1 := modQueue (fun q => { q with ops := op' :: rest, access := none }) s
    match a.status with
    | .ok => if (op'.kind.access? op'.done).isSome then s1 else endOp .ok s1
    | .timeout => endOp .timeout s1
    | .blocked => endOp .blocked s1

/-- The PROBE of the current operation has ended (R22, R74). -/
def probeDone (samples : List Byte) (bitmap : Byte) (timedOut : Bool) (cycles : Nat) (s : State) : State :=
  match s.queue.ops with
  | [] => s
  | op :: rest =>
    let op' := { op with done := 1, cycles := cycles, data := samples ++ [bitmap] }
    endOp (if timedOut then .timeout else .ok) (modQueue (fun q => { q with ops := op' :: rest }) s)

/-! ## The flush (R80) -/

/-- Every operation ends ABORTED and every open frame's reply is built. -/
def flushQueue (s : State) : State :=
  let frames := s.queue.ops.foldl (fun fs r => fileResult r.frame (r.result .aborted) fs) s.queue.frames
  frames.foldl buildReply
    { s with queue := { s.queue with
        ops := [], frames := [], state := .idle, pauseLeft := 0, waitLeft := 0, access := none } }

/-! ## Acceptance (R68 to R70) -/

/-- Pass 1 of R68: the STOP_ON_ERROR flag and the operation records of a well-formed payload. -/
def parseOps : List Byte → Option (Bool × List RawOp)
  | flags :: count :: rest =>
    if flags = 0 || flags = 1 then
      match readOps count.toNat rest with
      | some ops => if ops.all RawOp.known then some (flags = 1, ops) else none
      | none => none
    else none
  | _ => none

/-- The reply-side sum of R69. -/
def replySum (ops : List RawOp) : Nat := 2 + (ops.map fun r => 4 + r.readBytes).sum

/-- Pass 3 of R68. -/
def opsInRange (ops : List RawOp) : Bool :=
  decide (1 ≤ ops.length) && decide (ops.length ≤ 16) && ops.all RawOp.inRange && decide (replySum ops ≤ 1024)

/-- The four passes of R68: the refusal, or what to accept. -/
def checkOps (s : State) (payload : List Byte) : Except Status (Bool × List RawOp) :=
  match parseOps payload with
  | none => .error .badRequest
  | some (stop, ops) =>
    if (s.bus.state == .off) || (s.bus.state == .down) then .error .badState
    else if !opsInRange ops then .error .range
    else if 32 - s.queue.ops.length < ops.length then .error .busy
    else .ok (stop, ops)

/-- The records of a frame's operations as they join the list (R70). -/
def newRecords (id : Nat) : Nat → List RawOp → List OpRecord
  | _, [] => []
  | k, r :: rest =>
    { kind := r.op, frame := id, index := k, done := 0, cycles := 0, flags := noFlags, data := [] } ::
      newRecords id (k + 1) rest

/-- The frame and its operations are appended (R70). -/
def acceptOps (tag : Byte) (stop : Bool) (ops : List RawOp) (s : State) : State :=
  modQueue (fun q => { q with
    ops := q.ops ++ newRecords q.nextFrame 0 ops
    frames := q.frames ++ [{ id := q.nextFrame, tag := tag, stopOnError := stop, opCount := ops.length,
                             adjusted := ops.any RawOp.adjusted, wanted := true, results := [] }]
    nextFrame := q.nextFrame + 1 }) s

end Sys2Proof.Machine
end

