-- ==== Sys2Proof/Machine/Capture.lean ====
section
/-! DEFINITION. The capture queue's own operations (Chapter 8): handing a record over, storing and dropping, the
per-source counts and the high flag. -/

namespace Sys2Proof.Machine

/-- The byte count: the data bytes of the records held (R149). -/
def Capture.byteCount (c : Capture) : Nat := (c.records.map fun r => r.data.length).sum

/-- The record count (R149). -/
def Capture.recordCount (c : Capture) : Nat := c.records.length

/-- The counts the queue holds for a source; channels and watch units hold no coalesced count (R149, R155). -/
def Capture.counts (c : Capture) (src : Source) : Counts :=
  match src with
  | .lineSlot l n => c.lineCounts[l][n]
  | .timer n => c.timerCounts[n]
  | .channel n => { coalesced := 0, lost := c.channelLost[n] }
  | .watch u => { coalesced := 0, lost := c.watchLost[u] }

/-- Changes the counts of a source. -/
def Capture.modCounts (c : Capture) (src : Source) (f : Counts → Counts) : Capture :=
  match src with
  | .lineSlot l n => { c with lineCounts := upd c.lineCounts l fun row => upd row n f }
  | .timer n => { c with timerCounts := upd c.timerCounts n f }
  | .channel n => { c with channelLost := upd c.channelLost n fun k => (f { coalesced := 0, lost := k }).lost }
  | .watch u => { c with watchLost := upd c.watchLost u fun k => (f { coalesced := 0, lost := k }).lost }

/-- Raises a source's coalesced count by 1, stopping at 255 (R112, R146, R155). -/
def raiseCoalesced (src : Source) (s : State) : State :=
  { s with capture := s.capture.modCounts src fun k => { k with coalesced := min 255 (k.coalesced + 1) } }

/-- The QUEUE_HIGH notice: record count, byte count and level (R157). -/
def noticeQueueHigh (s : State) : State :=
  notice 0 (bytes2 s.capture.recordCount ++ bytes2 s.capture.byteCount ++ bytes2 s.settings.almostFull) s

/-- The high flag test after a store (R157). -/
def testHighAfterStore (s : State) : State :=
  if !s.capture.high && decide (s.settings.almostFull ≤ s.capture.recordCount) then
    noticeQueueHigh { s with capture := { s.capture with high := true } }
  else s

/-- The high flag test after a DRAIN, a CLEAR or a SET of setting 8 (R158). -/
def testHigh (s : State) : State :=
  if s.settings.almostFull ≤ s.capture.recordCount then
    if s.capture.high then s else noticeQueueHigh { s with capture := { s.capture with high := true } }
  else { s with capture := { s.capture with high := false } }

/-- The test every record meets: room for it under both limits (R152). -/
def Capture.fits (c : Capture) (r : Record) : Bool :=
  decide (c.recordCount < 512) && decide (c.byteCount + r.data.length ≤ 16384)

/-- Stores a record that fits (R152): it takes the sequence number and its source's counts, which return to 0. -/
def storeRecord (r : Record) (s : State) : State :=
  let k := s.capture.counts r.source
  let stored := { r with sequence := s.capture.seq, coalesced := k.coalesced, lost := k.lost }
  let c := s.capture.modCounts r.source fun _ => zeroCounts
  testHighAfterStore { s with capture := { c with records := c.records ++ [stored], seq := c.seq + 1 } }

/-- Drops a record for want of room (R153). -/
def dropRecord (r : Record) (s : State) : State :=
  let c := s.capture.modCounts r.source fun k => { k with lost := min 255 (k.lost + 1) }
  { s with capture := { c with dropTotal := min 4294967295 (c.dropTotal + 1) } }

/-- A record handed to the queue (R152, R153). -/
def handRecord (r : Record) (s : State) : State :=
  if s.capture.fits r then storeRecord r s else dropRecord r s

/-! ## DRAIN (R160, R161) -/

/-- The slot a record's header carries (R150). -/
def Record.slotField (r : Record) : Option (Fin 8) :=
  match r.source with
  | .lineSlot _ n => some n
  | .timer _ => none
  | .channel _ => r.slot
  | .watch _ => r.slot

/-- A record as it stands in a DRAIN reply: 16 header bytes, then its data (R195). -/
def Record.bytes (r : Record) : List Byte :=
  [r.source.recordByte, slotCode r.slotField] ++ bytes2 r.flags.number ++ bytes2 r.sequence.toNat ++
    bytes4 r.time.toNat ++
    [natByte r.coalesced, natByte r.lost, optionCode r.firstFail, natByte r.data.length, entryCode r.entry,
     optionCode r.steps] ++ r.data

/-- How many of the oldest records a reply carries: while fewer than `ne` are added and the reply, `size` bytes so
far, stays at most 1024 (R160). -/
def drainCount : Nat → Nat → List Record → Nat
  | 0, _, _ => 0
  | _, _, [] => 0
  | ne + 1, size, r :: rest =>
    let size' := size + 16 + r.data.length
    if size' ≤ 1024 then 1 + drainCount ne size' rest else 0

/-- A DRAIN reply: status OK, the records carried, records remaining, and the records (R160). -/
def drainReply (tag : Byte) (carried : List Record) (remaining : Nat) (s : State) : State :=
  reply 0x12 tag .ok
    (natByte carried.length :: (bytes2 remaining ++ (carried.map Record.bytes).flatten)) s

/-- A refused DRAIN removes nothing and reports the record count held (R159). -/
def refuseDrain (tag : Byte) (status : Status) (s : State) : State :=
  reply 0x12 tag status (0 :: bytes2 s.capture.recordCount) s

/-- DRAIN (R159, R160). -/
def drainRecords (tag ne : Byte) (s : State) : State :=
  if ne = 0 then refuseDrain tag .range s
  else
    let n := drainCount ne.toNat 4 s.capture.records
    let carried := s.capture.records.take n
    let left := s.capture.records.drop n
    let s1 := { s with capture := { s.capture with records := left } }
    let s2 := if n = 0 then s1 else testHigh s1
    drainReply tag carried left.length s2

/-- DRAIN with CLEAR (R161): carries as DRAIN does, then discards what remains and reports how many. -/
def drainAndClear (tag ne : Byte) (s : State) : State :=
  if ne = 0 then refuseDrain tag .range s
  else
    let n := drainCount ne.toNat 4 s.capture.records
    let carried := s.capture.records.take n
    let left := s.capture.records.drop n
    let s1 := { s with capture := { s.capture with records := [], high := false } }
    drainReply tag carried left.length s1

end Sys2Proof.Machine
end

