-- ==== Sys2Proof/Machine/Interrupt.lean ====
section
/-! DEFINITION. The interrupt unit's operations (Chapter 6): watching, edges, evaluations, eligibility, the hand-over
to the service engine, and the end of a service with stuck detection. -/

namespace Sys2Proof.Machine

/-- A line-slot's state. -/
def lineSlotOf (s : State) (l : Fin 12) (n : Fin 8) : LineSlot := s.lineSlots[l][n]

/-- An evaluation of a LEVEL line-slot (R111): pending is set when the line is asserted from a watched slot and the
line-slot is neither in service nor stuck; in any other case nothing changes. -/
def evaluate (l : Fin 12) (n : Fin 8) (s : State) : State :=
  if s.lines[l].sense == .level && watched s n && asserted s l n && !(lineSlotOf s l n).inService &&
      !(lineSlotOf s l n).stuck then
    modLineSlot l n (fun x => { x with pending := true }) s
  else s

/-- A rising edge on an EDGE line (R110): sets pending, or counts as coalesced, or does nothing while stuck. -/
def risingEdge (l : Fin 12) (n : Fin 8) (s : State) : State :=
  if (lineSlotOf s l n).stuck then s
  else if (lineSlotOf s l n).pending then raiseCoalesced (.lineSlot l n) s
  else modLineSlot l n (fun x => { x with pending := true }) s

/-- The start of watching a slot: each reference level takes the level the line shows (R109). -/
def takeReferences (n : Fin 8) (s : State) : State :=
  allLines.foldl (fun t l => modLineSlot l n (fun x => { x with reference := asserted t l n }) t) s

/-- Evaluates every LEVEL line of a slot (R111). -/
def evaluateSlot (n : Fin 8) (s : State) : State := allLines.foldl (fun t l => evaluate l n t) s

/-- Watching starts at a slot that enters ATTACHED, or when the pulse ends: references, then evaluations (R109,
R111). Nothing happens while the unit does not watch the slot. -/
def startWatching (n : Fin 8) (s : State) : State :=
  if watched s n then evaluateSlot n (takeReferences n s) else s

/-- Eligibility (R113). -/
def lineEligible (s : State) (l : Fin 12) (n : Fin 8) : Bool :=
  (lineSlotOf s l n).pending && s.lines[l].enabled && (s.settings.globalEnable == 1) &&
    !(s.settings.groupMask.testBit s.lines[l].group.val) && !(lineSlotOf s l n).stuck &&
    (s.bus.state == .run || (s.bus.state == .hold && s.lines[l].keepAlive))

/-- The LINE_STUCK notice (R117): line, slot, the line's entry, the still-asserted count. -/
def noticeLineStuck (l : Fin 12) (n : Fin 8) (s : State) : State :=
  notice 3 [natByte l.val, natByte n.val, entryCode s.lines[l].entry, natByte (lineSlotOf s l n).stillAsserted] s

/-- The sampling at the end of a service of a LEVEL line-slot (R116): the still-asserted count, the fourth time
stuck with its notice, otherwise an evaluation. -/
def sampleLine (l : Fin 12) (n : Fin 8) (s : State) : State :=
  if asserted s l n then
    let s1 := modLineSlot l n (fun x => { x with stillAsserted := x.stillAsserted + 1 }) s
    if (lineSlotOf s1 l n).stillAsserted < 4 then evaluate l n s1
    else noticeLineStuck l n (modLineSlot l n (fun x => { x with stuck := true, pending := false }) s1)
  else evaluate l n (modLineSlot l n (fun x => { x with stillAsserted := 0 }) s)

/-- Whether the end of a service hands STILL_ASSERTED back for its record (R115, R116). -/
def stillAssertedAtEnd (l : Fin 12) (n : Fin 8) (s : State) : Bool :=
  (lineSlotOf s l n).inService && (s.lines[l].sense == .level) && asserted s l n

/-- The end of a service of a line-slot (R115): in service off, and for a LEVEL line the sampling; nothing when in
service is already off. -/
def endLineService (l : Fin 12) (n : Fin 8) (s : State) : State :=
  if (lineSlotOf s l n).inService then
    let s1 := modLineSlot l n (fun x => { x with inService := false }) s
    if s1.lines[l].sense == .level then sampleLine l n s1 else s1
  else s

/-- A line-slot that loses its pending and in-service states, its count at 0, stuck kept (R124, R125). -/
def LineSlot.dropped (x : LineSlot) : LineSlot := { x with pending := false, inService := false, stillAsserted := 0 }

/-- A slot has left ATTACHED (R124). -/
def dropSlotLines (n : Fin 8) (s : State) : State :=
  { s with lineSlots := mapAll (fun row => upd row n LineSlot.dropped) s.lineSlots }

/-- Entry to RESETTING, OFF or DOWN (R125). -/
def dropAllLines (s : State) : State :=
  { s with lineSlots := mapAll (mapAll LineSlot.dropped) s.lineSlots }

/-- Applies `f` to the line-slots of a line whose slot is named in a bitmap. -/
def forBitmap (bitmap : Byte) (f : Fin 8 → State → State) (s : State) : State :=
  allSlots.foldl (fun t n => if bitmap.getLsbD n.val then f n t else t) s

/-! ## The LINE request (R120 to R123) -/

/-- The level of a line as watched, or deasserted when the slot is not watched (R123). -/
def levelAsWatched (s : State) (l : Fin 12) (n : Fin 8) : Bool := watched s n && asserted s l n

/-- One slot's four bytes of a LINE reply (R195): state bits, still-asserted count, coalesced, lost. -/
def lineSlotBytes (s : State) (l : Fin 12) (n : Fin 8) : List Byte :=
  let x := lineSlotOf s l n
  let k := s.capture.counts (.lineSlot l n)
  [natByte (x.pending.toNat + 2 * x.inService.toNat + 4 * x.stuck.toNat + 8 * (levelAsWatched s l n).toNat),
   natByte x.stillAsserted, natByte k.coalesced, natByte k.lost]

/-- The fields of a LINE reply (R123, R195). -/
def lineFields (s : State) (l : Fin 12) : List Byte :=
  let c := s.lines[l]
  [c.sense.code, boolCode c.enabled, natByte c.group.val, boolCode c.keepAlive, entryCode c.entry] ++
    (allSlots.map (lineSlotBytes s l)).flatten

/-- The reply to an accepted LINE request: status OK and the line's state (R120). -/
def replyLine (tag : Byte) (l : Fin 12) (s : State) : State := reply 0x0E tag .ok (lineFields s l) s

/-- Writes a line's configuration (R121): a sense change clears pending and the counts of its eight line-slots and,
to LEVEL, evaluates those of watched slots. -/
def configureLine (l : Fin 12) (c : LineConfig) (s : State) : State :=
  let changed := s.lines[l].sense != c.sense
  let s1 := { s with lines := upd s.lines l fun _ => c }
  if changed then
    let s2 := { s1 with lineSlots := upd s1.lineSlots l fun row =>
                          mapAll (fun x => { x with pending := false, stillAsserted := 0 }) row }
    if c.sense == .level then allSlots.foldl (fun t n => evaluate l n t) s2 else s2
  else s1

/-- CLEAR_STUCK at one line-slot (R119). -/
def clearStuckAt (l : Fin 12) (n : Fin 8) (s : State) : State :=
  evaluate l n (modLineSlot l n (fun x => { x with stuck := false, stillAsserted := 0 }) s)

/-- CLEAR_PENDING at one line-slot (R122). -/
def clearPendingAt (l : Fin 12) (n : Fin 8) (s : State) : State :=
  modLineSlot l n (fun x => { x with pending := false }) s

end Sys2Proof.Machine
end

