-- ==== Sys2Proof/Machine/Service.lean ====
section
/-! DEFINITION. The service engine (Chapter 7): selection, steps and their boundaries, the end of a service with its
record, and the engine's part in changes of bus state. -/

namespace Sys2Proof.Machine

/-! ## Selection (R132, R133) -/

/-- A timer is eligible (R148). -/
def timerEligible (s : State) (n : Fin 4) : Bool :=
  s.timers[n].pending && (s.bus.state == .run || (s.bus.state == .hold && s.timers[n].keepAlive))

/-- The first eligible line-slot among lines whose keep-alive is `keep`: the lower line first, then the lower slot
(R132). -/
def firstLine (s : State) (keep : Bool) : Option Source :=
  allLines.findSome? fun l =>
    if s.lines[l].keepAlive == keep then
      (allSlots.find? fun n => lineEligible s l n).map fun n => .lineSlot l n
    else none

/-- The first eligible timer among those whose keep-alive is `keep` (R132). -/
def firstTimer (s : State) (keep : Bool) : Option Source :=
  (allFour.find? fun n => (s.timers[n].keepAlive == keep) && timerEligible s n).map .timer

/-- The source a selection takes, by the four groups of R132. -/
def selected (s : State) : Option Source :=
  match firstLine s true with
  | some src => some src
  | none =>
    match firstTimer s true with
    | some src => some src
    | none =>
      match firstLine s false with
      | some src => some src
      | none => firstTimer s false

/-- The entry bound to a source (R114, R133). -/
def boundEntry (s : State) (src : Source) : Option (Fin 24) :=
  match src with
  | .lineSlot l _ => s.lines[l].entry
  | .timer n => s.timers[n].entry
  | .channel _ => none
  | .watch _ => none

/-- The steps of a binding: none for NONE (R134). -/
def stepsOf (s : State) (entry : Option (Fin 24)) : List Step :=
  match entry with
  | some e => s.entries[e].steps
  | none => []

/-- The source taken into service: pending off, in service on (R114, R133). -/
def takeSource (src : Source) (s : State) : State :=
  match src with
  | .lineSlot l n => modLineSlot l n (fun x => { x with pending := false, inService := true }) s
  | .timer n => modTimer n (fun t => { t with pending := false, inService := true }) s
  | .channel _ => s
  | .watch _ => s

/-- The step the engine performs or stands before. -/
def currentStep (s : State) : Option Step :=
  match s.engine.entry with
  | some e => (stepsOf s e)[s.engine.step]?
  | none => none

/-- Begins the step named by the step index: a DELAY loads its time (R137), an access step needs the bus. -/
def beginStep (s : State) : State :=
  match currentStep s with
  | some (.delay micros) => modEngine (fun e => { e with delayLeft := micros }) s
  | _ => s

/-- The engine's fields at a selection (R133). -/
def beginService (src : Source) (s : State) : State :=
  let entry := boundEntry s src
  let s1 := takeSource src s
  { s1 with engine := { resetEngine with
      state := .serving
      source := some src
      entry := some entry
      start := s.timeBase
      held := s.bus.state == .hold } }

/-! ## The end of a service (R142, R143) -/

/-- The source leaves service (R142, first part). -/
def releaseSource (src : Source) (s : State) : State :=
  match src with
  | .lineSlot l n => endLineService l n s
  | .timer n => modTimer n (fun t => { t with inService := false }) s
  | .channel _ => s
  | .watch _ => s

/-- Whether a service of this binding hands a record over: always for NONE, else by the entry's record flag (R134,
R143). -/
def makesRecord (s : State) (entry : Option (Fin 24)) : Bool :=
  match entry with
  | some e => s.entries[e].record
  | none => true

/-- STILL_ASSERTED for the record of the service that ends (R115, R116). -/
def stillFor (s : State) (src : Source) : Bool :=
  match src with
  | .lineSlot l n => stillAssertedAtEnd l n s
  | .timer _ => false
  | .channel _ => false
  | .watch _ => false

/-- The record of a service (R143). -/
def serviceRecord (s : State) (src : Source) (entry : Option (Fin 24)) (still : Bool) : Record where
  source := src
  slot := none
  flags := { s.engine.flags with stillAsserted := still, held := s.engine.held }
  sequence := 0
  time := s.engine.start
  coalesced := 0
  lost := 0
  firstFail := s.engine.firstFail
  entry := entry
  steps := some (stepsOf s entry).length
  data := s.engine.captured

/-- The end of a service up to the next selection (R142): the source leaves service, the record is handed over, the
engine enters IDLE. -/
def finishService (s : State) : State :=
  match s.engine.source, s.engine.entry with
  | some src, some entry =>
    let still := stillFor s src
    let record := serviceRecord s src entry still
    let s1 := releaseSource src s
    let s2 := if makesRecord s1 entry then handRecord record s1 else s1
    { s2 with engine := resetEngine }
  | _, _ => { s with engine := resetEngine }

/-- Selections, one after another (R132): while the engine is IDLE and a source is eligible, it is selected; a service
of no steps ends at once (R134). The bound covers every selection that can follow at one instant: each LEVEL
line-slot at most four times before it is stuck, and each timer once. -/
def selectServices : Nat → State → State
  | 0, s => s
  | fuel + 1, s =>
    if s.engine.state == .idle then
      match selected s with
      | some src =>
        let s1 := beginService src s
        if (stepsOf s1 (boundEntry s src)).isEmpty then selectServices fuel (finishService s1) else beginStep s1
      | none => s
    else s

/-- The engine selects if it is IDLE and any source is eligible (R132). -/
def serviceSelect (s : State) : State := selectServices 400 s

/-- The end of a service (R142). At a cycle boundary a watch unit's hold has already been taken (log entry 17), so the
selection reads the bus state after it. -/
def endService (s : State) : State := serviceSelect (finishService s)

/-! ## Steps (R135 to R139) -/

/-- A step boundary (R135): the service ends after the entry's last step; otherwise the next step is named, and the
engine suspends in STOP (R139) or begins it. -/
def stepBoundary (s : State) : State :=
  match s.engine.entry with
  | some e =>
    if s.engine.step + 1 < (stepsOf s e).length then
      let s1 := modEngine (fun g => { g with step := g.step + 1, done := 0 }) s
      if s.bus.state == .stop then modEngine (fun g => { g with state := .suspended }) s1 else beginStep s1
    else endService s
  | none => endService s

/-- The bytes of a step's accesses not made, each 0xFF (R136). -/
def padding (st : Step) (done : Nat) : List Byte :=
  if st.reads then
    List.replicate
      (((List.range (st.accesses - done)).map fun k =>
        match st.access (done + k) with
        | some a => widthOf a.word
        | none => 0).sum) 0xFF
  else []

/-- An access of the service has ended (R135, R136). -/
def serviceAccessDone (a : Access) (s : State) : State :=
  match currentStep s with
  | some st =>
    let data := if st.reads then a.data else []
    let s1 := modEngine (fun g => { g with
        access := none
        done := g.done + 1
        captured := g.captured ++ data
        flags := g.flags.joinAccess a.flags }) s
    if a.status = .ok then
      if s1.engine.done < st.accesses then s1 else stepBoundary s1
    else
      stepBoundary (modEngine (fun g => { g with
        captured := g.captured ++ padding st g.done
        flags := g.flags.fail a.status
        firstFail := match g.firstFail with
          | some k => some k
          | none => some g.step }) s1)
  | none => modEngine (fun g => { g with access := none }) s

/-- The access the engine needs next: it is SERVING and its step needs a card bus cycle (R49). -/
def serviceWants (s : State) : Option AccessInput :=
  if s.engine.state == .serving then
    match currentStep s with
    | some st => st.access s.engine.done
    | none => none
  else none

/-- The engine performs a DELAY step (R137). -/
def delaying (s : State) : Bool :=
  (s.engine.state == .serving) &&
    match currentStep s with
    | some (.delay _) => true
    | _ => false

/-! ## Bus states (R138, R139, R141) -/

/-- The bus enters HOLD with a service in progress: the held mark is set on (R138). -/
def markHeld (s : State) : State :=
  if s.engine.state == .idle then s else modEngine (fun g => { g with held := true }) s

/-- The bus leaves STOP for RUN or HOLD: a SUSPENDED service begins the step it stands before (R139). -/
def resumeService (s : State) : State :=
  if s.engine.state == .suspended then beginStep (modEngine (fun g => { g with state := .serving }) s) else s

/-- Entry to RESETTING, OFF or DOWN: the service in progress is aborted with no record (R141), and every timer takes
the last column of R145 (R148). -/
def abortService (s : State) : State :=
  { s with
    engine := resetEngine
    timers := mapAll (fun t => { t with running := false, elapsed := 0, pending := false, inService := false }) s.timers }

/-! ## The SERVICE and TIMER replies (R130, R147, R195) -/

/-- The engine's part of a SERVICE QUERY reply. -/
def engineFields (g : Engine) : List Byte :=
  let (kind, number, slot) : Byte × Byte × Byte :=
    match g.source with
    | some (.lineSlot l n) => (0, natByte l.val, natByte n.val)
    | some (.timer n) => (1, natByte n.val, 0xFF)
    | _ => (0xFF, 0xFF, 0xFF)
  let entry : Byte :=
    match g.entry with
    | some e => entryCode e
    | none => 0xFF
  [g.state.code, kind, number, slot, entry, natByte g.step]

/-- A SERVICE QUERY reply's fields. -/
def serviceFields (s : State) (e : Fin 24) : List Byte :=
  let x := s.entries[e]
  [boolCode x.record, natByte x.steps.length, natByte (capturedLength x.steps)] ++ (x.steps.map Step.record).flatten ++
    engineFields s.engine

/-- A TIMER reply's fields. -/
def timerFields (s : State) (n : Fin 4) : List Byte :=
  let t := s.timers[n]
  let k := s.capture.counts (.timer n)
  [boolCode t.running] ++ bytes2 t.period ++ [entryCode t.entry, boolCode t.keepAlive] ++ bytes3 t.elapsed ++
    [boolCode t.pending, boolCode t.inService, natByte k.coalesced, natByte k.lost]

end Sys2Proof.Machine
end

