-- ==== Sys2Proof/Machine/Arbiter.lean ====
section
/-! DEFINITION. The bus arbiter (Chapter 3): the claims that stand, the decision and its grants, DEMAND and BLOCK holds,
cascade grants with their hold timer, and the refresh generator. -/

namespace Sys2Proof.Machine

/-! ## Claims (R49, R51) -/

/-- The claim a channel's mode makes (R49). -/
def modeClaims (s : State) (n : Fin 4) : Bool :=
  let c := s.channels[n]
  (c.state == .running) &&
    match c.mode with
    | .single => requested s n c.owner
    | .demand => requested s n c.owner
    | .block => c.blockRun
    | .cascade => requested s n c.owner && (s.arb.timerChannel.isNone || s.arb.timerChannel == some n)

/-- A channel's claim that keeps a hold going: its mode's, or a transfer with a cycle still to come (R50, R53). -/
def holdClaims (s : State) (n : Fin 4) : Bool :=
  modeClaims s n || ((s.channels[n].state == .running) && s.channels[n].access.isSome)

/-- A channel's claim stands: that, or a PULSE waits (R49). -/
def channelClaims (s : State) (n : Fin 4) : Bool :=
  holdClaims s n || ((s.channels[n].state == .running) && s.channels[n].pulse)

/-- The service engine's claim stands (R49). -/
def serviceClaims (s : State) : Bool := (serviceWants s).isSome

/-- The bus is free (R50). -/
def busFree (s : State) : Bool :=
  s.planner.cycle.isNone && s.planner.master.isNone && (s.arb.owner == .none) && (s.arb.hold == .none) &&
    s.arb.grant.isNone

/-- The highest DMA claim: by owner slot, then by channel number (R50). -/
def bestChannel (s : State) : Option (Fin 4) :=
  allSlots.findSome? fun slot => allFour.find? fun n => (s.channels[n].owner == slot) && channelClaims s n

/-- Refresh is eligible in RUN and HOLD (R51, R63). -/
def refreshing (b : BusState) : Bool := (b == .run) || (b == .hold)

/-- The highest eligible claim, as the owner its grant would name (R50, R51). -/
def bestClaim (s : State) : Owner :=
  if decide (0 < s.arb.owed) && refreshing s.bus.state then .refresh
  else
    match (if s.bus.state == .run then bestChannel s else none) with
    | some n => .channel n
    | none =>
      if serviceClaims s && s.bus.state.live then .service
      else if queueClaims s && s.bus.state.live then .queue
      else .none

/-! ## Grants (R50, R54, R55, R58) -/

/-- The cascade grant (R58). -/
def grantCascade (n : Fin 4) (s : State) : State :=
  modArb (fun a =>
    let a1 := { a with owner := .master n, hold := .cascade n, grant := some n }
    if a.timerChannel.isNone then
      { a1 with timerChannel := some n, timerElapsed := 0, timerLimit := s.settings.masterLimit }
    else a1) s

/-- A grant to a channel: cascade, the start of a hold when its mode's claim stands, or one cycle (R53 to R55, R90).
DEDUCED (log entry 14): a grant for the second cycle of a DEMAND transfer whose owner's request is down begins no hold,
though R54 speaks of the first grant received; only the claim of its mode begins one. -/
def grantChannel (n : Fin 4) (s : State) : State :=
  match s.channels[n].mode with
  | .cascade => grantCascade n s
  | .single => modArb (fun a => { a with owner := .channel n }) s
  | .demand =>
    if modeClaims s n then
      modArb (fun a => { a with
        owner := .channel n, hold := .demand n, holdEnding := false, burst := 0,
        burstLimit := s.settings.burstLimit }) s
    else modArb (fun a => { a with owner := .channel n }) s
  | .block =>
    if modeClaims s n then
      modArb (fun a => { a with owner := .channel n, hold := .block n, holdEnding := false }) s
    else modArb (fun a => { a with owner := .channel n }) s

/-- The arbiter decides: with the bus free, the highest eligible claim is granted (R50). -/
def arbDecide (s : State) : State :=
  if busFree s then
    match bestClaim s with
    | .channel n => grantChannel n s
    | .refresh => modArb (fun a => { a with owner := .refresh }) s
    | .service => modArb (fun a => { a with owner := .service }) s
    | .queue => modArb (fun a => { a with owner := .queue }) s
    | .none => s
    | .master _ => s
  else s

/-- What the part does at the end of every command that may let work go on: the queue starts its next operation
(R71), the idle engine selects (R132), the arbiter decides (R50). -/
def settle (s : State) : State := arbDecide (serviceSelect (startOps s))

/-! ## Holds (R54 to R56) -/

/-- The hold ends; the bus is free. -/
def endHold (a : Arbiter) : Arbiter := { a with owner := .none, hold := .none, holdEnding := false, burst := 0 }

/-- The channel a DEMAND or BLOCK hold names. -/
def heldBy (a : Arbiter) : Option (Fin 4) :=
  match a.hold with
  | .demand n => some n
  | .block n => some n
  | .none => none
  | .cascade _ => none

/-- A cycle boundary under a DEMAND or BLOCK hold: the hold ends, or refresh interposes one cycle, or the channel's
next cycle is granted (R54 to R56). `previous` owned the cycle that ended. -/
def holdBoundary (previous : Owner) (s : State) : State :=
  match heldBy s.arb with
  | some n =>
    if s.arb.holdEnding || !holdClaims s n then modArb endHold s
    else if decide (0 < s.arb.owed) && (previous != .refresh) then modArb (fun a => { a with owner := .refresh }) s
    else modArb (fun a => { a with owner := .channel n }) s
  | none => s

/-- A DEMAND or BLOCK hold ends at the next cycle boundary (R56). -/
def markHoldEnding (s : State) : State :=
  if (heldBy s.arb).isSome then modArb (fun a => { a with holdEnding := true }) s else s

/-- The channel leaves RUNNING: its hold ends, at the boundary of a running cycle or at once, and a grant not yet
begun ends unused (R52, R56). -/
def releaseHold (n : Fin 4) (s : State) : State :=
  if heldBy s.arb = some n then
    if cycleRunning s then modArb (fun a => { a with holdEnding := true }) s
    else
      modArb (fun a => { a with
        hold := .none, holdEnding := false, burst := 0,
        owner := if a.owner = .channel n then .none else a.owner }) s
  else if s.arb.owner = .channel n ∧ !cycleRunning s then modArb (fun a => { a with owner := .none }) s
  else s

/-- A grant whose claim is withdrawn before its SETUP clock ends (R52). -/
def dropUnstartedGrant (n : Fin 4) (s : State) : State :=
  if s.arb.owner = .channel n ∧ !cycleRunning s ∧ !channelClaims s n then modArb endHold s else s

/-! ## Settings that wait for a cycle boundary (R44, R62) -/

/-- A SET of setting 1 reaches BCLK (R44). -/
def applyClock (s : State) : State := modBus (fun b => { b with clock := s.settings.clock }) s

/-- A SET of setting 3 that waits takes effect (R62). -/
def applyInterval (s : State) : State :=
  if s.arb.intervalSet then
    modArb (fun a => { a with intervalUse := s.settings.refresh, intervalSet := false, interval := 0 }) s
  else s

/-- What waits for a cycle boundary of settings 1 and 3 takes effect (R44, R62). -/
def applySettings (s : State) : State := applyInterval (applyClock s)

/-! ## Cascade (R58 to R61) -/

/-- The hold timer stops (R59). -/
def stopHoldTimer (a : Arbiter) : Arbiter := { a with timerChannel := none, timerElapsed := 0 }

/-- The cascade grant of a channel, and its hold timer, end (R59); owner and hold stay while a master strobe is
asserted. -/
def endCascade (n : Fin 4) (s : State) : State :=
  let s1 := if s.arb.timerChannel = some n then modArb stopHoldTimer s else s
  if s.arb.grant = some n then
    if s.planner.master.isSome then modArb (fun a => { a with grant := none }) s1
    else modArb (fun a => { a with grant := none, owner := .none, hold := .none }) s1
  else s1

/-- The bus leaves RUN for HOLD or STOP: a cascade grant is withdrawn, the timer runs on (R60). -/
def withdrawCascade (s : State) : State :=
  if s.arb.grant.isSome then
    modArb (fun a => { a with
      grant := none, hold := .none, owner := if s.planner.master.isSome then a.owner else .none }) s
  else s

/-- No master strobe is asserted any more: with no grant in force the part takes the shared lines back (R59, R60), and
what waited for this boundary of settings 1 and 3 takes effect (R43, R44, R62; at a cut cycle, log entry 1). -/
def masterGone (s : State) : State :=
  let s1 := modPlanner (fun p => { p with master := none }) s
  applySettings (if s.arb.grant.isNone then modArb (fun a => { a with owner := .none, hold := .none }) s1 else s1)

/-- A master cycle driven by a slot is cut (R34, R36). -/
def cutMaster (slot : Fin 8) (s : State) : State :=
  match s.planner.master with
  | some m => if m.slot = slot then masterGone s else s
  | none => s

/-! ## Refresh (R62 to R64) -/

/-- The REFRESH_SHORT notice. -/
def noticeRefreshShort (s : State) : State := notice 7 (natByte s.arb.owed :: bytes2 s.arb.lost) s

/-- The interval expires (R62, R64). -/
def refreshDue (s : State) : State :=
  if s.arb.owed < 16 then
    let s1 := modArb (fun a => { a with interval := 0, owed := a.owed + 1 }) s
    if s1.arb.owed = 16 ∧ !s1.arb.shortReported then
      noticeRefreshShort (modArb (fun a => { a with shortReported := true }) s1)
    else s1
  else modArb (fun a => { a with interval := 0, lost := min 65535 (a.lost + 1) }) s

/-- A refresh cycle has ended: owed falls, the row advances (R63, R64). -/
def refreshPaid (a : Arbiter) : Arbiter :=
  let owed := a.owed - 1
  { a with owed := owed, row := a.row + 1, shortReported := if owed = 0 then false else a.shortReported }

/-! ## RESETTING, OFF and DOWN (R65) -/

/-- The arbiter on entry to RESETTING, OFF or DOWN. -/
def clearArbiter (a : Arbiter) : Arbiter :=
  { a with
    owner := .none, hold := .none, grant := none, holdEnding := false, burst := 0, timerChannel := none,
    timerElapsed := 0, owed := 0, shortReported := false, interval := 0 }

end Sys2Proof.Machine
end

