-- ==== Sys2Proof/Machine/Dma.lean ====
section
/-! DEFINITION. The DMA unit (Chapter 5): leaving RUNNING, faults, CLEAR, completed transfers with terminal count, and
the DMA_QUERY reply. -/

namespace Sys2Proof.Machine

/-- Channels 2 and 3 are WIDE (R82). -/
def wideChannel (n : Fin 4) : Bool := decide (2 ≤ n.val)

/-- The memory address of a channel's next transfer (R97). -/
def Channel.address (c : Channel) : Nat := c.page.val * 65536 + c.offset.toNat

/-! ## Leaving RUNNING (R83) -/

/-- A context that leaves RUNNING: both loaded flags, pulse pending and block run cleared (R83). -/
def Channel.left (c : Channel) (next : DmaState) : Channel :=
  { c with state := next, addressLoaded := false, countLoaded := false, pulse := false, blockRun := false, access := none }

/-- A channel leaves RUNNING: the claim is withdrawn, a hold or a cascade grant with its timer ends (R56, R59). -/
def leaveRunning (n : Fin 4) (next : DmaState) (s : State) : State :=
  endCascade n (releaseHold n (modChannel n (fun c => c.left next) s))

/-- The DMA_FAULT notice: channel, cause, owner slot, page, offset, count word (R103). -/
def noticeDmaFault (n : Fin 4) (s : State) : State :=
  let c := s.channels[n]
  notice 2 ([natByte n.val, c.cause.code, natByte c.owner.val, natByte c.page.val] ++ bytes2 c.offset.toNat ++
    bytes2 c.count.toNat) s

/-- A fault (R103); a channel that is not RUNNING cannot fault. -/
def faultChannel (n : Fin 4) (cause : DmaCause) (s : State) : State :=
  if s.channels[n].state = .running then
    tellQueue n (noticeDmaFault n (leaveRunning n .faulted (modChannel n (fun c => { c with cause := cause }) s)))
  else s

/-! ## CLEAR (R89) -/

/-- The effect of CLEAR: IDLE, and for a channel that was RUNNING its claim, hold and grant end and the queue is
told. -/
def clearChannel (n : Fin 4) (s : State) : State :=
  let was := s.channels[n].state
  let s1 := leaveRunning n .idle (modChannel n (fun c => { c with finished := false }) s)
  if was = .running then tellQueue n s1 else s1

/-- A reply that carries the channel's state (R195, DMA_CMD). -/
def replyChannel (tag : Byte) (status : Status) (n : Fin 4) (s : State) : State :=
  reply 0x0C tag status [s.channels[n].state.code] s

/-- Every waiting CLEAR is answered OK, in the order taken (R89). -/
def answerClears (n : Fin 4) (s : State) : State :=
  s.channels[n].waiting.foldl (fun t w => replyLater 0x0C w .ok [t.channels[n].state.code] t)
    (modChannel n (fun c => { c with waiting := [] }) s)

/-- The transfer a CLEAR waited for has ended: the CLEAR takes effect and is answered (R89). -/
def finishClears (n : Fin 4) (s : State) : State :=
  if s.channels[n].waiting.isEmpty then s else answerClears n (clearChannel n s)

/-- A transfer of the channel is under way: one of its cycles runs, or its second cycle is still to come (R89). -/
def transferring (s : State) (n : Fin 4) : Bool :=
  s.channels[n].access.isSome || (s.planner.cycle.any fun c => c.initiator == .channel n)

/-- The CLEARs that wait take effect once no transfer of the channel is under way (R89). -/
def clearsOver (n : Fin 4) (s : State) : State := if transferring s n then s else finishClears n s

/-! ## The owner's departure (R102) -/

/-- The owner of a RUNNING channel has left ATTACHED: the channel faults with OWNER_LOST. Between the cycles of a
transfer the second cycle will not come, so a CLEAR that waits for it takes effect now (R89). -/
def loseOwner (n : Fin 4) (s : State) : State := clearsOver n (faultChannel n .ownerLost s)

/-- A slot has left ATTACHED: each RUNNING channel it owns loses its owner (R35, R102). DESIGN CHOICE (log entry 33): the
spec gives no order among several channels of one slot; the lower channel faults, and sends its DMA_FAULT, first. -/
def ownerLost (slot : Fin 8) (s : State) : State :=
  allFour.foldl (fun t n =>
    if t.channels[n].owner = slot ∧ t.channels[n].state = .running then loseOwner n t else t) s

/-! ## RESETTING, OFF and DOWN (R104) -/

/-- One channel on that entry: a RUNNING one goes to IDLE with cause ABORTED, Done kept, its waiting CLEARs answered;
a CLEAR that waited on a channel a fault has already stopped takes effect (log entry 16). -/
def abortChannel (n : Fin 4) (s : State) : State :=
  if s.channels[n].state = .running then
    answerClears n (modChannel n (fun c => { c.left .idle with cause := .aborted }) s)
  else finishClears n s

/-- Every channel on that entry. -/
def abortChannels (s : State) : State := allFour.foldl (fun t n => abortChannel n t) s

/-! ## Completed transfers (R96 to R100) -/

/-- The offset after a completed transfer (R97): it stays in its page. -/
def stepOffset (n : Fin 4) (c : Channel) : Word16 :=
  let k : Word16 := if wideChannel n then 2 else 1
  if c.down then c.offset - k else c.offset + k

/-- The DMA_END record (R99). -/
def dmaEndRecord (n : Fin 4) (s : State) : Record :=
  let c := s.channels[n]
  { source := .channel n
    slot := some c.owner
    flags := runRecordFlags c.runFlags c.autoReload
    sequence := 0
    time := s.timeBase
    coalesced := 0
    lost := 0
    firstFail := none
    entry := none
    steps := none
    data := natByte c.page.val :: (bytes2 c.offset.toNat ++ bytes2 c.count.toNat) }

/-- The DMA_DONE notice (R100): channel, owner slot, page, final offset, auto-reload. -/
def noticeDmaDone (n : Fin 4) (s : State) : State :=
  let c := s.channels[n]
  notice 1 ([natByte n.val, natByte c.owner.val, natByte c.page.val] ++ bytes2 c.offset.toNat ++
    [boolCode c.autoReload]) s

/-- The base fields copied back (R88, R98). -/
def Channel.reloaded (c : Channel) : Channel :=
  { c with page := c.basePage, offset := c.baseOffset, count := c.baseCount }

/-- Auto-reload at terminal count (R98, R196): a BLOCK channel whose owner still requests begins its next run at this
boundary. -/
def reloadChannel (n : Fin 4) (s : State) : State :=
  modChannel n (fun c =>
    { c.reloaded with
      runFlags := noFlags, blockRun := (c.mode == .block) && requested s n c.owner }) s

/-- Terminal count (R98), steps 2 to 6. -/
def terminalCount (n : Fin 4) (s : State) : State :=
  let s1 := modChannel n (fun c => { c with finished := true }) s
  let s2 := if s1.channels[n].recordEnd then handRecord (dmaEndRecord n s1) s1 else s1
  let s3 := tellQueue n (noticeDmaDone n s2)
  if s3.channels[n].autoReload then reloadChannel n s3 else tellQueue n (leaveRunning n .done s3)

/-- The end of a transfer under a DEMAND or BLOCK hold of its channel (R54, R55): the burst count, and whether the
hold ends at this boundary. DEDUCED (log entry 32): the count stops at 256, the top of its range (R48); no limit lies
above it. -/
def holdAfterTransfer (n : Fin 4) (terminal : Bool) (s : State) : State :=
  match s.arb.hold with
  | .demand k =>
    if k = n then
      modArb (fun a => { a with
        burst := min 256 (a.burst + 1)
        holdEnding := a.holdEnding || terminal || !requested s n s.channels[n].owner ||
          (decide (a.burstLimit ≠ 0) && decide (a.burstLimit ≤ a.burst + 1)) }) s
    else s
  | .block k => if k = n then modArb (fun a => { a with holdEnding := a.holdEnding || terminal }) s else s
  | .none => s
  | .cascade _ => s

/-- A completed transfer steps the channel (R95, R97) and consumes a pulse that was pending when it began (R90). -/
def completeTransfer (n : Fin 4) (a : Access) (s : State) : State :=
  let s1 := modChannel n (fun c =>
    { c with
      offset := stepOffset n c
      count := c.count + 1
      runFlags := c.runFlags.join a.flags
      pulse := c.pulse && !a.pulsed
      access := none }) (holdAfterTransfer n a.terminal s)
  if a.terminal then terminalCount n s1 else s1

/-- A transfer's access has ended (R95, R101). -/
def transferDone (n : Fin 4) (a : Access) (s : State) : State :=
  match a.status with
  | .ok => completeTransfer n a s
  | .timeout => faultChannel n .timeout s
  | .blocked => faultChannel n .blocked s

/-- The memory side a channel hands the planner (R93). A FROM_CARD transfer's bytes come from the owner slot. -/
def channelWants (s : State) (n : Fin 4) : AccessInput :=
  let c := s.channels[n]
  { space := .mem, address := c.address, word := wideChannel n, write := c.direction == .fromCard,
    writeLow := 0xFF, writeHigh := 0xFF }

/-- The transfer that begins with the count word at 0xFFFF is the terminal count transfer (R97). -/
def Channel.terminal (c : Channel) : Bool := c.count == 0xFFFF

/-! ## DMA_QUERY (R84, R91) -/

/-- The RUNNING sub-condition (R84). -/
def subCondition (s : State) (n : Fin 4) : Option SubCondition :=
  if s.channels[n].state = .running then
    if (s.planner.cycle.any fun c => c.initiator == .channel n) || (heldBy s.arb == some n) then some .transferring
    else if s.arb.grant = some n then some .master
    else if s.arb.timerChannel = some n ∧ requested s n s.channels[n].owner then some .releasing
    else some .waiting
  else none

/-- Bits of a flags byte, bit 0 first. -/
def bitsNumber : List Bool → Nat
  | [] => 0
  | b :: rest => b.toNat + 2 * bitsNumber rest

/-- The reply fields of DMA_QUERY (R91, R195). -/
def channelFields (s : State) (n : Fin 4) : List Byte :=
  let c := s.channels[n]
  [c.mode.code, c.direction.code, natByte c.owner.val, natByte (bitsNumber [c.recordEnd, c.autoReload]),
   boolCode c.down, boolCode (wideChannel n), c.state.code, subConditionCode (subCondition s n), c.cause.code,
   natByte (bitsNumber [c.state == .running, c.finished, c.addressLoaded, c.countLoaded, c.pulse, c.blockRun]),
   natByte c.page.val] ++ bytes2 c.offset.toNat ++ bytes2 c.count.toNat ++ [natByte c.basePage.val] ++
    bytes2 c.baseOffset.toNat ++ bytes2 c.baseCount.toNat ++ bytes2 (runRecordFlags c.runFlags false).number ++
    [natByte c.stray]

end Sys2Proof.Machine
end

