-- ==== Sys2Proof/Machine/Slots.lean ====
section
/-! DEFINITION. The slot controller (Chapter 2, Sections 2.1 to 2.4): moves between slot states, pending changes and
their waiting requests, departures from ATTACHED, and the hold-limit fault. -/

namespace Sys2Proof.Machine

/-- The SLOT_CHANGE notice: slot, old state, new state, cause. -/
def noticeSlotChange (n : Fin 8) (old new : SlotState) (cause : SlotCause) (s : State) : State :=
  notice 5 [natByte n.val, old.code, new.code, cause.code] s

/-- A reply that carries the slot's state (R32). -/
def replySlot (tag : Byte) (status : Status) (n : Fin 8) (s : State) : State :=
  reply 0x06 tag status [s.slots[n].state.code] s

/-- The requests that wait for the pending change are answered, in order, and the pending change returns to none. -/
def answerWaiting (n : Fin 8) (status : Status) (s : State) : State :=
  s.slots[n].waiting.foldl (fun t w => replyLater 0x06 w status [t.slots[n].state.code] t)
    (modSlot n (fun x => { x with change := .none, waiting := [] }) s)

/-- The departure from ATTACHED is reported (R35): the line-slots (R124), then the channels the slot owns (R102),
whose faults end a cascade grant and its timer (R59). -/
def reportDeparture (n : Fin 8) (s : State) : State := ownerLost n (dropSlotLines n s)

/-- Marks a running cycle to slot `n` whose buffers close before its end (R21). DESIGN CHOICE (log entry 37): a DMA cycle
whose owner slot closes, the slot not being its target, is not marked. R102 calls its bytes BLOCKED, as R21 gives; but its
outcome is not counted, and the watch units are shown the memory side's bytes as they moved (R25, R166). -/
def loseTarget (n : Fin 8) (s : State) : State :=
  modPlanner (fun p => { p with
    cycle := p.cycle.map fun c => if c.target = .slot n then { c with lost := true } else c }) s

/-- A slot moves from ATTACHED to ISOLATED (R34, R37): buffers closed, a master cycle it drives cut, notice,
departure, and the ISOLATE requests that waited answered. -/
def isolateNow (n : Fin 8) (cause : SlotCause) (s : State) : State :=
  let s1 := cutMaster n (modSlot n (fun x => { x with state := .isolated, fault := .none }) s)
  answerWaiting n .ok (reportDeparture n (noticeSlotChange n .attached .isolated cause s1))

/-- A slot moves from FAULTED to ISOLATED (R34): no departure is reported. -/
def isolateFaulted (n : Fin 8) (s : State) : State :=
  answerWaiting n .ok
    (noticeSlotChange n .faulted .isolated .request
      (modSlot n (fun x => { x with state := .isolated, fault := .none }) s))

/-- A pending ISOLATE takes effect (R34), by the state the slot is in. -/
def isolatePending (n : Fin 8) (s : State) : State :=
  match s.slots[n].state with
  | .attached => isolateNow n .request s
  | .faulted => isolateFaulted n s
  | .isolated => answerWaiting n .ok s
  | .empty => answerWaiting n .ok s

/-- ATTACH may be made (R33): the bus is in OFF, HOLD or STOP and the slot is ISOLATED. -/
def mayAttach (s : State) (n : Fin 8) : Bool :=
  ((s.bus.state == .off) || (s.bus.state == .hold) || (s.bus.state == .stop)) && (s.slots[n].state == .isolated)

/-- A slot enters ATTACHED (R33): buffers open, notice, watching starts. The channel request levels it shows are
taken as they are (R197). -/
def attachNow (n : Fin 8) (s : State) : State :=
  startWatching n
    (noticeSlotChange n .isolated .attached .request (modSlot n (fun x => { x with state := .attached }) s))

/-- A DMA transfer of a channel the slot owns is under way: begun, with a cycle running or still to come. -/
def ownsTransfer (s : State) (n : Fin 8) : Bool :=
  allFour.any fun k =>
    (s.channels[k].state == .running) && (s.channels[k].owner == n) && s.channels[k].access.isSome

/-- A pending change falls due at a cycle boundary (R33, R34). DEDUCED (log entry 35): an ISOLATE of the owner of a
transfer in two cycles stays pending over the first cycle's boundary, since R102 has the transfer complete and step the
channel first, where R34 names that cycle's boundary. -/
def changeDue (n : Fin 8) (s : State) : State :=
  match s.slots[n].change with
  | .none => s
  | .isolate => if ownsTransfer s n then s else isolatePending n s
  | .attach => if mayAttach s n then answerWaiting n .ok (attachNow n s) else answerWaiting n .badState s

/-- Every pending change falls due. DESIGN CHOICE (log entry 33): the spec gives no order among slots, and slot 0 comes
first. -/
def changesDue (s : State) : State := allSlots.foldl (fun t n => changeDue n t) s

/-- A driven cycle in flight involves the slot (R34), or a transfer of a channel it owns is between its two cycles
(R102, log entry 35). -/
def involved (s : State) (n : Fin 8) : Bool :=
  ownsTransfer s n ||
    s.planner.cycle.any fun c =>
      (c.target == .slot n) || (((c.target == .all) || (c.kind != .access)) && attached s n) ||
        (match c.cardSide with
         | some side => side.owner == n
         | none => false)

/-- Presence loss (R30): the slot moves to EMPTY at once. -/
def emptySlot (n : Fin 8) (s : State) : State :=
  let old := s.slots[n].state
  let change := s.slots[n].change
  let s1 := loseTarget n (cutMaster n (modSlot n (fun x => { x with state := .empty, present := false, fault := .none }) s))
  let s2 := answerWaiting n (if change = .attach then .badState else .ok) s1
  let s3 := noticeSlotChange n old .empty .presence s2
  if old = .attached then reportDeparture n s3 else s3

/-- The hold-limit fault of a slot (R36). A pending ISOLATE is made from FAULTED: at the boundary while a driven cycle
runs, else at once (log entry 15). -/
def faultSlot (n : Fin 8) (s : State) : State :=
  if s.slots[n].state = .attached then
    let s1 := loseTarget n (cutMaster n (modSlot n (fun x => { x with state := .faulted, fault := .holdLimit }) s))
    let s2 := reportDeparture n (noticeSlotChange n .attached .faulted .holdLimit s1)
    if cycleRunning s2 then s2 else changeDue n s2
  else s

/-- One slot on entry to OFF or DOWN: an ATTACHED slot is isolated with cause BUS (R37); a pending change is
answered. -/
def isolateForBus (n : Fin 8) (s : State) : State :=
  if s.slots[n].state = .attached then isolateNow n .bus s
  else
    match s.slots[n].change with
    | .none => s
    | .isolate => isolatePending n s
    | .attach => answerWaiting n .badState s

/-- Every slot on entry to OFF or DOWN (R37). DESIGN CHOICE (log entry 33): the spec gives no order among the slots, and
slot 0 comes first. -/
def isolateAll (s : State) : State := allSlots.foldl (fun t n => isolateForBus n t) s

/-- One slot on entry to RESETTING, which cuts the running cycle without a boundary: a pending ATTACH is refused
(R33), a pending ISOLATE takes effect (R34). -/
def changeCut (n : Fin 8) (s : State) : State :=
  match s.slots[n].change with
  | .none => s
  | .isolate => isolatePending n s
  | .attach => answerWaiting n .badState s

/-- Every slot on entry to RESETTING, slot 0 first (DESIGN CHOICE, log entry 33). -/
def changesCut (s : State) : State := allSlots.foldl (fun t n => changeCut n t) s

/-- A SLOT QUERY reply's fields (R32, R195). -/
def slotFields (x : Slot) : List Byte :=
  [x.state.code, boolCode x.present, boolCode x.wide, x.fault.code, x.change.code]

end Sys2Proof.Machine
end

