-- ==== Sys2Proof/Machine/Bus.lean ====
section
/-! DEFINITION. The bus controller (Sections 2.5 to 2.9): changes of bus state and what each block does at them. -/

namespace Sys2Proof.Machine

/-- The BUS_STATE notice: old state, new state, cause. -/
def noticeBusState (old : BusState) (s : State) : State :=
  notice 4 [old.code, s.bus.state.code, s.bus.cause.code] s

/-- The bus controller's record of a change (R38): state and cause; the hold request and a pulse that was running are
cleared (R41). -/
def recordBus (new : BusState) (cause : BusCause) (s : State) : State :=
  modBus (fun b => { b with state := new, cause := cause, holdRequest := none, pulseLeft := 0, pulseMicros := 0 }) s

/-- The change with its BUS_STATE notice (R38). -/
def changeBus (new : BusState) (cause : BusCause) (s : State) : State :=
  noticeBusState s.bus.state (recordBus new cause s)

/-! ## Moves among RUN, HOLD and STOP (R39) -/

/-- The bus leaves RUN: DEMAND and BLOCK holds end at the next boundary (R56), a cascade grant is withdrawn (R60). -/
def leaveRun (s : State) : State := withdrawCascade (markHoldEnding s)

/-- A move among RUN, HOLD and STOP, made at once (R39): holds and grants (R56, R60), the held mark (R138), a SUSPENDED
service (R139). -/
def moveLive (new : BusState) (cause : BusCause) (s : State) : State :=
  let s1 := changeBus new cause s
  let s2 := if s.bus.state = .run then leaveRun s1 else s1
  let s3 := if new = .hold then markHeld s2 else s2
  if s.bus.state = .stop then resumeService s3 else s3

/-- A watch unit's hold request falls due at a cycle boundary (R43). -/
def takeWatchHold (s : State) : State :=
  match s.bus.holdRequest with
  | some u => if s.bus.state = .run then moveLive .hold (.watch u) s else s
  | none => s

/-! ## Entry to RESETTING, OFF and DOWN -/

/-- The running cycle and a master cycle are cut (R24); in DOWN the address lines are driven to 0x00000 (R44). -/
def cutCycles (new : BusState) (s : State) : State :=
  modPlanner (fun p => { p with
    cycle := none, master := none, address := if new = .down then 0 else p.address }) s

/-- The part's work in flight is closed, but for the operation queue: arbiter (R65), settings that waited for a
boundary, channels (R104), slots (R33, R34, R37), line-slots (R125), service engine and timers (R141, R148). -/
def closeWork (new : BusState) (s : State) : State :=
  let s1 := abortChannels (applySettings (modArb clearArbiter s))
  let s2 := if new = .resetting then changesCut s1 else isolateAll s1
  abortService (dropAllLines s2)

/-- Entry to RESETTING, OFF or DOWN up to the flush of the operation queue (R24, R38). DESIGN CHOICE (log entry 34): the
BUS_STATE notice is handed over first, then come the replies of waiting CLEARs, then slot by slot the SLOT_CHANGE
notices and the replies that waited, and the OPS replies of the flush after all of them; R38 and R39 leave this open. -/
def enterDead (new : BusState) (cause : BusCause) (s : State) : State :=
  closeWork new (noticeBusState s.bus.state (cutCycles new (recordBus new cause s)))

/-! ## Replies -/

/-- The reply to a BUS request: the bus state and last cause as they stand (R39). -/
def replyBus (tag : Byte) (status : Status) (s : State) : State :=
  reply 0x05 tag status [s.bus.state.code, s.bus.cause.code] s

/-- A RUN, HOLD or STOP action (R39). -/
def busMove (new : BusState) (tag : Byte) (s : State) : State :=
  if s.bus.state.live then
    if s.bus.state = new then replyBus tag .ok s else settle (replyBus tag .ok (moveLive new .request s))
  else replyBus tag .badState s

/-- The supply counts as good (R45). -/
def SupplyState.isGood : SupplyState → Bool
  | .good => true
  | .low => true
  | .lost => false
  | .recovering => false

/-- OFF and RESET are refused in DOWN while the supply is not good (R40, R42). -/
def supplyRefuses (s : State) : Bool := (s.bus.state == .down) && !s.bus.supply.isGood

/-- The SUPPLY notice: LOST 0, RESTORED 1 (R46, R47). -/
def noticeSupply (event : Byte) (s : State) : State := notice 6 [event] s

/-- BUS OFF and BUS RESET end with the flush of the queue and the BUS reply, in either order (R39, R80). -/
def flushAndReply (tag : Byte) (s : State) : State := eitherOrder flushQueue (replyBus tag .ok) s

/-- The end of the card reset pulse (R41): the state of setting 5, cause RESET_END; every ATTACHED slot is watched
from here on (R109, R111). -/
def endPulse (s : State) : State :=
  let new : BusState := if s.settings.afterReset = 0 then .run else .hold
  allSlots.foldl (fun t n => startWatching n t) (changeBus new .resetEnd s)

end Sys2Proof.Machine
end

