-- ==== Sys2Proof/Machine/Link.lean ====
section
/-! DEFINITION. The message link's own operations (Chapter 11): taking a request, discarding a frame, the receiver's
tests, and the settings table. -/

namespace Sys2Proof.Machine

/-- What a command answers. -/
abbrev Result : Type := Host.Outcome State Fault Refusal

/-! ## The receiver (R184 to R186, R189) -/

/-- The OUT pipe is left unread: 16 or more replies wait (R189). -/
def held (s : State) : Bool := decide (16 ≤ repliesIn s.link.tx)

/-- The receiver in HUNT, with no first sync seen. -/
def hunt (s : State) : State := modLink (fun l => { l with rx := resetReceiver, silence := 0 }) s

/-- A discard (R185, R186). -/
def discard (s : State) : State := hunt (modLink (fun l => { l with errors := min 65535 (l.errors + 1) }) s)

/-- Bytes that wait in the OUT pipe (R189). -/
def pipeBytes (bs : List Byte) (s : State) : State := modLink (fun l => { l with outPipe := l.outPipe ++ bs }) s

/-- A request row stands for its whole frame (log entry 11): no byte is taken while the link is not ready (R182), the
frame waits in the OUT pipe while 16 replies wait (R189), a payload above 1024 bytes or a kind above 0x7F is
discarded (R185); else the
receiver is back in HUNT and the owner serves the request (R184, R187). -/
def takeRequest (i : Instr) (serve : State → State) (s : State) : State :=
  match requestFrame i with
  | some (kind, tag, payload) =>
    if !s.link.ready then s
    else if held s then pipeBytes (frameBytes kind tag payload) s
    else if 1024 < payload.length ∨ 128 ≤ kind.toNat then discard s
    else serve (hunt s)
  | none => s

/-- A request refused with its status alone (R188). -/
def refuse (kind tag : Byte) (status : Status) (s : State) : State := reply kind tag status [] s

/-! ## Settings (R191) -/

/-- The value of a setting. -/
def Settings.get (x : Settings) : Nat → Nat
  | 1 => x.clock
  | 2 => x.readyTimeout
  | 3 => x.refresh
  | 4 => x.pulse
  | 5 => x.afterReset
  | 6 => x.masterLimit
  | 7 => x.burstLimit
  | 8 => x.almostFull
  | 9 => x.notices
  | 10 => x.globalEnable
  | 11 => x.groupMask
  | _ => 0

/-- The settings with one stored. -/
def Settings.put (x : Settings) : Nat → Nat → Settings
  | 1, v => { x with clock := v }
  | 2, v => { x with readyTimeout := v }
  | 3, v => { x with refresh := v }
  | 4, v => { x with pulse := v }
  | 5, v => { x with afterReset := v }
  | 6, v => { x with masterLimit := v }
  | 7, v => { x with burstLimit := v }
  | 8, v => { x with almostFull := v }
  | 9, v => { x with notices := v }
  | 10, v => { x with globalEnable := v }
  | 11, v => { x with groupMask := v }
  | _, _ => x

/-- A setting's lowest value (R191). -/
def settingLow : Nat → Nat
  | 1 => 8
  | 2 => 1
  | 4 => 1
  | 8 => 1
  | _ => 0

/-- A setting's highest value (R191). -/
def settingHigh : Nat → Nat
  | 1 => 24
  | 2 => 250
  | 3 => 255
  | 4 => 255
  | 5 => 1
  | 6 => 1000
  | 7 => 256
  | 8 => 512
  | 9 => 255
  | 10 => 1
  | _ => 255

/-- A value clamped to its setting's range (R191). -/
def clampSetting (n v : Nat) : Nat := max (settingLow n) (min v (settingHigh n))

/-- Setting numbers 1 to 11. -/
def settingNumber (n : Nat) : Bool := decide (1 ≤ n) && decide (n ≤ 11)

end Sys2Proof.Machine
end

