-- ==== Sys2Proof/Machine/CmdBus.lean ====
section
/-! DEFINITION. The BUS requests, the end of the card reset pulse and the supply monitor (Sections 2.5 to 2.9). -/

namespace Sys2Proof.Machine

/-- BUS RUN (R39). -/
def serveBusRun (tag : Byte) (s : State) : State := busMove .run tag s

/-- BUS HOLD (R39). -/
def serveBusHold (tag : Byte) (s : State) : State := busMove .hold tag s

/-- BUS STOP (R39). -/
def serveBusStop (tag : Byte) (s : State) : State := busMove .stop tag s

/-- BUS OFF (R42). -/
def serveBusOff (tag : Byte) (s : State) : State :=
  if s.bus.state = .off then replyBus tag .ok s
  else if supplyRefuses s then replyBus tag .badState s
  else flushAndReply tag (enterDead .off .request s)

/-- BUS RESET (R40): the pulse time is read from setting 4. -/
def serveBusReset (tag : Byte) (s : State) : State :=
  if s.bus.state = .resetting then replyBus tag .badState s
  else if supplyRefuses s then replyBus tag .badState s
  else
    flushAndReply tag
      (modBus (fun b => { b with pulseLeft := s.settings.pulse }) (enterDead .resetting .request s))

/-- BUS_RUN. -/
def execBusRun (tag : Byte) (s : State) : Result := .next (takeRequest (.busRun tag) (serveBusRun tag) s)

/-- BUS_HOLD. -/
def execBusHold (tag : Byte) (s : State) : Result := .next (takeRequest (.busHold tag) (serveBusHold tag) s)

/-- BUS_STOP. -/
def execBusStop (tag : Byte) (s : State) : Result := .next (takeRequest (.busStop tag) (serveBusStop tag) s)

/-- BUS_OFF. -/
def execBusOff (tag : Byte) (s : State) : Result := .next (takeRequest (.busOff tag) (serveBusOff tag) s)

/-- BUS_RESET. -/
def execBusReset (tag : Byte) (s : State) : Result := .next (takeRequest (.busReset tag) (serveBusReset tag) s)

/-- PULSE_END (R41): the pulse time left has reached 0. -/
def execPulseEnd (s : State) : Result := .next (if s.bus.state = .resetting then settle (endPulse s) else s)

/-- CSUPGOOD_LOW (R45): GOOD to LOW, RECOVERING back to LOST. -/
def execCsupgoodLow (s : State) : Result :=
  .next (match s.bus.supply with
    | .good => modBus (fun b => { b with supply := .low, supplyMicros := 0 }) s
    | .recovering => modBus (fun b => { b with supply := .lost, supplyMicros := 0 }) s
    | .low => s
    | .lost => s)

/-- CSUPGOOD_HIGH (R45): LOW to GOOD, LOST to RECOVERING. -/
def execCsupgoodHigh (s : State) : Result :=
  .next (match s.bus.supply with
    | .low => modBus (fun b => { b with supply := .good, supplyMicros := 0 }) s
    | .lost => modBus (fun b => { b with supply := .recovering, supplyMicros := 0 }) s
    | .good => s
    | .recovering => s)

/-- SUPPLY_LOST (R46): the monitor enters LOST; the bus goes to DOWN unless it is there. -/
def execSupplyLost (s : State) : Result :=
  .next (if s.bus.supply = .low then
    let s1 := noticeSupply 0 (modBus (fun b => { b with supply := .lost, supplyMicros := 0 }) s)
    if s.bus.state = .down then s1 else flushQueue (enterDead .down .supply s1)
  else s)

/-- SUPPLY_RESTORED (R47): the monitor enters GOOD; the bus stays as it is. -/
def execSupplyRestored (s : State) : Result :=
  .next (if s.bus.supply = .recovering then
    noticeSupply 1 (modBus (fun b => { b with supply := .good, supplyMicros := 0 }) s)
  else s)

end Sys2Proof.Machine
end

