-- ==== Sys2Proof/Machine/Claims.lean ====
section
/-! DEFINITION. The claim table (Section 1.2): matching, resolving a byte address, the checks of a CLAIM write and the
overlap check. -/

namespace Sys2Proof.Machine

/-- The claim entries, entry 0 first. -/
def allEntries : List (Fin 24) :=
  [0, 1, 2, 3, 4, 5, 6, 7, 8, 9, 10, 11, 12, 13, 14, 15, 16, 17, 18, 19, 20, 21, 22, 23]

/-- An address of a space matches an entry (R5). -/
def Claim.matches (c : Claim) (space : Space) (a : Nat) : Bool :=
  c.enabled && (c.space == space) && decide (c.base ≤ a % 2 ^ c.decode) && decide (a % 2 ^ c.decode ≤ c.limit)

/-- A claim's target as a cycle's target. -/
def ClaimTarget.cycle : ClaimTarget → CycleTarget
  | .slot n => .slot n
  | .image => .image

/-- What a byte takes from the entry it matches (R5, R20, R175). -/
def Claim.resolved (c : Claim) (e : Fin 24) (a : Nat) : Resolved where
  entry := some e
  target := c.target.cycle
  wide := c.wide
  extra := c.extra
  imageOffset := c.imageOffset + (a % 2 ^ c.decode - c.base)
  readOnly := c.readOnly

/-- An unclaimed byte: target ALL, NARROW, E = 0 (R10). -/
def unclaimedByte : Resolved where
  entry := none
  target := .all
  wide := false
  extra := 0
  imageOffset := 0
  readOnly := false

/-- Resolves a byte address against the table as it stands (R5). -/
def resolve (claims : Vector Claim 24) (space : Space) (a : Nat) : Resolved :=
  match allEntries.find? fun e => claims[e].matches space a with
  | some e => claims[e].resolved e a
  | none => unclaimedByte

/-! ## The overlap check (R7) -/

/-- A range reduced modulo `2 ^ d`: one range, or the two of a range that wraps. -/
def reducedRanges (base limit d : Nat) : List (Nat × Nat) :=
  let m := 2 ^ d
  if m ≤ limit - base + 1 then [(0, m - 1)]
  else if base % m ≤ limit % m then [(base % m, limit % m)]
  else [(base % m, m - 1), (0, limit % m)]

/-- Two inclusive ranges share a number. -/
def rangesMeet (x y : Nat × Nat) : Bool := decide (x.1 ≤ y.2) && decide (y.1 ≤ x.2)

/-- Entry 1, with the smaller decode width, against entry 2 reduced to it. -/
def overlapsReduced (one two : Claim) : Bool :=
  (reducedRanges two.base two.limit one.decode).any (rangesMeet (one.base, one.limit))

/-- Two entries of one space overlap (R7). -/
def Claim.overlaps (x y : Claim) : Bool :=
  if x.decode ≤ y.decode then overlapsReduced x y else overlapsReduced y x

/-- The entry would overlap another enabled entry of its space (R6, R7). -/
def conflicts (claims : Vector Claim 24) (e : Fin 24) (c : Claim) : Bool :=
  c.enabled && allEntries.any fun k => (k != e) && claims[k].enabled && (claims[k].space == c.space) && c.overlaps claims[k]

/-! ## A CLAIM write's checks (R6) -/

/-- Pass 1: the codes of space, target and width. -/
def claimCodes (w : ClaimFields) : Option (Space × ClaimTarget × Bool) :=
  match readSpace w.space, readTarget w.target, readClaimWidth w.width with
  | some sp, some t, some wide => some (sp, t, wide)
  | _, _, _ => none

/-- Pass 2, but for the entry number: the fields in range. -/
def claimInRange (w : ClaimFields) (space : Space) (target : ClaimTarget) : Bool :=
  decide (w.extra.toNat ≤ 15) && decide (w.base.toNat ≤ w.limit.toNat) &&
    (match space with
     | .mem => decide (w.base.toNat ≤ 0xFFFFF) && decide (w.limit.toNat ≤ 0xFFFFF)
     | .io =>
       (w.decode == 10 || w.decode == 12 || w.decode == 16) && decide (w.base.toNat < 2 ^ w.decode.toNat) &&
         decide (w.limit.toNat < 2 ^ w.decode.toNat)) &&
    (match target with
     | .image =>
       (space == .mem) && decide (w.imageOffset.toNat + (w.limit.toNat - w.base.toNat) ≤ 0xFFFFF)
     | .slot _ => true)

/-- The entry an accepted write stores: decode width 20 in MEM space, offset 0 and read-only off for a slot. -/
def storedClaim (w : ClaimFields) (space : Space) (target : ClaimTarget) (wide : Bool) : Claim where
  enabled := flagByte .claimEnabled w.enabled
  space := space
  base := w.base.toNat
  limit := w.limit.toNat
  decode := if space = .mem then 20 else w.decode.toNat
  target := target
  wide := wide
  extra := w.extra.toNat
  imageOffset := if target = .image then w.imageOffset.toNat else 0
  readOnly := (target == .image) && flagByte .claimReadOnly w.readOnly

/-- The three passes (R6): the refusal, or the entry number and the entry to store. -/
def checkClaim (claims : Vector Claim 24) (w : ClaimFields) : Except Status (Fin 24 × Claim) :=
  match claimCodes w with
  | none => .error .badRequest
  | some (space, target, wide) =>
    match indexBelow 24 w.entry with
    | none => .error .range
    | some e =>
      if claimInRange w space target then
        if conflicts claims e (storedClaim w space target wide) then .error .conflict
        else .ok (e, storedClaim w space target wide)
      else .error .range

/-- Bytes 1 to 16 of the write layout, as stored (R8, R195). -/
def Claim.bytes (c : Claim) : List Byte :=
  [boolCode c.enabled, spaceCode c.space, natByte c.decode] ++ bytes3 c.base ++ bytes3 c.limit ++
    [c.target.code, boolCode c.wide, natByte c.extra] ++ bytes3 c.imageOffset ++ [boolCode c.readOnly]

end Sys2Proof.Machine
end

