-- ==== Sys2Proof/Machine/CmdClaim.lean ====
section
/-! DEFINITION. The CLAIM requests (Section 1.2). -/

namespace Sys2Proof.Machine

/-- CLAIM write (R6). -/
def serveClaimWrite (tag : Byte) (w : ClaimFields) (s : State) : State :=
  match checkClaim s.claims w with
  | .error status => refuse 0x07 tag status s
  | .ok (e, c) => reply 0x07 tag .ok [] { s with claims := upd s.claims e fun _ => c }

/-- CLAIM read (R8). -/
def serveClaimRead (tag entry : Byte) (s : State) : State :=
  match indexBelow 24 entry with
  | some e => reply 0x07 tag .ok s.claims[e].bytes s
  | none => refuse 0x07 tag .range s

/-- CLAIM_WRITE. -/
def execClaimWrite (tag : Byte) (w : ClaimFields) (s : State) : Result :=
  .next (takeRequest (.claimWrite tag w) (serveClaimWrite tag w) s)

/-- CLAIM_READ. -/
def execClaimRead (tag entry : Byte) (s : State) : Result :=
  .next (takeRequest (.claimRead tag entry) (serveClaimRead tag entry) s)

end Sys2Proof.Machine
end

