-- ==== Sys2Proof/Machine/Watch.lean ====
section
/-! DEFINITION. The watch units (Chapter 9): matching a presented cycle, what a hit does, and the checks and fields of
a WATCH request. -/

namespace Sys2Proof.Machine

/-- The initiator is among the unit's initiators. -/
def Watch.watchesInitiator (w : Watch) : Initiator → Bool
  | .queue => w.fromQueue
  | .channel _ => w.fromChannel
  | .service => w.fromService
  | .master => w.fromMaster

/-- The presentation's two data bytes as one value, the first byte low (R167). -/
def Presentation.value (p : Presentation) : Word16 := word16 p.data0 p.data1

/-- An ARMED unit hits on a presented cycle (R167). -/
def Watch.hits? (w : Watch) (p : Presentation) : Bool :=
  w.armed && (w.space == p.space) && ((w.address ^^^ BitVec.ofNat 20 p.address) &&& w.mask == 0) &&
    (if p.write then w.writes else w.reads) && w.watchesInitiator p.initiator &&
    (!w.dataCompare || ((w.dataValue ^^^ p.value) &&& w.dataMask == 0))

/-- The cycle byte of a WATCH record (R195). -/
def Presentation.cycleByte (p : Presentation) : Byte :=
  natByte ((p.space == .io).toNat + 2 * p.write.toNat + 4 * p.word.toNat)

/-- The WATCH record (R169). -/
def watchRecord (u : Fin 2) (p : Presentation) (s : State) : Record where
  source := .watch u
  slot := p.slot
  flags := { noRecordFlags with unclaimed := p.unclaimed, prot := p.prot, timeout := p.timeout }
  sequence := 0
  time := s.timeBase
  coalesced := 0
  lost := 0
  firstFail := none
  entry := none
  steps := none
  data := p.cycleByte :: (bytes3 p.address ++ [p.data0, p.data1, p.initiator.code, slotCode p.slot])

/-- The bus controller takes a unit's hold request (R43): only in RUN, and the first unit stays named. -/
def requestHold (u : Fin 2) (s : State) : State :=
  if s.bus.state = .run ∧ s.bus.holdRequest = none then modBus (fun b => { b with holdRequest := some u }) s else s

/-- A hit (R168). -/
def watchHit (u : Fin 2) (p : Presentation) (s : State) : State :=
  let w := s.watch[u]
  let s1 := { s with watch := upd s.watch u fun x =>
                { x with hits := min 65535 (x.hits + 1), armed := x.armed && !x.oneShot } }
  let s2 := if w.record then handRecord (watchRecord u p s1) s1 else s1
  if w.hold then requestHold u s2 else s2

/-- One unit takes a presentation. -/
def presentTo (u : Fin 2) (p : Presentation) (s : State) : State :=
  if s.watch[u].hits? p then watchHit u p s else s

/-- Both units take a presentation, in either order (R166, R43, R154). -/
def present (p : Presentation) (s : State) : State := eitherOrder (presentTo 0 p) (presentTo 1 p) s

/-! ## The WATCH request (R171, R172) -/

/-- Pass 1 of a CONFIGURE: the codes of space and arm field, and no bit that names no member (R171). -/
def watchCodes (w : WatchFields) : Option (Space × Bool) :=
  match readSpace w.space, readArm w.arm with
  | some sp, some armed =>
    if decide (w.kinds.toNat < 4) && decide (w.initiators.toNat < 16) && decide (w.actions.toNat < 4) then some (sp, armed)
    else none
  | _, _ => none

/-- The highest address of a space. -/
def lastAddress : Space → Nat
  | .mem => 0xFFFFF
  | .io => 0xFFFF

/-- Pass 2 of a CONFIGURE, but for the unit number (R171). -/
def watchInRange (w : WatchFields) (space : Space) : Bool :=
  (w.kinds != 0) && (w.initiators != 0) && decide (w.address.toNat ≤ lastAddress space) &&
    decide (w.mask.toNat ≤ lastAddress space)

/-- The unit an accepted CONFIGURE leaves: every carried field, the state from the arm field, the hit count cleared
if asked (R171). -/
def configuredWatch (old : Watch) (w : WatchFields) (space : Space) (armed : Bool) : Watch where
  armed := armed
  space := space
  address := w.address.setWidth 20
  mask := w.mask.setWidth 20
  reads := w.kinds.getLsbD 0
  writes := w.kinds.getLsbD 1
  fromQueue := w.initiators.getLsbD 0
  fromChannel := w.initiators.getLsbD 1
  fromService := w.initiators.getLsbD 2
  fromMaster := w.initiators.getLsbD 3
  dataCompare := flagByte .watchDataCompare w.dataCompare
  dataValue := w.dataValue
  dataMask := w.dataMask
  record := w.actions.getLsbD 0
  hold := w.actions.getLsbD 1
  oneShot := flagByte .watchOneShot w.oneShot
  hits := if flagByte .watchClearCount w.clearCount then 0 else old.hits

/-- A WATCH reply's fields (R172, R195): state, bytes 2 to 17 of the CONFIGURE layout, hit count, lost count. -/
def watchFields (s : State) (u : Fin 2) : List Byte :=
  let w := s.watch[u]
  [boolCode w.armed, spaceCode w.space] ++ bytes3 w.address.toNat ++ bytes3 w.mask.toNat ++
    [natByte (w.reads.toNat + 2 * w.writes.toNat),
     natByte (w.fromQueue.toNat + 2 * w.fromChannel.toNat + 4 * w.fromService.toNat + 8 * w.fromMaster.toNat),
     boolCode w.dataCompare] ++ bytes2 w.dataValue.toNat ++ bytes2 w.dataMask.toNat ++
    [natByte (w.record.toNat + 2 * w.hold.toNat), boolCode w.oneShot] ++ bytes2 w.hits ++
    [natByte (s.capture.counts (.watch u)).lost]

/-- The reply to an accepted WATCH request: status OK and the unit's fields after the action (R171). -/
def replyWatch (tag : Byte) (u : Fin 2) (s : State) : State := reply 0x11 tag .ok (watchFields s u) s

end Sys2Proof.Machine
end

