-- ==== Sys2Proof/Machine/Planner.lean ====
section
/-! DEFINITION. The cycle planner (Chapter 1, and 5.5 for DMA transfers): planning an access, starting a cycle, the
data it moves, its presentation, the cycle boundary, and master cycles. -/

namespace Sys2Proof.Machine

/-! ## Planning (R10 to R13) -/

/-- S_base (R13). -/
def sBase (space : Space) (wide : Bool) : Nat :=
  if wide then 1
  else
    match space with
    | .mem => 3
    | .io => 4

/-- Tc = ceil(T × c / 2) clocks (R3). -/
def cycleLimit (timeout clock : Nat) : Nat := (timeout * clock + 1) / 2

/-- The length of a cycle in bus clocks (R13). -/
def Cycle.length (c : Cycle) : Nat :=
  if c.kind = .refresh then 5 else 1 + sBase c.space c.wide + c.extra + c.waits + 1

/-- The fifth condition of R11. -/
def wideTarget (s : State) : CycleTarget → Bool
  | .image => true
  | .slot n => s.slots[n].wide
  | .all => false

/-- The five conditions of R11. -/
def plansWide (s : State) (i : AccessInput) (low high : Resolved) : Bool :=
  i.word && decide (i.address % 2 = 0) && low.entry.isSome && (low.entry == high.entry) && low.wide &&
    wideTarget s low.target

/-- An access begins: both bytes are resolved (R10) and the plan chosen (R11). -/
def beginAccess (s : State) (i : AccessInput) (terminal pulsed : Bool) : Access :=
  let low := resolve s.claims i.space i.address
  let high := resolve s.claims i.space ((i.address + 1) % spaceSize i.space)
  { space := i.space, address := i.address, word := i.word, write := i.write, writeLow := i.writeLow,
    writeHigh := i.writeHigh, low := low, high := high, wideAttempt := plansWide s i low high, narrowed := false,
    stage := .first, lowResult := { status := .ok, value := 0xFF }, highResult := { status := .ok, value := 0xFF },
    cycles := 0, terminal := terminal, pulsed := pulsed }

/-- What the byte of the next cycle resolved to. -/
def Access.nextByte (a : Access) : Resolved := if a.stage = .second then a.high else a.low

/-- The byte address of the next cycle (R10). -/
def Access.nextAddress (a : Access) : Nat :=
  if a.stage = .second then (a.address + 1) % spaceSize a.space else a.address

/-- The next cycle is the wide attempt (R12). -/
def Access.attempting (a : Access) : Bool := a.wideAttempt && !a.narrowed && (a.stage == .first)

/-- The access takes the outcome of its cycle: of both bytes of a wide one, of its byte of a narrow one (R15). -/
def Access.take (a : Access) (wide : Bool) (low high : ByteResult) : Access :=
  if wide then { a with lowResult := low, highResult := high, stage := .done }
  else
    match a.stage with
    | .first => { a with lowResult := low, stage := if a.word then .second else .done }
    | .second => { a with highResult := low, stage := .done }
    | .done => a

/-! ## Handing results over -/

/-- The access an initiator has in progress. -/
def accessOf (s : State) : Initiator → Option Access
  | .queue => s.queue.access
  | .channel n => s.channels[n].access
  | .service => s.engine.access
  | .master => none

/-- Stores an initiator's access in progress. -/
def putAccess (init : Initiator) (a : Option Access) (s : State) : State :=
  match init with
  | .queue => modQueue (fun q => { q with access := a }) s
  | .channel n => modChannel n (fun c => { c with access := a }) s
  | .service => modEngine (fun g => { g with access := a }) s
  | .master => s

/-- The access has ended: its initiator takes the result (R72, R95, R135). -/
def accessDone (init : Initiator) (a : Access) (s : State) : State :=
  match init with
  | .queue => queueAccessDone a s
  | .channel n => transferDone n a s
  | .service => serviceAccessDone a s
  | .master => s

/-- After one of its cycles the access goes on to its next, or ends. -/
def accessGoesOn (init : Initiator) (a : Access) (s : State) : State :=
  if a.stage = .done then accessDone init a (putAccess init none s) else putAccess init (some a) s

/-- A CLEAR that waited for the initiator's transfer (R89). -/
def clearsAfter (init : Initiator) (s : State) : State :=
  match init with
  | .channel n => clearsOver n s
  | .queue => s
  | .service => s
  | .master => s

/-- An ISOLATE of the owner that waited for the initiator's transfer, which has ended without a cycle (R102). -/
def isolateAfter (init : Initiator) (s : State) : State :=
  match init with
  | .channel n => changeDue s.channels[n].owner s
  | .queue => s
  | .service => s
  | .master => s

/-! ## Starting a cycle (R1, R12, R17 to R19, R22, R63, R93) -/

/-- No slot is attached. -/
def noneAttached (s : State) : Bool := !allSlots.any (attached s)

/-- How a byte ends without a cycle: BLOCKED at a slot that is not ATTACHED (R19), OK when unclaimed with no slot
attached (R17, R18). A DMA transfer's unclaimed cycle is driven all the same (R95). -/
def withoutCycle (s : State) (target : CycleTarget) (dma : Bool) : Option ByteStatus :=
  match target with
  | .slot n => if attached s n then none else some .blocked
  | .all => if !dma && noneAttached s then some .ok else none
  | .image => none

/-- The grant that a cycle was to run under ends at once; the bus is offered again (R52). -/
def grantUnused (previous : Owner) (s : State) : State := settle (holdBoundary previous s)

/-- The slots that take part in a cycle to ALL (R17, R18); a DMA transfer leaves its owner out (R95). -/
def membersOf (s : State) (target : CycleTarget) (side : Option CardSide) : Vector Bool 8 :=
  Vector.ofFn fun n =>
    (target == .all) && attached s n &&
      (match side with
       | some x => x.owner != n
       | none => true)

/-- The card side of an initiator's cycles (R93). -/
def cardSideOf (s : State) (init : Initiator) (terminal : Bool) : Option CardSide :=
  match init with
  | .channel n => some { owner := s.channels[n].owner, direction := s.channels[n].direction, terminal := terminal }
  | .queue => none
  | .service => none
  | .master => none

/-- Image memory is read at the start of SETUP for a TO_CARD transfer (R94, R176). -/
def fetchEarly (s : State) (side : Option CardSide) (target : CycleTarget) (offset : Nat) : Byte :=
  match side with
  | some x =>
    if x.direction = .toCard ∧ target = .image then readByte s.image.cells offset else 0xFF
  | none => 0xFF

/-- The cycle an access runs next (R1, R3, R11, R12). -/
def plannedCycle (s : State) (init : Initiator) (a : Access) (wide : Bool) : Cycle :=
  let r := a.nextByte
  let side := cardSideOf s init a.terminal
  { kind := .access, phase := .setup, spent := none, space := a.space, address := a.nextAddress, write := a.write, wide := wide,
    target := r.target, extra := r.extra, clock := s.settings.clock,
    limit := cycleLimit s.settings.readyTimeout s.settings.clock, waits := 0, initiator := init,
    members := membersOf s r.target side, imageOffset := r.imageOffset, readOnly := r.readOnly,
    unclaimed := r.entry.isNone, highByte := a.stage == .second,
    writeLow := if a.stage = .second then a.writeHigh else a.writeLow, writeHigh := a.writeHigh,
    readLow := fetchEarly s side r.target r.imageOffset, readHigh := fetchEarly s side r.target (r.imageOffset + 1),
    samples := Vector.replicate 8 0xFF, timedOut := false, lost := false, cardSide := side }

/-- A driven cycle begins: the address lines carry its address (R1). -/
def driveCycle (c : Cycle) (s : State) : State :=
  modPlanner (fun p => { p with cycle := some c, address := BitVec.ofNat 20 c.address }) s

/-- An access's next cycle starts, or its bytes end without one. `wideAck` is the slot's wide-acknowledge at the end
of SETUP (R12). -/
def startAccess (init : Initiator) (a : Access) (wideAck : Bool) (s : State) : State :=
  match withoutCycle s a.nextByte.target (cardSideOf s init a.terminal).isSome with
  | some status =>
    let previous := s.arb.owner
    let r : ByteResult := { status := status, value := 0xFF }
    let s1 := modArb (fun x => { x with owner := .none }) s
    grantUnused previous (isolateAfter init (clearsAfter init (accessGoesOn init (a.take a.attempting r r) s1)))
  | none =>
    let wide := a.attempting && ((a.nextByte.target == .image) || wideAck)
    let a' := if a.attempting && !wide then { a with narrowed := true } else a
    driveCycle (plannedCycle s init a' wide) (putAccess init (some a') s)

/-- The PROBE's cycle (R22). -/
def probeCycle (s : State) (port : Nat) : Cycle where
  kind := .probe
  phase := .setup
  spent := none
  space := .io
  address := port
  write := false
  wide := false
  target := .all
  extra := 0
  clock := s.settings.clock
  limit := cycleLimit s.settings.readyTimeout s.settings.clock
  waits := 0
  initiator := .queue
  members := attachedSet s
  imageOffset := 0
  readOnly := false
  unclaimed := false
  highByte := false
  writeLow := 0xFF
  writeHigh := 0xFF
  readLow := 0xFF
  readHigh := 0xFF
  samples := Vector.replicate 8 0xFF
  timedOut := false
  lost := false
  cardSide := none

/-- A PROBE starts, or ends at once with no slot attached (R22). -/
def startProbe (port : Nat) (s : State) : State :=
  if noneAttached s then
    let s1 := modArb (fun x => { x with owner := .none }) s
    grantUnused s.arb.owner (probeDone (List.replicate 8 0xFF) 0 false 0 s1)
  else driveCycle (probeCycle s port) s

/-- A refresh cycle (R63): the row on CA7-CA0. Its initiator is not read. -/
def refreshCycle (s : State) : Cycle :=
  { probeCycle s s.arb.row.toNat with kind := .refresh, space := .mem, limit := 0 }

/-- The granted cycle begins its SETUP clock, or its grant ends at once (R1, R52). -/
def startCycle (wideAck : Bool) (s : State) : State :=
  if cycleRunning s then s
  else
    match s.arb.owner with
    | .refresh => driveCycle (refreshCycle s) s
    | .channel n =>
      match s.channels[n].access with
      | some a => startAccess (.channel n) a wideAck s
      | none =>
        let c := s.channels[n]
        startAccess (.channel n) (beginAccess s (channelWants s n) c.terminal c.pulse) wideAck s
    | .service =>
      match s.engine.access, serviceWants s with
      | some a, _ => startAccess .service a wideAck s
      | none, some i => startAccess .service (beginAccess s i false false) wideAck s
      | none, none => s
    | .queue =>
      match probing s, s.queue.access, queueWants s with
      | some port, _, _ => startProbe port s
      | none, some a, _ => startAccess .queue a wideAck s
      | none, none, some i => startAccess .queue (beginAccess s i false false) wideAck s
      | none, none, none => s
    | .none => s
    | .master _ => s

/-! ## The data of a cycle (R2, R18, R20, R94 to R96) -/

/-- The low byte of a slot's lines as the part sees them. -/
def slotByte (s : State) (lines : CardLines) (n : Fin 8) : Byte := byte0 (seenLines s lines n)

/-- The bitwise AND of the bytes sampled from the slots that take part (R18). -/
def andSamples (s : State) (lines : CardLines) (members : Vector Bool 8) : Byte :=
  allSlots.foldl (fun b n => if members[n] then b &&& slotByte s lines n else b) 0xFF

/-- The bytes the memory side of a read cycle gives. -/
def memoryBytes (s : State) (lines : CardLines) (c : Cycle) : Byte × Byte :=
  match c.target with
  | .slot n => (slotByte s lines n, if c.wide then byte1 (seenLines s lines n) else 0xFF)
  | .all => (andSamples s lines c.members, 0xFF)
  | .image =>
    (readByte s.image.cells c.imageOffset, if c.wide then readByte s.image.cells (c.imageOffset + 1) else 0xFF)

/-- The bytes the owner slot gives a FROM_CARD cycle: its word, or D15-D8 alone in a second cycle (R96). -/
def ownerBytes (w : Word16) (c : Cycle) : Byte × Byte :=
  if c.wide then (byte0 w, byte1 w) else if c.highByte then (byte1 w, 0xFF) else (byte0 w, 0xFF)

/-- The memory side is the owner slot itself: the part neither samples nor drives its data lines (R95). -/
def Cycle.internal (c : Cycle) : Bool :=
  match c.cardSide with
  | some side => (c.target == .slot side.owner) && (side.direction != .verify)
  | none => false

/-- Bytes the part presents without having sampled them (log entry 4). -/
def unsampled (s : State) (c : Cycle) : Byte × Byte :=
  (Config.unsampledByte s.planner.freeBytes,
   if c.wide then Config.unsampledByte (s.planner.freeBytes + 1) else 0xFF)

/-- The bytes a cycle moves on its memory side, when it does not time out. -/
def movedBytes (s : State) (lines : CardLines) (c : Cycle) : Byte × Byte :=
  match c.cardSide with
  | none => if c.write then (c.writeLow, if c.wide then c.writeHigh else 0xFF) else memoryBytes s lines c
  | some side =>
    if c.internal then unsampled s c
    else
      match side.direction with
      | .verify => (0xFF, 0xFF)
      | .fromCard => ownerBytes (seenLines s lines side.owner) c
      | .toCard =>
        if c.target = .image then (c.readLow, if c.wide then c.readHigh else 0xFF) else memoryBytes s lines c

/-- The bytes a cycle carries: on timeout a read carries 0xFF (R14). -/
def carriedBytes (s : State) (lines : CardLines) (c : Cycle) (timedOut : Bool) : Byte × Byte :=
  if timedOut && !c.write then (0xFF, 0xFF) else movedBytes s lines c

/-- The store of a write cycle into an image window that is not read-only (R20, R94). -/
def storeCycle (c : Cycle) (b : Byte × Byte) (s : State) : State :=
  if c.write && (c.target == .image) && !c.readOnly then
    { s with image := { s.image with
        cells := writeBytesAt s.image.cells c.imageOffset (if c.wide then [b.1, b.2] else [b.1]) } }
  else s

/-- A PROBE's samples, one per slot (R22). -/
def probeSamples (s : State) (lines : CardLines) (c : Cycle) (timedOut : Bool) : Vector Byte 8 :=
  Vector.ofFn fun n => if !timedOut && c.members[n] then slotByte s lines n else 0xFF

/-- The slot a presentation names (R25). -/
def CycleTarget.slot? : CycleTarget → Option (Fin 8)
  | .slot n => some n
  | .image => none
  | .all => none

/-- The UNCLAIMED mark a cycle presents (R25); a VERIFY transfer presents TIMEOUT alone (R166; log entry 22). -/
def Cycle.showsUnclaimed (c : Cycle) : Bool :=
  match c.cardSide with
  | some side => c.unclaimed && (side.direction != .verify)
  | none => c.unclaimed

/-- The presentation of a driven cycle (R25, R166). -/
def Cycle.presentation (c : Cycle) (b : Byte × Byte) : Presentation where
  space := c.space
  address := c.address
  word := c.wide
  write := c.write
  data0 := b.1
  data1 := b.2
  initiator := c.initiator
  slot := c.target.slot?
  unclaimed := c.showsUnclaimed
  prot := c.write && c.readOnly
  timeout := c.timedOut

/-- The STROBE and WAIT phases end: the cycle takes its data, enters RECOVERY and is presented (R14, R20, R25). What time
has passed since SETUP began is no longer read. -/
def finishStrobe (c : Cycle) (waits : Nat) (timedOut : Bool) (lines : CardLines) (s : State) : State :=
  let b := carriedBytes s lines c timedOut
  let c' := { c with
    phase := .recovery, waits := waits, timedOut := timedOut, readLow := b.1, readHigh := b.2,
    samples := if c.kind = .probe then probeSamples s lines c timedOut else c.samples }
  let s1 := modPlanner (fun p => { p with
    cycle := some c', freeBytes := if c.internal then p.freeBytes + 2 else p.freeBytes }) s
  present (c'.presentation b) (storeCycle c b s1)

/-- The cycle has ready sources (R14, R93). -/
def Cycle.waitable (c : Cycle) : Bool := (c.target != .image) || c.cardSide.isSome

/-- A ready source whose buffers are open, so that it can hold ready low (R14, R21). -/
def canHold (s : State) (c : Cycle) : Bool :=
  (match c.target with
   | .slot n => attached s n
   | .all => allSlots.any fun n => c.members[n] && attached s n
   | .image => false) ||
    (match c.cardSide with
     | some side => attached s side.owner
     | none => false)

/-- CYCLE_WAIT_END: every ready source shows ready after `waits` WAIT clocks (R14). -/
def endWait (waits : Nat) (lines : CardLines) (s : State) : State :=
  match s.planner.cycle with
  | some c =>
    if c.phase ≠ .recovery ∧ c.kind ≠ .refresh then
      finishStrobe c (if c.waitable then min waits c.limit else 0) false lines s
    else s
  | none => s

/-- READY_TIMEOUT: W reaches Tc with ready still low (R14). -/
def timeOut (lines : CardLines) (s : State) : State :=
  match s.planner.cycle with
  | some c =>
    if c.phase ≠ .recovery ∧ c.kind ≠ .refresh ∧ canHold s c then finishStrobe c c.limit true lines s else s
  | none => s

/-! ## The cycle boundary (R1) -/

/-- How the bytes of a cycle ended (R14, R21). -/
def Cycle.outcome (c : Cycle) : ByteStatus := if c.lost then .blocked else if c.timedOut then .timeout else .ok

/-- A byte's result: 0xFF unless it is OK (R14, R21). -/
def Cycle.byteResult (c : Cycle) (b : Byte) : ByteResult :=
  { status := c.outcome, value := if c.outcome = .ok then b else 0xFF }

/-- A bitmap, bit n for slot n. -/
def bitmapOf (v : Vector Bool 8) : Byte := natByte (bitsNumber (allSlots.map fun n => v[n]))

/-- A PROBE's eight bytes: 0xFF for a slot whose buffers closed during the cycle (R22). -/
def probeBytes (s : State) (c : Cycle) : List Byte :=
  allSlots.map fun n => if attached s n then c.samples[n] else 0xFF

/-- The initiator takes the result of the cycle (R15, R22). -/
def takeResult (c : Cycle) (s : State) : State :=
  match c.kind with
  | .refresh => modArb refreshPaid s
  | .probe => probeDone (probeBytes s c) (bitmapOf c.members) c.timedOut 1 s
  | .access =>
    match accessOf s c.initiator with
    | some a =>
      let a1 := a.take c.wide (c.byteResult c.readLow) (c.byteResult c.readHigh)
      clearsAfter c.initiator (accessGoesOn c.initiator { a1 with cycles := a.cycles + 1 } s)
    | none => clearsAfter c.initiator s

/-- What takes effect at a cycle boundary ahead of the arbiter's turn. DEDUCED (log entry 17): a watch hold comes first
(R43), so a service that ends here carries HELD and the next selection reads HOLD (R113, R138, R142, R170); then the
initiator takes its result, then pending slot changes (R33, R34) and waiting settings (R44, R62). -/
def boundaryEffects (c : Cycle) (s : State) : State := applySettings (changesDue (takeResult c (takeWatchHold s)))

/-- The cycle boundary (R1): its effects, then the hold, or the arbiter, decides (R50, R54 to R56). -/
def boundary (c : Cycle) (s : State) : State :=
  let previous := s.arb.owner
  let s1 := modArb (fun x => { x with owner := .none })
    (modPlanner (fun p => { p with cycle := none, lastClocks := c.length }) s)
  settle (holdBoundary previous (boundaryEffects c s1))

/-- CYCLE_END. -/
def endCycle (s : State) : State :=
  match s.planner.cycle with
  | some c => if c.phase = .recovery ∧ c.kind ≠ .refresh then boundary c s else s
  | none => s

/-- REFRESH_CYCLE_END (R63). -/
def endRefresh (s : State) : State :=
  match s.planner.cycle with
  | some c => if c.kind = .refresh then boundary c s else s
  | none => s

/-! ## Master cycles (R23) -/

/-- The byte address a master drives: 16 bits in IO space (R9). -/
def masterAddress (space : Space) (address : BitVec 20) : Nat := address.toNat % spaceSize space

/-- A cascade master asserts its strobe (R23): its address is resolved, and a window read is fetched (R176). -/
def assertStrobe (space : Space) (address : BitVec 20) (write : Bool) (s : State) : State :=
  match s.arb.grant, s.planner.master with
  | some n, none =>
    let found := resolve s.claims space (masterAddress space address)
    modPlanner (fun p => { p with
      master := some
        { channel := n, slot := s.channels[n].owner, space := space, address := masterAddress space address,
          write := write, found := found,
          fetched := if found.target = .image ∧ !write then readByte s.image.cells found.imageOffset else 0xFF,
          spent := none } }) s
  | _, _ => s

/-- The byte on the owner's D7-D0 at strobe release (R23, R166): the part's own in a window read whose strobe was held
for E + 1 clocks, 0xFF in one released sooner, else what the cards drive. -/
def masterByte (m : MasterCycle) (clocks : Nat) (data : Byte) : Byte :=
  if m.found.target = .image ∧ !m.write then (if m.found.extra + 1 ≤ clocks then m.fetched else 0xFF) else data

/-- The presentation of a master cycle (R25, R166). -/
def MasterCycle.presentation (m : MasterCycle) (b : Byte) : Presentation where
  space := m.space
  address := m.address
  word := false
  write := m.write
  data0 := b
  data1 := 0xFF
  initiator := .master
  slot := some m.slot
  unclaimed := m.found.entry.isNone
  prot := m.write && m.found.readOnly
  timeout := false

/-- The part drives the byte of a window read on the owner's D7-D0: from E clocks after the strobe was asserted (R23). -/
def MasterCycle.drives (m : MasterCycle) : Bool :=
  (m.found.target == .image) && !m.write && decide (m.found.extra ≤ m.spent.getD 0 / 2)

/-- A master write into a window stores at strobe release (R23). -/
def storeMaster (m : MasterCycle) (b : Byte) (s : State) : State :=
  if m.write && (m.found.target == .image) && !m.found.readOnly then
    { s with image := { s.image with cells := writeByte s.image.cells m.found.imageOffset b } }
  else s

/-- A cascade master releases its strobe (R23, R43, R59). -/
def releaseStrobe (clocks : Nat) (data : Byte) (s : State) : State :=
  match s.planner.master with
  | some m =>
    let b := masterByte m clocks data
    settle (takeWatchHold (masterGone (present (m.presentation b) (storeMaster m b s))))
  | none => s

/-! ## The hold timer (R61) -/

/-- The hold timer expires (R61): the grant and hold end, the channel faults, its owner slot is faulted, the timer
stops, and the arbiter decides. The count reaches the limit at this instant. -/
def holdExpired (s : State) : State :=
  match s.arb.timerChannel with
  | some n =>
    if s.arb.timerLimit = 0 then s
    else
      let slot := s.channels[n].owner
      let s1 := modArb (fun a => { a with
        grant := if a.grant = some n then none else a.grant
        hold := if a.hold = .cascade n then .none else a.hold }) s
      let s2 := faultSlot slot (faultChannel n .holdLimit s1)
      settle (modArb (fun a => { stopHoldTimer a with owner := if a.owner = .master n then .none else a.owner }) s2)
  | none => s

end Sys2Proof.Machine
end

