-- ==== Sys2Proof/Machine/CmdCycle.lean ====
section
/-! DEFINITION. The events of driven cycles, refresh, the cascade hold timer and master cycles (Chapters 1 and 3). -/

namespace Sys2Proof.Machine

/-- CYCLE_START (R1). -/
def execCycleStart (wideAck : Bool) (s : State) : Result := .next (startCycle wideAck s)

/-- CYCLE_WAIT_END (R14). -/
def execCycleWaitEnd (waits : Nat) (lines : CardLines) (s : State) : Result := .next (endWait waits lines s)

/-- READY_TIMEOUT (R14). -/
def execReadyTimeout (lines : CardLines) (s : State) : Result := .next (timeOut lines s)

/-- CYCLE_END (R1). -/
def execCycleEnd (s : State) : Result := .next (endCycle s)

/-- REFRESH_INTERVAL_EXPIRY (R62, R64): the interval timer counts in RUN and HOLD while its interval is not 0. -/
def execRefreshIntervalExpiry (s : State) : Result :=
  .next (if refreshing s.bus.state ∧ s.arb.intervalUse ≠ 0 then settle (refreshDue s) else s)

/-- REFRESH_CYCLE_END (R63). -/
def execRefreshCycleEnd (s : State) : Result := .next (endRefresh s)

/-- HOLD_TIMER_EXPIRY (R61). -/
def execHoldTimerExpiry (s : State) : Result := .next (holdExpired s)

/-- MASTER_STROBE_ASSERT (R23). -/
def execMasterStrobeAssert (space : Space) (address : BitVec 20) (write : Bool) (s : State) : Result :=
  .next (assertStrobe space address write s)

/-- MASTER_STROBE_RELEASE (R23). -/
def execMasterStrobeRelease (clocks : Nat) (data : Byte) (s : State) : Result := .next (releaseStrobe clocks data s)

end Sys2Proof.Machine
end

