-- ==== Sys2Proof/Machine/CmdDma.lean ====
section
/-! DEFINITION. The DMA requests and the channel request lines (Sections 5.2 to 5.4). -/

namespace Sys2Proof.Machine

/-- DMA_MODE (R85): of the options byte, bit 0 and bit 1 are read. -/
def serveDmaMode (tag channel mode direction owner options : Byte) (s : State) : State :=
  match readMode mode, readDirection direction with
  | some m, some d =>
    match indexBelow 4 channel, indexBelow 8 owner with
    | some n, some slot =>
      if s.channels[n].state = .running then refuse 0x09 tag .busy s
      else
        reply 0x09 tag .ok []
          (modChannel n (fun c =>
            { c with
              mode := m, direction := d, owner := slot, recordEnd := options.getLsbD 0,
              autoReload := options.getLsbD 1, stray := 0 }) s)
    | _, _ => refuse 0x09 tag .range s
  | _, _ => refuse 0x09 tag .badRequest s

/-- A phase's state: LOADED when the other loaded flag is on (R86, R87). -/
def phaseState (other : Bool) : DmaState := if other then .loaded else .idle

/-- The offset an address phase stores: rounded down to even on a WIDE channel (R86). -/
def phaseOffset (n : Fin 4) (offset : Word16) : Word16 := if wideChannel n then offset &&& 0xFFFE else offset

/-- The address phase (R86). -/
def addressPhase (n : Fin 4) (page : Fin 16) (offset : Word16) (down : Bool) (s : State) : State :=
  modChannel n (fun c =>
    { c with
      page := page, basePage := page, offset := offset, baseOffset := offset, down := down, addressLoaded := true,
      finished := false, state := phaseState c.countLoaded }) s

/-- DMA_ADDR (R86). -/
def serveDmaAddr (tag channel page : Byte) (offset : Word16) (step : Byte) (s : State) : State :=
  match readDmaStep step with
  | some down =>
    match indexBelow 4 channel, indexBelow 16 page with
    | some n, some p =>
      if s.channels[n].state = .running then refuse 0x0A tag .busy s
      else
        reply 0x0A tag (if phaseOffset n offset = offset then .ok else .adjusted) []
          (addressPhase n p (phaseOffset n offset) down s)
    | _, _ => refuse 0x0A tag .range s
  | none => refuse 0x0A tag .badRequest s

/-- The count word of a transfer count (R87): (65536 − n) mod 65536. -/
def countWord (n : Nat) : Word16 := BitVec.ofNat 16 (65536 - n)

/-- The count phase (R87). -/
def countPhase (n : Fin 4) (count : Word16) (s : State) : State :=
  modChannel n (fun c =>
    { c with
      count := count, baseCount := count, countLoaded := true, finished := false,
      state := phaseState c.addressLoaded }) s

/-- DMA_COUNT (R87). -/
def serveDmaCount (tag channel : Byte) (count : Word24) (s : State) : State :=
  match indexBelow 4 channel with
  | some n =>
    if count.toNat = 0 ∨ 65536 < count.toNat then refuse 0x0B tag .range s
    else if s.channels[n].state = .running then refuse 0x0B tag .busy s
    else reply 0x0B tag .ok [] (countPhase n (countWord count.toNat) s)
  | none => refuse 0x0B tag .range s

/-- START may be made (R88). -/
def mayStart (s : State) (n : Fin 4) : Bool :=
  let c := s.channels[n]
  s.bus.state.live && ((c.state == .loaded) || ((c.state == .done) && c.autoReload)) && attached s c.owner

/-- The context at START (R88); a BLOCK channel whose owner already requests begins its run (R196). -/
def startChannel (n : Fin 4) (s : State) : State :=
  modChannel n (fun c =>
    let c1 := if c.state = .done then { c.reloaded with addressLoaded := true, countLoaded := true } else c
    { c1 with
      state := .running, finished := false, cause := .none, runFlags := noFlags, pulse := false,
      blockRun := (c.mode == .block) && requested s n c.owner }) s

/-- DMA_CMD START (R88). -/
def serveDmaStart (tag channel : Byte) (s : State) : State :=
  match indexBelow 4 channel with
  | some n =>
    if mayStart s n then settle (replyChannel tag .ok n (startChannel n s)) else refuse 0x0C tag .badState s
  | none => refuse 0x0C tag .range s

/-- DMA_CMD CLEAR (R89): at once, or held while a transfer is under way. -/
def serveDmaClear (tag channel : Byte) (s : State) : State :=
  match indexBelow 4 channel with
  | some n =>
    if transferring s n then
      modChannel n (fun c => { c with waiting := c.waiting ++ [{ tag := tag, wanted := true }] }) s
    else settle (replyChannel tag .ok n (clearChannel n s))
  | none => refuse 0x0C tag .range s

/-- DMA_CMD PULSE (R90). -/
def serveDmaPulse (tag channel : Byte) (s : State) : State :=
  match indexBelow 4 channel with
  | some n =>
    if s.channels[n].state ≠ .running ∨ s.channels[n].mode = .cascade then refuse 0x0C tag .badState s
    else if s.channels[n].pulse then refuse 0x0C tag .busy s
    else settle (replyChannel tag .ok n (modChannel n (fun c => { c with pulse := true }) s))
  | none => refuse 0x0C tag .range s

/-- DMA_QUERY (R91). -/
def serveDmaQuery (tag channel : Byte) (s : State) : State :=
  match indexBelow 4 channel with
  | some n => reply 0x0D tag .ok (channelFields s n) s
  | none => refuse 0x0D tag .range s

/-- DMA_MODE. -/
def execDmaMode (tag channel mode direction owner options : Byte) (s : State) : Result :=
  .next (takeRequest (.dmaMode tag channel mode direction owner options)
    (serveDmaMode tag channel mode direction owner options) s)

/-- DMA_ADDR. -/
def execDmaAddr (tag channel page : Byte) (offset : Word16) (step : Byte) (s : State) : Result :=
  .next (takeRequest (.dmaAddr tag channel page offset step) (serveDmaAddr tag channel page offset step) s)

/-- DMA_COUNT. -/
def execDmaCount (tag channel : Byte) (n : Word24) (s : State) : Result :=
  .next (takeRequest (.dmaCount tag channel n) (serveDmaCount tag channel n) s)

/-- DMA_START. -/
def execDmaStart (tag channel : Byte) (s : State) : Result :=
  .next (takeRequest (.dmaStart tag channel) (serveDmaStart tag channel) s)

/-- DMA_CLEAR. -/
def execDmaClear (tag channel : Byte) (s : State) : Result :=
  .next (takeRequest (.dmaClear tag channel) (serveDmaClear tag channel) s)

/-- DMA_PULSE. -/
def execDmaPulse (tag channel : Byte) (s : State) : Result :=
  .next (takeRequest (.dmaPulse tag channel) (serveDmaPulse tag channel) s)

/-- DMA_QUERY. -/
def execDmaQuery (tag channel : Byte) (s : State) : Result :=
  .next (takeRequest (.dmaQuery tag channel) (serveDmaQuery tag channel) s)

/-! ## The channel request lines (R92, R197) -/

/-- The level a card drives on a channel request line. -/
def driveRequest (n : Fin 4) (slot : Fin 8) (level : Bool) (s : State) : State :=
  { s with cards := upd s.cards slot fun x => { x with requests := upd x.requests n fun _ => level } }

/-- The owner of a RUNNING BLOCK channel asserts its request: a block run begins, unless one has (R55). -/
def ownerRequests (n : Fin 4) (s : State) : State :=
  let c := s.channels[n]
  if c.state = .running ∧ c.mode = .block then modChannel n (fun c => { c with blockRun := true }) s else s

/-- A request from an attached slot that is not the owner is counted, no more (R92). -/
def strayRequest (n : Fin 4) (s : State) : State :=
  modChannel n (fun c => { c with stray := min 255 (c.stray + 1) }) s

/-- CHANNEL_REQUEST_ASSERT (R92): a change from deasserted to asserted. -/
def execChannelRequestAssert (n : Fin 4) (slot : Fin 8) (s : State) : Result :=
  .next (if s.cards[slot].requests[n] then s
  else
    let s1 := driveRequest n slot true s
    if attached s slot then
      if s.channels[n].owner = slot then settle (ownerRequests n s1) else strayRequest n s1
    else s1)

/-- CHANNEL_REQUEST_DEASSERT (R59, R60, R52): the owner's release ends a cascade grant and its hold timer, and a grant
whose claim it was. -/
def execChannelRequestDeassert (n : Fin 4) (slot : Fin 8) (s : State) : Result :=
  .next (if s.cards[slot].requests[n] then
    let s1 := driveRequest n slot false s
    if attached s slot ∧ s.channels[n].owner = slot then settle (dropUnstartedGrant n (endCascade n s1)) else s1
  else s)

end Sys2Proof.Machine
end

