-- ==== Sys2Proof/Machine/CmdImage.lean ====
section
/-! DEFINITION. The image memory requests and the fill (Chapter 10). -/

namespace Sys2Proof.Machine

/-- A range of `length` bytes from `offset` that passes the checks of R177, with the longest length allowed. -/
def imageRange (offset length most : Nat) : Bool :=
  decide (offset ≤ 0xFFFFF) && decide (1 ≤ length) && decide (length ≤ most) && decide (offset + length - 1 ≤ 0xFFFFF)

/-- Stores bytes into image memory at one instant (R178). -/
def storeImage (offset : Nat) (data : List Byte) (s : State) : State :=
  { s with image := { s.image with cells := writeBytesAt s.image.cells offset data } }

/-- IMG_WRITE (R177, R178). -/
def serveImgWrite (tag : Byte) (offset : Word24) (count : Word16) (data : List Byte) (s : State) : State :=
  if count.toNat ≠ data.length then refuse 0x13 tag .badRequest s
  else if imageRange offset.toNat data.length 1016 then reply 0x13 tag .ok [] (storeImage offset.toNat data s)
  else refuse 0x13 tag .range s

/-- IMG_READ (R177, R179). -/
def serveImgRead (tag : Byte) (offset : Word24) (length : Word16) (s : State) : State :=
  if imageRange offset.toNat length.toNat 1016 then
    reply 0x14 tag .ok (readBytes s.image.cells offset.toNat length.toNat) s
  else refuse 0x14 tag .range s

/-- The fill record of an accepted IMG_FILL (R180). -/
def startFill (tag : Byte) (offset length : Nat) (value : Byte) (s : State) : State :=
  { s with image := { s.image with
      filling := true, fillValue := value, fillNext := offset, fillEnd := offset + length - 1, fillTag := tag,
      replyWanted := true } }

/-- IMG_FILL (R177, R180): no reply at acceptance. -/
def serveImgFill (tag : Byte) (offset length : Word24) (value : Byte) (s : State) : State :=
  if imageRange offset.toNat length.toNat 1048576 then
    if s.image.filling then refuse 0x15 tag .busy s else startFill tag offset.toNat length.toNat value s
  else refuse 0x15 tag .range s

/-- The bytes a fill stores at a microsecond end (R180). -/
def fillCount (m : Image) : Nat := min 64 (m.fillEnd + 1 - m.fillNext)

/-- The end of a fill (R181). -/
def endFill (s : State) : State :=
  replyLater 0x15 { tag := s.image.fillTag, wanted := s.image.replyWanted } .ok []
    { s with image := { s.image with filling := false } }

/-- FILL_STORE (R180, R181). -/
def fillStore (s : State) : State :=
  let m := s.image
  let k := fillCount m
  let s1 := storeImage m.fillNext (List.replicate k m.fillValue) s
  let s2 := { s1 with image := { s1.image with fillNext := m.fillNext + k } }
  if m.fillEnd < m.fillNext + k then endFill s2 else s2

/-- IMG_WRITE. -/
def execImgWrite (tag : Byte) (offset : Word24) (count : Word16) (data : List Byte) (s : State) : Result :=
  .next (takeRequest (.imgWrite tag offset count data) (serveImgWrite tag offset count data) s)

/-- IMG_READ. -/
def execImgRead (tag : Byte) (offset : Word24) (length : Word16) (s : State) : Result :=
  .next (takeRequest (.imgRead tag offset length) (serveImgRead tag offset length) s)

/-- IMG_FILL. -/
def execImgFill (tag : Byte) (offset length : Word24) (value : Byte) (s : State) : Result :=
  .next (takeRequest (.imgFill tag offset length value) (serveImgFill tag offset length value) s)

/-- FILL_STORE: nothing while no fill is in progress. -/
def execFillStore (s : State) : Result := .next (if s.image.filling then fillStore s else s)

end Sys2Proof.Machine
end

