-- ==== Sys2Proof/Machine/CmdLine.lean ====
section
/-! DEFINITION. The LINE requests and the interrupt lines (Chapter 6). -/

namespace Sys2Proof.Machine

/-- LINE QUERY (R123). -/
def serveLineQuery (tag line : Byte) (s : State) : State :=
  match indexBelow 12 line with
  | some l => replyLine tag l s
  | none => refuse 0x0E tag .range s

/-- LINE CONFIGURE (R120, R121). -/
def serveLineConfigure (tag line sense enabled group keepAlive entry : Byte) (s : State) : State :=
  match readSense sense with
  | some sn =>
    match indexBelow 12 line, indexBelow 8 group, readEntry entry with
    | some l, some g, some e =>
      settle (replyLine tag l (configureLine l
        { sense := sn, enabled := flagByte .lineEnabled enabled, group := g,
          keepAlive := flagByte .lineKeepAlive keepAlive, entry := e } s))
    | _, _, _ => refuse 0x0E tag .range s
  | none => refuse 0x0E tag .badRequest s

/-- LINE CLEAR_STUCK (R119). -/
def serveClearStuck (tag line bitmap : Byte) (s : State) : State :=
  match indexBelow 12 line with
  | some l => settle (replyLine tag l (forBitmap bitmap (clearStuckAt l) s))
  | none => refuse 0x0E tag .range s

/-- LINE CLEAR_PENDING (R122). -/
def serveClearPending (tag line bitmap : Byte) (s : State) : State :=
  match indexBelow 12 line with
  | some l => replyLine tag l (forBitmap bitmap (clearPendingAt l) s)
  | none => refuse 0x0E tag .range s

/-- LINE_QUERY. -/
def execLineQuery (tag line : Byte) (s : State) : Result :=
  .next (takeRequest (.lineQuery tag line) (serveLineQuery tag line) s)

/-- LINE_CONFIGURE. -/
def execLineConfigure (tag line sense enabled group keepAlive entry : Byte) (s : State) : Result :=
  .next (takeRequest (.lineConfigure tag line sense enabled group keepAlive entry)
    (serveLineConfigure tag line sense enabled group keepAlive entry) s)

/-- CLEAR_STUCK. -/
def execClearStuck (tag line bitmap : Byte) (s : State) : Result :=
  .next (takeRequest (.clearStuck tag line bitmap) (serveClearStuck tag line bitmap) s)

/-- CLEAR_PENDING. -/
def execClearPending (tag line bitmap : Byte) (s : State) : Result :=
  .next (takeRequest (.clearPending tag line bitmap) (serveClearPending tag line bitmap) s)

/-- The level a card drives on an interrupt line. -/
def driveLine (l : Fin 12) (slot : Fin 8) (level : Bool) (s : State) : State :=
  { s with cards := upd s.cards slot fun x => { x with lines := upd x.lines l fun _ => level } }

/-- The reference level of a line-slot (R109). -/
def setReference (l : Fin 12) (slot : Fin 8) (level : Bool) (s : State) : State :=
  modLineSlot l slot (fun x => { x with reference := level }) s

/-- LINE_ASSERT (R109 to R111): a change of a watched line to asserted is an edge on an EDGE line, an evaluation on a
LEVEL line. -/
def execLineAssert (l : Fin 12) (slot : Fin 8) (s : State) : Result :=
  .next (if s.cards[slot].lines[l] then s
  else
    let s1 := driveLine l slot true s
    if watched s slot then
      let s2 := setReference l slot true s1
      settle (if s.lines[l].sense = .edge then risingEdge l slot s2 else evaluate l slot s2)
    else s1)

/-- LINE_DEASSERT (R109): the reference level follows. -/
def execLineDeassert (l : Fin 12) (slot : Fin 8) (s : State) : Result :=
  .next (
    let s1 := driveLine l slot false s
    if watched s slot then setReference l slot false s1 else s1)

end Sys2Proof.Machine
end

