-- ==== Sys2Proof/Machine/CmdOps.lean ====
section
/-! DEFINITION. The OPS request and the expiries of the operation queue (Chapter 4). -/

namespace Sys2Proof.Machine

/-- OPS (R68 to R70). A refused frame is answered at once with op count 0. -/
def serveOps (tag : Byte) (payload : List Byte) (s : State) : State :=
  match checkOps s payload with
  | .error status => reply 0x08 tag status [0] s
  | .ok (stop, ops) => settle (acceptOps tag stop ops s)

/-- OPS. -/
def execOps (tag : Byte) (payload : List Byte) (s : State) : Result :=
  .next (takeRequest (.ops tag payload) (serveOps tag payload) s)

/-- PAUSE_EXPIRY (R75): the pause time left has reached 0. -/
def execPauseExpiry (s : State) : Result :=
  .next (if s.queue.state = .pausing then settle (endOp .ok s) else s)

/-- WAIT_DMA_TIMEOUT (R76): the wait time left has reached 0. The expiry of a wait that the channel ended first at the
same instant does not happen. -/
def execWaitDmaTimeout (s : State) : Result :=
  .next (if s.queue.overtaken then modQueue (fun q => { q with overtaken := false }) s
  else if s.queue.state = .waitingDma then settle (endOp .timeout s) else s)

end Sys2Proof.Machine
end

