-- ==== Sys2Proof/Machine/CmdService.lean ====
section
/-! DEFINITION. The SERVICE and TIMER requests and their expiries (Chapter 7). -/

namespace Sys2Proof.Machine

/-- The engine is SERVING or SUSPENDED with an entry (R129). -/
def entryInUse (s : State) (e : Fin 24) : Bool := (s.engine.state != .idle) && (s.engine.entry == some (some e))

/-- A list of step records in range (R129, second pass). -/
def stepsInRange (raw : List RawStep) : Bool :=
  decide (raw.length ≤ 8) && raw.all RawStep.inRange && decide (capturedLength (raw.map RawStep.step) ≤ 64)

/-- SERVICE WRITE (R129). -/
def serveServiceWrite (tag entry record count : Byte) (steps : List Byte) (s : State) : State :=
  match readSteps count.toNat steps with
  | some raw =>
    if !raw.all RawStep.known then refuse 0x0F tag .badRequest s
    else
      match indexBelow 24 entry with
      | some e =>
        if !stepsInRange raw then refuse 0x0F tag .range s
        else if entryInUse s e then refuse 0x0F tag .busy s
        else
          reply 0x0F tag (if raw.any RawStep.adjusted then .adjusted else .ok) []
            { s with entries := upd s.entries e fun _ =>
                { record := flagByte .serviceRecord record, steps := raw.map RawStep.step } }
      | none => refuse 0x0F tag .range s
  | none => refuse 0x0F tag .badRequest s

/-- SERVICE QUERY (R130). -/
def serveServiceQuery (tag entry : Byte) (s : State) : State :=
  match indexBelow 24 entry with
  | some e => reply 0x0F tag .ok (serviceFields s e) s
  | none => refuse 0x0F tag .range s

/-- TIMER QUERY (R147). -/
def serveTimerQuery (tag timer : Byte) (s : State) : State :=
  match indexBelow 4 timer with
  | some n => reply 0x10 tag .ok (timerFields s n) s
  | none => refuse 0x10 tag .range s

/-- A CONFIGURE's period: 0 is stored as 1 (R147). -/
def timerPeriod (period : Word16) : Nat := max 1 period.toNat

/-- The status of an accepted CONFIGURE (R147). -/
def timerStatus (period : Word16) : Status := if period = 0 then .adjusted else .ok

/-- The reply to an accepted CONFIGURE carries the timer's fields (R195). -/
def replyTimer (tag : Byte) (status : Status) (n : Fin 4) (s : State) : State :=
  reply 0x10 tag status (timerFields s n) s

/-- TIMER CONFIGURE with START (R147). -/
def serveTimerStart (tag timer : Byte) (period : Word16) (entry keepAlive : Byte) (s : State) : State :=
  match indexBelow 4 timer, readEntry entry with
  | some n, some e =>
    if s.bus.state.live then
      settle (replyTimer tag (timerStatus period) n
        (modTimer n (fun t =>
          { t with
            period := timerPeriod period, entry := e, keepAlive := flagByte .timerKeepAlive keepAlive,
            running := true, elapsed := 0 }) s))
    else refuse 0x10 tag .badState s
  | _, _ => refuse 0x10 tag .range s

/-- TIMER CONFIGURE with STOP (R147). -/
def serveTimerStop (tag timer : Byte) (period : Word16) (entry keepAlive : Byte) (s : State) : State :=
  match indexBelow 4 timer, readEntry entry with
  | some n, some e =>
    replyTimer tag (timerStatus period) n
      (modTimer n (fun t =>
        { t with
          period := timerPeriod period, entry := e, keepAlive := flagByte .timerKeepAlive keepAlive,
          running := false, elapsed := 0, pending := false }) s)
  | _, _ => refuse 0x10 tag .range s

/-- SERVICE_WRITE. -/
def execServiceWrite (tag entry record count : Byte) (steps : List Byte) (s : State) : Result :=
  .next (takeRequest (.serviceWrite tag entry record count steps) (serveServiceWrite tag entry record count steps) s)

/-- SERVICE_QUERY. -/
def execServiceQuery (tag entry : Byte) (s : State) : Result :=
  .next (takeRequest (.serviceQuery tag entry) (serveServiceQuery tag entry) s)

/-- TIMER_QUERY. -/
def execTimerQuery (tag timer : Byte) (s : State) : Result :=
  .next (takeRequest (.timerQuery tag timer) (serveTimerQuery tag timer) s)

/-- TIMER_START. -/
def execTimerStart (tag timer : Byte) (period : Word16) (entry keepAlive : Byte) (s : State) : Result :=
  .next (takeRequest (.timerStart tag timer period entry keepAlive)
    (serveTimerStart tag timer period entry keepAlive) s)

/-- TIMER_STOP. -/
def execTimerStop (tag timer : Byte) (period : Word16) (entry keepAlive : Byte) (s : State) : Result :=
  .next (takeRequest (.timerStop tag timer period entry keepAlive)
    (serveTimerStop tag timer period entry keepAlive) s)

/-- DELAY_EXPIRY (R137): the delay time left has reached 0. -/
def execDelayExpiry (s : State) : Result :=
  .next (if delaying s then settle (stepBoundary (modEngine (fun g => { g with delayLeft := 0 }) s)) else s)

/-- A timer's expiry (R146): pending, or one more coalesced. -/
def timerExpires (n : Fin 4) (s : State) : State :=
  let s1 := modTimer n (fun t => { t with elapsed := 0, pending := true }) s
  if s.timers[n].pending then raiseCoalesced (.timer n) s1 else s1

/-- TIMER_EXPIRY (R146): a RUNNING timer counts in RUN and HOLD. -/
def execTimerExpiry (n : Fin 4) (s : State) : Result :=
  .next (if s.timers[n].running ∧ refreshing s.bus.state then settle (timerExpires n s) else s)

end Sys2Proof.Machine
end

