-- ==== Sys2Proof/Machine/CmdSettings.lean ====
section
/-! DEFINITION. IDENT, STATUS, SET and GET (Sections 11.6 and 11.7). -/

namespace Sys2Proof.Machine

/-- The wide straps as a bitmap (R192). -/
def wideBitmap (s : State) : Byte := natByte (bitsNumber (allSlots.map fun n => s.slots[n].wide))

/-- The IDENT reply's fields (R192). -/
def identFields (s : State) : List Byte :=
  bytes2 0x0A31 ++ bytes2 0x0208 ++ [0x01, 8, wideBitmap s, 24, 24, 4, 4, 2, 12] ++ bytes2 512 ++ bytes2 16384 ++
    [32] ++ bytes2 1024

/-- The STATUS reply's fields (R192). -/
def statusFields (s : State) : List Byte :=
  [s.bus.state.code, s.bus.cause.code, boolCode s.bus.supply.isGood] ++
    (allSlots.map fun n => s.slots[n].state.code) ++ [natByte s.queue.ops.length] ++
    bytes2 s.capture.recordCount ++ bytes2 s.capture.byteCount ++ bytes4 s.capture.dropTotal ++
    [boolCode s.capture.high, natByte s.arb.owed] ++ bytes2 s.arb.lost ++ bytes2 s.link.errors ++
    bytes4 s.timeBase.toNat ++ [boolCode s.link.overflow]

/-- IDENT (R192). -/
def serveIdent (tag : Byte) (s : State) : State := reply 0x01 tag .ok (identFields s) s

/-- STATUS (R192): the error count and notice overflow are cleared as the reply is built (R186, R189). -/
def serveStatus (tag : Byte) (s : State) : State :=
  modLink (fun l => { l with errors := 0, overflow := false }) (reply 0x02 tag .ok (statusFields s) s)

/-- An accepted SET's store and what it does at once (R191): setting 1 (R44) and setting 3 (R62), unless a driven or a
master cycle runs, and setting 8 (R158). -/
def storeSetting (n v : Nat) (s : State) : State :=
  let s1 := { s with settings := s.settings.put n v }
  match n with
  | 1 => if anyCycle s then s1 else applyClock s1
  | 3 =>
    let s2 := modArb (fun a => { a with intervalSet := true }) s1
    if anyCycle s then s2 else applyInterval s2
  | 8 => testHigh s1
  | _ => s1

/-- A SET clamped (R191). -/
def setStatus (n v : Nat) : Status := if clampSetting n v = v then .ok else .adjusted

/-- SET (R191); settings 10 and 11 bear on the next selection (R107). -/
def serveSet (tag number : Byte) (value : Word16) (s : State) : State :=
  let n := number.toNat
  if !settingNumber n then refuse 0x03 tag .range s
  else if n = 1 ∧ s.bus.state = .run then refuse 0x03 tag .badState s
  else
    let v := clampSetting n value.toNat
    let s1 := reply 0x03 tag (setStatus n value.toNat) (number :: bytes2 v) (storeSetting n v s)
    if 10 ≤ n then settle s1 else s1

/-- GET (R191). -/
def serveGet (tag number : Byte) (s : State) : State :=
  if settingNumber number.toNat then
    reply 0x04 tag .ok (number :: bytes2 (s.settings.get number.toNat)) s
  else refuse 0x04 tag .range s

/-- IDENT. -/
def execIdent (tag : Byte) (s : State) : Result := .next (takeRequest (.ident tag) (serveIdent tag) s)

/-- STATUS. -/
def execStatus (tag : Byte) (s : State) : Result := .next (takeRequest (.status tag) (serveStatus tag) s)

/-- SET. -/
def execSet (tag number : Byte) (value : Word16) (s : State) : Result :=
  .next (takeRequest (.set tag number value) (serveSet tag number value) s)

/-- GET. -/
def execGet (tag number : Byte) (s : State) : Result :=
  .next (takeRequest (.get tag number) (serveGet tag number) s)

end Sys2Proof.Machine
end

