-- ==== Sys2Proof/Machine/CmdSlot.lean ====
section
/-! DEFINITION. The SLOT requests and the presence inputs (Sections 2.2 and 2.3). -/

namespace Sys2Proof.Machine

/-- A request joins those that wait for a slot's pending change. -/
def waitFor (n : Fin 8) (change : SlotChange) (tag : Byte) (s : State) : State :=
  modSlot n (fun x => { x with change := change, waiting := x.waiting ++ [{ tag := tag, wanted := true }] }) s

/-- SLOT QUERY (R32). -/
def serveSlotQuery (tag slot : Byte) (s : State) : State :=
  match indexBelow 8 slot with
  | some n => reply 0x06 tag .ok (slotFields s.slots[n]) s
  | none => refuse 0x06 tag .range s

/-- ATTACH of a slot in a bus state that accepts it, by the slot state (R33). -/
def attachSlot (tag : Byte) (n : Fin 8) (s : State) : State :=
  match s.slots[n].state with
  | .empty => replySlot tag .badState n s
  | .faulted => replySlot tag .badState n s
  | .attached => replySlot tag .ok n s
  | .isolated =>
    if cycleRunning s then waitFor n .attach tag s else settle (replySlot tag .ok n (attachNow n s))

/-- SLOT ATTACH (R33): accepted in OFF, HOLD and STOP. -/
def serveSlotAttach (tag slot : Byte) (s : State) : State :=
  match indexBelow 8 slot with
  | some n =>
    match s.bus.state with
    | .off => attachSlot tag n s
    | .hold => attachSlot tag n s
    | .stop => attachSlot tag n s
    | .run => replySlot tag .badState n s
    | .resetting => replySlot tag .badState n s
    | .down => replySlot tag .badState n s
  | none => refuse 0x06 tag .range s

/-- ISOLATE of a slot, by its state (R34). -/
def isolateSlot (tag : Byte) (n : Fin 8) (s : State) : State :=
  match s.slots[n].state with
  | .empty => replySlot tag .badState n s
  | .isolated => replySlot tag .ok n (if s.slots[n].change = .attach then answerWaiting n .badState s else s)
  | .faulted => replySlot tag .ok n (isolateFaulted n s)
  | .attached =>
    if involved s n then waitFor n .isolate tag s
    else settle (replySlot tag .ok n (isolateNow n .request s))

/-- SLOT ISOLATE (R34). -/
def serveSlotIsolate (tag slot : Byte) (s : State) : State :=
  match indexBelow 8 slot with
  | some n => isolateSlot tag n s
  | none => refuse 0x06 tag .range s

/-- SLOT_QUERY. -/
def execSlotQuery (tag slot : Byte) (s : State) : Result :=
  .next (takeRequest (.slotQuery tag slot) (serveSlotQuery tag slot) s)

/-- SLOT_ATTACH. -/
def execSlotAttach (tag slot : Byte) (s : State) : Result :=
  .next (takeRequest (.slotAttach tag slot) (serveSlotAttach tag slot) s)

/-- SLOT_ISOLATE. -/
def execSlotIsolate (tag slot : Byte) (s : State) : Result :=
  .next (takeRequest (.slotIsolate tag slot) (serveSlotIsolate tag slot) s)

/-- PRESENCE_ARRIVAL (R29): an EMPTY slot moves to ISOLATED. -/
def execPresenceArrival (n : Fin 8) (s : State) : Result :=
  .next (if s.slots[n].state = .empty then
    noticeSlotChange n .empty .isolated .presence
      (modSlot n (fun x => { x with state := .isolated, present := true }) s)
  else s)

/-- PRESENCE_LOSS (R30): the card is gone, and drives none of its lines. -/
def execPresenceLoss (n : Fin 8) (s : State) : Result :=
  .next (if s.slots[n].state = .empty then s
  else settle (emptySlot n { s with cards := upd s.cards n fun _ => quietCard }))

end Sys2Proof.Machine
end

