-- ==== Sys2Proof/Machine/CmdWatch.lean ====
section
/-! DEFINITION. The WATCH requests (Chapter 9) and DRAIN (Chapter 8). -/

namespace Sys2Proof.Machine

/-- Changes one watch unit. -/
def modWatch (u : Fin 2) (f : Watch → Watch) (s : State) : State := { s with watch := upd s.watch u f }

/-- WATCH QUERY (R172). -/
def serveWatchQuery (tag unit : Byte) (s : State) : State :=
  match indexBelow 2 unit with
  | some u => replyWatch tag u s
  | none => refuse 0x11 tag .range s

/-- WATCH CONFIGURE (R171). -/
def serveWatchConfigure (tag unit : Byte) (w : WatchFields) (s : State) : State :=
  match watchCodes w with
  | some (space, armed) =>
    match indexBelow 2 unit with
    | some u =>
      if watchInRange w space then
        replyWatch tag u (modWatch u (fun old => configuredWatch old w space armed) s)
      else refuse 0x11 tag .range s
    | none => refuse 0x11 tag .range s
  | none => refuse 0x11 tag .badRequest s

/-- WATCH ARM (R172). -/
def serveWatchArm (tag unit : Byte) (s : State) : State :=
  match indexBelow 2 unit with
  | some u => replyWatch tag u (modWatch u (fun w => { w with armed := true }) s)
  | none => refuse 0x11 tag .range s

/-- WATCH DISARM (R172). -/
def serveWatchDisarm (tag unit : Byte) (s : State) : State :=
  match indexBelow 2 unit with
  | some u => replyWatch tag u (modWatch u (fun w => { w with armed := false }) s)
  | none => refuse 0x11 tag .range s

/-- WATCH_QUERY. -/
def execWatchQuery (tag unit : Byte) (s : State) : Result :=
  .next (takeRequest (.watchQuery tag unit) (serveWatchQuery tag unit) s)

/-- WATCH_CONFIGURE. -/
def execWatchConfigure (tag unit : Byte) (w : WatchFields) (s : State) : Result :=
  .next (takeRequest (.watchConfigure tag unit w) (serveWatchConfigure tag unit w) s)

/-- WATCH_ARM. -/
def execWatchArm (tag unit : Byte) (s : State) : Result :=
  .next (takeRequest (.watchArm tag unit) (serveWatchArm tag unit) s)

/-- WATCH_DISARM. -/
def execWatchDisarm (tag unit : Byte) (s : State) : Result :=
  .next (takeRequest (.watchDisarm tag unit) (serveWatchDisarm tag unit) s)

/-- DRAIN (R159, R160). -/
def execDrain (tag ne : Byte) (s : State) : Result := .next (takeRequest (.drain tag ne) (drainRecords tag ne) s)

/-- DRAIN_CLEAR (R161). -/
def execDrainClear (tag ne : Byte) (s : State) : Result :=
  .next (takeRequest (.drainClear tag ne) (drainAndClear tag ne) s)

end Sys2Proof.Machine
end

