-- ==== Sys2Proof/Machine/Receiver.lean ====
section
/-! DEFINITION. The dispatch of a good frame to its owner, the receiver byte by byte, the pipes, link ready, link loss
and part reset (Chapter 11). -/

namespace Sys2Proof.Machine

/-! ## Dispatch (R187) -/

/-- The fields of a BAD_REQUEST reply after the status (R188): the refused BUS, OPS and DRAIN carry theirs, every other
refusal none. -/
def refusalFields (kind : Byte) (s : State) : List Byte :=
  if kind = 0x05 then [s.bus.state.code, s.bus.cause.code]
  else if kind = 0x08 then [0]
  else if kind = 0x12 then 0 :: bytes2 s.capture.recordCount
  else []

/-- A request that spells no row is answered BAD_REQUEST (R187). -/
def serveUnknown (kind tag : Byte) (s : State) : State := reply kind tag .badRequest (refusalFields kind s) s

/-- The owner of a request serves it (R187). An event is no request. -/
def serve (i : Instr) (s : State) : State :=
  match i with
  | .unknownRequest kind tag _ => serveUnknown kind tag s
  | .ident tag => serveIdent tag s
  | .status tag => serveStatus tag s
  | .set tag n v => serveSet tag n v s
  | .get tag n => serveGet tag n s
  | .busRun tag => serveBusRun tag s
  | .busHold tag => serveBusHold tag s
  | .busStop tag => serveBusStop tag s
  | .busOff tag => serveBusOff tag s
  | .busReset tag => serveBusReset tag s
  | .slotQuery tag n => serveSlotQuery tag n s
  | .slotAttach tag n => serveSlotAttach tag n s
  | .slotIsolate tag n => serveSlotIsolate tag n s
  | .claimWrite tag w => serveClaimWrite tag w s
  | .claimRead tag e => serveClaimRead tag e s
  | .ops tag payload => serveOps tag payload s
  | .dmaMode tag ch mode dir owner options => serveDmaMode tag ch mode dir owner options s
  | .dmaAddr tag ch page offset step => serveDmaAddr tag ch page offset step s
  | .dmaCount tag ch n => serveDmaCount tag ch n s
  | .dmaStart tag ch => serveDmaStart tag ch s
  | .dmaClear tag ch => serveDmaClear tag ch s
  | .dmaPulse tag ch => serveDmaPulse tag ch s
  | .dmaQuery tag ch => serveDmaQuery tag ch s
  | .lineQuery tag l => serveLineQuery tag l s
  | .lineConfigure tag l sense enabled group keep entry => serveLineConfigure tag l sense enabled group keep entry s
  | .clearStuck tag l bitmap => serveClearStuck tag l bitmap s
  | .clearPending tag l bitmap => serveClearPending tag l bitmap s
  | .serviceWrite tag e record count steps => serveServiceWrite tag e record count steps s
  | .serviceQuery tag e => serveServiceQuery tag e s
  | .timerQuery tag t => serveTimerQuery tag t s
  | .timerStart tag t period entry keep => serveTimerStart tag t period entry keep s
  | .timerStop tag t period entry keep => serveTimerStop tag t period entry keep s
  | .watchQuery tag u => serveWatchQuery tag u s
  | .watchConfigure tag u w => serveWatchConfigure tag u w s
  | .watchArm tag u => serveWatchArm tag u s
  | .watchDisarm tag u => serveWatchDisarm tag u s
  | .drain tag ne => drainRecords tag ne s
  | .drainClear tag ne => drainAndClear tag ne s
  | .imgWrite tag offset count data => serveImgWrite tag offset count data s
  | .imgRead tag offset length => serveImgRead tag offset length s
  | .imgFill tag offset length value => serveImgFill tag offset length value s
  | .partReset _ _ _ => s
  | .linkReady => s
  | .linkLoss => s
  | .frameDiscarded _ _ _ _ _ => s
  | .receiverSilenceTimeout => s
  | .inPipeRead => s
  | .fillStore => s
  | .presenceArrival _ => s
  | .presenceLoss _ => s
  | .csupgoodLow => s
  | .csupgoodHigh => s
  | .supplyLost => s
  | .supplyRestored => s
  | .pulseEnd => s
  | .cycleStart _ => s
  | .cycleWaitEnd _ _ => s
  | .readyTimeout _ => s
  | .cycleEnd => s
  | .delayExpiry => s
  | .pauseExpiry => s
  | .waitDmaTimeout => s
  | .timerExpiry _ => s
  | .refreshIntervalExpiry => s
  | .refreshCycleEnd => s
  | .holdTimerExpiry => s
  | .channelRequestAssert _ _ => s
  | .channelRequestDeassert _ _ => s
  | .masterStrobeAssert _ _ _ => s
  | .masterStrobeRelease _ _ => s
  | .lineAssert _ _ => s
  | .lineDeassert _ _ => s
  | .byteTaken _ => s

/-- UNKNOWN_REQUEST (R187): the frame is served as the row it spells, which for a kind outside the table, or a payload
without a layout, is the refusal. -/
def execUnknownRequest (kind tag : Byte) (payload : List Byte) (s : State) : Result :=
  .next (takeRequest (.unknownRequest kind tag payload) (serve (requestOf kind tag payload)) s)

/-! ## The receiver (R184, R185) -/

/-- Changes the receiver. -/
def modRx (f : Receiver → Receiver) (s : State) : State := modLink (fun l => { l with rx := f l.rx, silence := 0 }) s

/-- The whole frame has been gathered with its check byte: it is tested, and dispatched or discarded (R183 to
R185). -/
def frameTaken (kind tag : Byte) (length : Word16) (payload : List Byte) (check : Byte) (s : State) : State :=
  if framePasses kind tag length payload check then serve (requestOf kind tag payload) (hunt s) else discard s

/-- A byte taken in HUNT. -/
def takeInHunt (b : Byte) (s : State) : State :=
  if s.link.rx.sync then
    if b = 0x5A then modRx (fun _ => { state := .header, sync := false, header := [], payload := [] }) s
    else if b = 0xA5 then modRx id s
    else modRx (fun r => { r with sync := false }) s
  else if b = 0xA5 then modRx (fun r => { r with sync := true }) s
  else modRx id s

/-- A byte taken in HEADER: the fourth ends the header. -/
def takeInHeader (b : Byte) (s : State) : State :=
  match s.link.rx.header with
  | [kind, tag, low] =>
    if 1024 < (word16 low b).toNat then discard s
    else modRx (fun r => { r with state := .payload, header := [kind, tag, low, b] }) s
  | h => modRx (fun r => { r with header := h ++ [b] }) s

/-- A byte taken in PAYLOAD: a payload byte, or the check byte after the last. -/
def takeInPayload (b : Byte) (s : State) : State :=
  match s.link.rx.header with
  | [kind, tag, low, high] =>
    if s.link.rx.payload.length < (word16 low high).toNat then modRx (fun r => { r with payload := r.payload ++ [b] }) s
    else frameTaken kind tag (word16 low high) s.link.rx.payload b s
  | _ => hunt s

/-- The receiver acts on one byte taken from the OUT pipe (R184). -/
def takeByte (b : Byte) (s : State) : State :=
  match s.link.rx.state with
  | .hunt => takeInHunt b s
  | .header => takeInHeader b s
  | .payload => takeInPayload b s

/-- A byte reaches the receiver: taken, or left in the OUT pipe while 16 replies wait (R184, R189). -/
def offerByte (b : Byte) (s : State) : State := if held s then pipeBytes [b] s else takeByte b s

/-- BYTE_TAKEN (R184): while the receiver holds the pipe the byte waits in it (R189). -/
def execByteTaken (b : Byte) (s : State) : Result := .next (if s.link.ready then offerByte b s else s)

/-- The bytes of a frame that is discarded: those up to the fourth header byte when its length is above 1024, since
the rest is hunted through as stray bytes (R185). -/
def discardedBytes (kind tag : Byte) (length : Word16) (payload : List Byte) (check : Byte) : List Byte :=
  [0xA5, 0x5A, kind, tag, byte0 length, byte1 length] ++
    (if 1024 < length.toNat then [] else payload ++ [check])

/-- FRAME_DISCARDED (R185): the frame stands whole, from a receiver in HUNT; one that passes after all is served. -/
def execFrameDiscarded (kind tag : Byte) (length : Word16) (payload : List Byte) (check : Byte) (s : State) : Result :=
  .next (if !s.link.ready then s
  else if held s then pipeBytes (discardedBytes kind tag length payload check) s
  else frameTaken kind tag length payload check s)

/-- RECEIVER_SILENCE_TIMEOUT (R185): it does not run while the receiver holds the pipe (R189). -/
def execReceiverSilenceTimeout (s : State) : Result :=
  .next (if s.link.ready ∧ s.link.rx.state ≠ .hunt ∧ !held s then discard s else s)

/-! ## The pipes (R189) -/

/-- The receiver resumes: the bytes that waited in the OUT pipe reach it one by one (R189). -/
def resumePipe (s : State) : State :=
  s.link.outPipe.foldl (fun t b => offerByte b t) (modLink (fun l => { l with outPipe := [] }) s)

/-- The bytes of a frame as sent (R183). -/
def Frame.bytes (f : Frame) : List Byte := frameBytes f.kind f.tag f.payload

/-- IN_PIPE_READ (R189): the frame at the head of the transmit list is sent and removed, and the receiver resumes. -/
def execInPipeRead (s : State) : Result :=
  .next (if s.link.ready then
    match s.link.tx with
    | [] => s
    | f :: rest => resumePipe (modLink (fun l => { l with tx := rest, lastSent := f.bytes }) s)
  else s)

/-! ## Link ready, link loss, part reset (R182, R193, R194) -/

/-- LINK_READY (R182). -/
def execLinkReady (s : State) : Result :=
  .next (if s.link.ready then s else modLink (fun l => { l with ready := true, rx := resetReceiver, silence := 0 }) s)

/-- A waiting request belongs to the lost link. -/
def Waiting.lost (w : Waiting) : Waiting := { w with wanted := false }

/-- Every request dispatched so far belongs to the lost link (R193): open frames (R81), the fill (R181), waiting SLOT
requests and CLEARs. -/
def disown (s : State) : State :=
  { s with
    queue := { s.queue with frames := s.queue.frames.map fun f => { f with wanted := false } }
    image := { s.image with replyWanted := false }
    slots := mapAll (fun x => { x with waiting := x.waiting.map Waiting.lost }) s.slots
    channels := mapAll (fun c => { c with waiting := c.waiting.map Waiting.lost }) s.channels }

/-- LINK_LOSS (R193): settings, error count and notice overflow are kept. -/
def execLinkLoss (s : State) : Result :=
  .next (disown (modLink (fun l =>
    { l with ready := false, rx := resetReceiver, silence := 0, tx := [], outPipe := [] }) s))

/-- PART_RESET (R194): every block at its part reset values, the slots and the supply monitor from their inputs (R28,
R31, R45). Commands that wait, and the levels the seated cards drive, stay. -/
def execPartReset (present straps : Byte) (supplyGood : Bool) (s : State) : Result :=
  .next { State.reset with
    pending := s.pending
    bus := resetBus supplyGood
    slots := Vector.ofFn fun n => resetSlot (present.getLsbD n.val) (straps.getLsbD n.val)
    cards := Vector.ofFn fun n => if present.getLsbD n.val then s.cards[n] else quietCard
    planner := { resetPlanner with freeBytes := s.planner.freeBytes }
    choices := s.choices }

end Sys2Proof.Machine
end

