-- ==== Sys2Proof/Machine/Dispatch.lean ====
section
/-! DEFINITION. One arm per command. -/

namespace Sys2Proof.Machine

def exec (i : Instr) (s : State) : Host.Outcome State Fault Refusal :=
  match i with
  | .partReset present straps supplyGood => Sys2Proof.Machine.execPartReset present straps supplyGood s
  | .linkReady => Sys2Proof.Machine.execLinkReady s
  | .linkLoss => Sys2Proof.Machine.execLinkLoss s
  | .frameDiscarded kind tag length payload check => Sys2Proof.Machine.execFrameDiscarded kind tag length payload check s
  | .receiverSilenceTimeout => Sys2Proof.Machine.execReceiverSilenceTimeout s
  | .inPipeRead => Sys2Proof.Machine.execInPipeRead s
  | .unknownRequest kind tag payload => Sys2Proof.Machine.execUnknownRequest kind tag payload s
  | .ident tag => Sys2Proof.Machine.execIdent tag s
  | .status tag => Sys2Proof.Machine.execStatus tag s
  | .set tag number value => Sys2Proof.Machine.execSet tag number value s
  | .get tag number => Sys2Proof.Machine.execGet tag number s
  | .busRun tag => Sys2Proof.Machine.execBusRun tag s
  | .busHold tag => Sys2Proof.Machine.execBusHold tag s
  | .busStop tag => Sys2Proof.Machine.execBusStop tag s
  | .busOff tag => Sys2Proof.Machine.execBusOff tag s
  | .busReset tag => Sys2Proof.Machine.execBusReset tag s
  | .slotQuery tag slot => Sys2Proof.Machine.execSlotQuery tag slot s
  | .slotAttach tag slot => Sys2Proof.Machine.execSlotAttach tag slot s
  | .slotIsolate tag slot => Sys2Proof.Machine.execSlotIsolate tag slot s
  | .claimWrite tag w => Sys2Proof.Machine.execClaimWrite tag w s
  | .claimRead tag entry => Sys2Proof.Machine.execClaimRead tag entry s
  | .ops tag payload => Sys2Proof.Machine.execOps tag payload s
  | .dmaMode tag channel mode direction owner options => Sys2Proof.Machine.execDmaMode tag channel mode direction owner options s
  | .dmaAddr tag channel page offset step => Sys2Proof.Machine.execDmaAddr tag channel page offset step s
  | .dmaCount tag channel n => Sys2Proof.Machine.execDmaCount tag channel n s
  | .dmaStart tag channel => Sys2Proof.Machine.execDmaStart tag channel s
  | .dmaClear tag channel => Sys2Proof.Machine.execDmaClear tag channel s
  | .dmaPulse tag channel => Sys2Proof.Machine.execDmaPulse tag channel s
  | .dmaQuery tag channel => Sys2Proof.Machine.execDmaQuery tag channel s
  | .lineQuery tag line => Sys2Proof.Machine.execLineQuery tag line s
  | .lineConfigure tag line sense enabled group keepAlive entry => Sys2Proof.Machine.execLineConfigure tag line sense enabled group keepAlive entry s
  | .clearStuck tag line bitmap => Sys2Proof.Machine.execClearStuck tag line bitmap s
  | .clearPending tag line bitmap => Sys2Proof.Machine.execClearPending tag line bitmap s
  | .serviceWrite tag entry record count steps => Sys2Proof.Machine.execServiceWrite tag entry record count steps s
  | .serviceQuery tag entry => Sys2Proof.Machine.execServiceQuery tag entry s
  | .timerQuery tag timer => Sys2Proof.Machine.execTimerQuery tag timer s
  | .timerStart tag timer period entry keepAlive => Sys2Proof.Machine.execTimerStart tag timer period entry keepAlive s
  | .timerStop tag timer period entry keepAlive => Sys2Proof.Machine.execTimerStop tag timer period entry keepAlive s
  | .watchQuery tag unit => Sys2Proof.Machine.execWatchQuery tag unit s
  | .watchConfigure tag unit w => Sys2Proof.Machine.execWatchConfigure tag unit w s
  | .watchArm tag unit => Sys2Proof.Machine.execWatchArm tag unit s
  | .watchDisarm tag unit => Sys2Proof.Machine.execWatchDisarm tag unit s
  | .drain tag ne => Sys2Proof.Machine.execDrain tag ne s
  | .drainClear tag ne => Sys2Proof.Machine.execDrainClear tag ne s
  | .imgWrite tag offset count data => Sys2Proof.Machine.execImgWrite tag offset count data s
  | .imgRead tag offset length => Sys2Proof.Machine.execImgRead tag offset length s
  | .imgFill tag offset length value => Sys2Proof.Machine.execImgFill tag offset length value s
  | .fillStore => Sys2Proof.Machine.execFillStore s
  | .presenceArrival slot => Sys2Proof.Machine.execPresenceArrival slot s
  | .presenceLoss slot => Sys2Proof.Machine.execPresenceLoss slot s
  | .csupgoodLow => Sys2Proof.Machine.execCsupgoodLow s
  | .csupgoodHigh => Sys2Proof.Machine.execCsupgoodHigh s
  | .supplyLost => Sys2Proof.Machine.execSupplyLost s
  | .supplyRestored => Sys2Proof.Machine.execSupplyRestored s
  | .pulseEnd => Sys2Proof.Machine.execPulseEnd s
  | .cycleStart wideAck => Sys2Proof.Machine.execCycleStart wideAck s
  | .cycleWaitEnd waits lines => Sys2Proof.Machine.execCycleWaitEnd waits lines s
  | .readyTimeout lines => Sys2Proof.Machine.execReadyTimeout lines s
  | .cycleEnd => Sys2Proof.Machine.execCycleEnd s
  | .delayExpiry => Sys2Proof.Machine.execDelayExpiry s
  | .pauseExpiry => Sys2Proof.Machine.execPauseExpiry s
  | .waitDmaTimeout => Sys2Proof.Machine.execWaitDmaTimeout s
  | .timerExpiry timer => Sys2Proof.Machine.execTimerExpiry timer s
  | .refreshIntervalExpiry => Sys2Proof.Machine.execRefreshIntervalExpiry s
  | .refreshCycleEnd => Sys2Proof.Machine.execRefreshCycleEnd s
  | .holdTimerExpiry => Sys2Proof.Machine.execHoldTimerExpiry s
  | .channelRequestAssert channel slot => Sys2Proof.Machine.execChannelRequestAssert channel slot s
  | .channelRequestDeassert channel slot => Sys2Proof.Machine.execChannelRequestDeassert channel slot s
  | .masterStrobeAssert space address write => Sys2Proof.Machine.execMasterStrobeAssert space address write s
  | .masterStrobeRelease clocks data => Sys2Proof.Machine.execMasterStrobeRelease clocks data s
  | .lineAssert line slot => Sys2Proof.Machine.execLineAssert line slot s
  | .lineDeassert line slot => Sys2Proof.Machine.execLineDeassert line slot s
  | .byteTaken b => Sys2Proof.Machine.execByteTaken b s

end Sys2Proof.Machine
end

