-- ==== Sys2Proof/Machine/Tick.lean ====
section
/-! DEFINITION. The end of a microsecond (R144): what `step` does on an empty queue (log entry 2). Every microsecond
count moves, and the commands that fall due join the queue, in a free order (log entry 3). -/

namespace Sys2Proof.Machine

/-- A part of a microsecond end: the counts it moves and the commands that fall due. -/
abbrev TickPart : Type := State → State × List Instr

/-- The card reset pulse (R41): the pulse time left falls at the end of each millisecond. -/
def tickPulse : TickPart := fun s =>
  if s.bus.state = .resetting then
    if s.bus.pulseMicros + 1 < 1000 then (modBus (fun b => { b with pulseMicros := b.pulseMicros + 1 }) s, [])
    else
      (modBus (fun b => { b with pulseMicros := 0, pulseLeft := b.pulseLeft - 1 }) s,
       if s.bus.pulseLeft ≤ 1 then [.pulseEnd] else [])
  else (s, [])

/-- The supply monitor's spells (R45): more than 2 ms low, 100 ms high. -/
def tickSupply : TickPart := fun s =>
  let k := s.bus.supplyMicros + 1
  match s.bus.supply with
  | .low => (modBus (fun b => { b with supplyMicros := k }) s, if 2000 < k then [.supplyLost] else [])
  | .recovering => (modBus (fun b => { b with supplyMicros := k }) s, if 100000 ≤ k then [.supplyRestored] else [])
  | .good => (s, [])
  | .lost => (s, [])

/-- The refresh interval (R62). -/
def tickInterval : TickPart := fun s =>
  if refreshing s.bus.state ∧ s.arb.intervalUse ≠ 0 then
    if s.arb.interval + 1 < s.arb.intervalUse then (modArb (fun a => { a with interval := a.interval + 1 }) s, [])
    else (modArb (fun a => { a with interval := 0 }) s, [.refreshIntervalExpiry])
  else (s, [])

/-- The time spent in a cycle, in half bus clocks, at a microsecond end: the clock code says how many half clocks a
microsecond holds (R1); how much of the first microsecond is the cycle's is a free value (log entry 7). -/
def timeSpent (spent : Option Nat) (clock : Nat) (s : State) : Nat :=
  match spent with
  | some k => k + clock
  | none => Config.clockPhase s.choices % (clock + 1)

/-- Clocks from the start of SETUP to the end of the STROBE phase (R1, R13, R63). -/
def Cycle.strobeEnd (c : Cycle) : Nat := if c.kind = .refresh then 4 else 1 + sBase c.space c.wide + c.extra

/-- The phase and WAIT clocks of a cycle some time after its SETUP began (R1, R14). STROBE goes over to WAIT while a
ready source can hold ready, and else lasts until CYCLE_WAIT_END takes the data; a refresh cycle goes over to
RECOVERY (R63). -/
def Cycle.after (s : State) (c : Cycle) (spent : Nat) : Cycle :=
  let clocks := spent / 2
  if clocks = 0 then { c with spent := some spent, phase := .setup }
  else if clocks < c.strobeEnd then { c with spent := some spent, phase := .strobe }
  else if c.kind = .refresh then { c with spent := some spent, phase := .recovery }
  else if canHold s c then
    { c with spent := some spent, phase := .wait, waits := min c.limit (clocks - c.strobeEnd) }
  else { c with spent := some spent, phase := if c.phase = .wait then .wait else .strobe }

/-- The phases of a driven cycle pass with time (R1). -/
def tickCycle : TickPart := fun s =>
  match s.planner.cycle with
  | some c =>
    if c.phase = .recovery then (s, [])
    else (modPlanner (fun p => { p with cycle := some (c.after s (timeSpent c.spent c.clock s)) }) (usedChoice s), [])
  | none => (s, [])

/-- The time a master's strobe has been asserted (R23). -/
def tickMaster : TickPart := fun s =>
  match s.planner.master with
  | some m =>
    (modPlanner (fun p => { p with master := some { m with spent := some (timeSpent m.spent s.bus.clock s) } })
      (usedChoice s), [])
  | none => (s, [])

/-- The cascade hold timer (R58, R61): it stops at 10000 µs, and never expires with limit 0. -/
def tickHoldTimer : TickPart := fun s =>
  match s.arb.timerChannel with
  | some _ =>
    let k := min 10000 (s.arb.timerElapsed + 1)
    (modArb (fun a => { a with timerElapsed := k }) s,
     if s.arb.timerLimit ≠ 0 ∧ s.arb.timerLimit * 10 ≤ k then [.holdTimerExpiry] else [])
  | none => (s, [])

/-- A PAUSE or a WAIT_DMA in progress (R75, R76). No command waits at this instant, so no expiry is overtaken. -/
def tickQueue : TickPart := fun s =>
  let s1 := modQueue (fun q => { q with overtaken := false }) s
  match s.queue.state with
  | .pausing =>
    (modQueue (fun q => { q with pauseLeft := q.pauseLeft - 1 }) s1,
     if s.queue.pauseLeft ≤ 1 then [.pauseExpiry] else [])
  | .waitingDma =>
    (modQueue (fun q => { q with waitLeft := q.waitLeft - 1 }) s1,
     if s.queue.waitLeft ≤ 1 then [.waitDmaTimeout] else [])
  | .idle => (s1, [])
  | .executing => (s1, [])

/-- A DELAY step (R137). -/
def tickDelay : TickPart := fun s =>
  if delaying s then
    (modEngine (fun g => { g with delayLeft := g.delayLeft - 1 }) s,
     if s.engine.delayLeft ≤ 1 then [.delayExpiry] else [])
  else (s, [])

/-- A periodic timer (R146). -/
def tickTimer (n : Fin 4) : TickPart := fun s =>
  if s.timers[n].running ∧ refreshing s.bus.state then
    if s.timers[n].elapsed + 1 < s.timers[n].period * 10 then
      (modTimer n (fun t => { t with elapsed := t.elapsed + 1 }) s, [])
    else (modTimer n (fun t => { t with elapsed := 0 }) s, [.timerExpiry n])
  else (s, [])

/-- A fill stores at each microsecond end (R180). -/
def tickFill : TickPart := fun s => (s, if s.image.filling then [.fillStore] else [])

/-- The receiver's silence (R185, R189). -/
def tickSilence : TickPart := fun s =>
  if s.link.ready ∧ s.link.rx.state ≠ .hunt ∧ !held s then
    (modLink (fun l => { l with silence := l.silence + 1 }) s,
     if 100000 ≤ s.link.silence + 1 then [.receiverSilenceTimeout] else [])
  else (s, [])

/-- One part after another, gathering the commands that fall due. -/
def runParts : List TickPart → State × List Instr → State × List Instr
  | [], p => p
  | f :: rest, p => runParts rest ((f p.1).1, p.2 ++ (f p.1).2)

/-- Puts a command at a place of a list. -/
def insertAt (c : Instr) : List Instr → Nat → List Instr
  | [], _ => [c]
  | d :: rest, 0 => c :: d :: rest
  | d :: rest, k + 1 => d :: insertAt c rest k

/-- Commands that fall due at one instant, in a free order. -/
def arrange : List Instr → Nat → List Instr
  | [], _ => []
  | c :: rest, k => insertAt c (arrange rest (k + 1)) (Config.order k % (rest.length + 1))

/-- The end of a microsecond (R144). -/
def tick (s : State) : State :=
  let p := runParts
    [tickPulse, tickSupply, tickCycle, tickMaster, tickInterval, tickHoldTimer, tickQueue, tickDelay, tickTimer 0,
     tickTimer 1, tickTimer 2, tickTimer 3, tickFill, tickSilence] ({ s with timeBase := s.timeBase + 1 }, [])
  { p.1 with
    pending := p.1.pending ++ arrange p.2 p.1.choices
    choices := p.1.choices + p.2.length }

end Sys2Proof.Machine
end

