-- ==== Sys2Proof/Machine/Pins.lean ====
section
/-! DEFINITION. The part's outputs on the card side, each a function of State (00 Package and signal summary; R1, R2,
R23, R27, R44, R58, R63, R93, R94, R96). True means asserted. -/

namespace Sys2Proof.Machine

/-- CRSTN is asserted in OFF, RESETTING and DOWN (R44). -/
def pinCardReset (s : State) : Bool := !s.bus.state.live

/-- BCLK's clock code while it runs; `none` while it is held low, in DOWN (R44). -/
def pinBusClock (s : State) : Option Nat := if s.bus.state = .down then none else some s.bus.clock

/-- SnBUFENN (R27). -/
def pinBufferEnable (s : State) (n : Fin 8) : Bool := attached s n

/-- CA19-CA0 as the part drives them; `none` while a cascade master has the shared lines (R1, R58). -/
def pinAddress (s : State) : Option (BitVec 20) :=
  match s.arb.owner with
  | .master _ => none
  | _ => some s.planner.address

/-- The memory and I/O strobes. -/
inductive Strobe
  | mrd | mwr | iord | iowr
  deriving DecidableEq, Repr

/-- The strobe a cycle's STROBE and WAIT phases assert (R1, R93): none in VERIFY and in a refresh cycle. -/
def Cycle.strobe (c : Cycle) : Option Strobe :=
  if c.kind = .refresh ∨ (c.cardSide.any fun x => x.direction == .verify) then none
  else
    match c.space, c.write with
    | .mem, false => some .mrd
    | .mem, true => some .mwr
    | .io, false => some .iord
    | .io, true => some .iowr

/-- The strobe of the running cycle: asserted in STROBE and WAIT, inactive in SETUP and RECOVERY (R1). -/
def pinStrobe (s : State) : Option Strobe :=
  match s.planner.cycle with
  | some c => if c.phase = .strobe ∨ c.phase = .wait then c.strobe else none
  | none => none

/-- RFSHN, asserted in a refresh cycle's STROBE phase (R63). -/
def pinRefresh (s : State) : Bool := s.planner.cycle.any fun c => (c.kind == .refresh) && (c.phase == .strobe)

/-- TC, from SETUP to the end of RECOVERY of every cycle of a terminal count transfer (R93). -/
def pinTerminalCount (s : State) : Bool :=
  s.planner.cycle.any fun c => c.cardSide.any fun x => x.terminal

/-- SnCGNTm: a cascade grant at the owner slot (R58), or a transfer cycle of the channel at its owner (R93); nothing
reaches a slot that is not ATTACHED (R27). -/
def pinGrant (s : State) (n : Fin 8) (m : Fin 4) : Bool :=
  attached s n &&
    (((s.arb.grant == some m) && (s.channels[m].owner == n)) ||
      s.planner.cycle.any fun c => (c.initiator == .channel m) && (c.cardSide.any fun x => x.owner == n))

/-- The word the part drives on a slot's data lines in the running cycle. Write data stands at the target, or at every
slot that takes part, from SETUP on (R1, R2, R17); in a DMA transfer data passes from STROBE on: a FROM_CARD cycle's to
the memory side, a TO_CARD cycle's to the owner, the byte of a second narrow cycle on D15-D8 (R94, R96), and held
through RECOVERY as sampled (R94). For a card-to-card FROM_CARD cycle it is what the owner drives. -/
def Cycle.drives (s : State) (lines : CardLines) (c : Cycle) (n : Fin 8) : Option Word16 :=
  let transfer := c.cardSide.isSome
  let toCard := c.cardSide.any fun x => x.direction == .toCard
  let b := if (c.phase == .recovery) && toCard then (c.readLow, c.readHigh) else movedBytes s lines c
  let narrow : Word16 := if c.highByte then b.1 ++ (0xFF : Byte) else (0xFF : Byte) ++ b.1
  let word : Word16 := if c.wide then b.2 ++ b.1 else (0xFF : Byte) ++ b.1
  if c.internal || (transfer && (c.phase == .setup)) then none
  else if c.cardSide.any fun x => (x.owner == n) && (x.direction == .toCard) then
    some (if c.wide then word else narrow)
  else if c.write && ((c.target == .slot n) || c.members[n]) then some word
  else none

/-- A slot's data lines as the part drives them, `none` while it drives none: in a driven cycle as that cycle drives
them, in a master cycle the byte of a window read on the owner's D7-D0 (R23); nothing through closed buffers (R27). -/
def pinData (s : State) (lines : CardLines) (n : Fin 8) : Option Word16 :=
  if attached s n then
    match s.planner.cycle, s.planner.master with
    | some c, _ => c.drives s lines n
    | none, some m => if m.drives && (m.slot == n) then some ((0xFF : Byte) ++ m.fetched) else none
    | none, none => none
  else none

end Sys2Proof.Machine
end

