-- ==== Sys2Proof/Safety.lean ====
section
/-! DEFINITION. The terms the statements are written in: which fields of State a change touches, a request taken and
answered, and the invariants every step keeps. -/

namespace Sys2Proof.Machine

/-! ## Frames -/

/-- The fields of State. -/
inductive Field
  | pending | bus | slots | cards | claims | planner | arb | queue | channels | lines | lineSlots | entries | engine
  | timers | timeBase | capture | watch | image | link | settings | choices
  deriving DecidableEq, Repr

/-- Two states agree on a field. -/
def Field.same (f : Field) (s t : State) : Prop :=
  match f with
  | .pending => t.pending = s.pending
  | .bus => t.bus = s.bus
  | .slots => t.slots = s.slots
  | .cards => t.cards = s.cards
  | .claims => t.claims = s.claims
  | .planner => t.planner = s.planner
  | .arb => t.arb = s.arb
  | .queue => t.queue = s.queue
  | .channels => t.channels = s.channels
  | .lines => t.lines = s.lines
  | .lineSlots => t.lineSlots = s.lineSlots
  | .entries => t.entries = s.entries
  | .engine => t.engine = s.engine
  | .timers => t.timers = s.timers
  | .timeBase => t.timeBase = s.timeBase
  | .capture => t.capture = s.capture
  | .watch => t.watch = s.watch
  | .image => t.image = s.image
  | .link => t.link = s.link
  | .settings => t.settings = s.settings
  | .choices => t.choices = s.choices

/-- The states agree on every field outside the list. -/
def Touches (l : List Field) (s t : State) : Prop := ∀ f, f ∉ l → f.same s t

/-! ## Requests -/

/-- The part takes bytes from the OUT pipe: the link is ready and fewer than 16 replies wait (R182, R189). -/
def Listening (s : State) : Prop := s.link.ready = true ∧ repliesIn s.link.tx < 16

/-- The receiver stands where a new frame may begin: HUNT, no first sync seen (R184). -/
def AtFrameStart (s : State) : Prop := s.link.rx = resetReceiver

/-- The state after a good frame's check byte: the receiver is back in HUNT (R184). -/
def heard (s : State) : State := { s with link := { s.link with rx := resetReceiver, silence := 0 } }

/-- The state `s` with one more frame at the end of the transmit list: a reply of the given kind, tag and payload
(R187, R189). -/
def withReply (kind tag : Byte) (payload : List Byte) (s : State) : State :=
  { s with link := { s.link with tx := s.link.tx ++ [{ kind := kind, tag := tag, payload := payload }] } }

/-- A request taken in `s` that left the blocks as they stand in `t` and was answered with one frame. -/
def answered (kind tag : Byte) (payload : List Byte) (t : State) : State := withReply kind tag payload (heard t)

/-- The state with frames handed to the link at the end of the transmit list; they are lost while the link is not ready
(R182, R193). -/
def sendAll (frames : List Frame) (s : State) : State :=
  if s.link.ready then { s with link := { s.link with tx := s.link.tx ++ frames } } else s

/-- The replies to requests that waited, in the order they were taken; none to a request of a lost link (R188, R193). -/
def answers (kind : Byte) (payload : List Byte) (ws : List Waiting) : List Frame :=
  (ws.filter fun w => w.wanted).map fun w => { kind := kind, tag := w.tag, payload := payload }

/-- What a run of commands from a state comes to, while each answers a next state. -/
def runAll : List Instr → State → Result
  | [], s => .next s
  | c :: rest, s =>
    match exec c s with
    | .next t => runAll rest t
    | .fault f => .fault f
    | .refused r => .refused r

/-! ## What larger changes leave -/

/-- A line-slot as watching of its slot starts: the reference level takes the level the card shows (R109), and a LEVEL
line is evaluated (R111). -/
def watchStarted (s : State) (l : Fin 12) (n : Fin 8) : LineSlot :=
  { s.lineSlots[l][n] with
    reference := s.cards[n].lines[l]
    pending := s.lineSlots[l][n].pending ||
      ((s.lines[l].sense == .level) && s.cards[n].lines[l] && !s.lineSlots[l][n].inService &&
        !s.lineSlots[l][n].stuck) }

/-- The interrupt unit starts to watch a slot (R109, R111). The other slots' line-slots stay. -/
def WatchingStarted (n : Fin 8) (s t : State) : Prop :=
  ∀ (l : Fin 12) (k : Fin 8), t.lineSlots[l][k] = if k = n then watchStarted s l n else s.lineSlots[l][k]

/-- A line-slot that is neither pending nor in service, its still-asserted count at 0 (R124, R125). -/
def quietLine (x : LineSlot) : LineSlot := { x with pending := false, inService := false, stillAsserted := 0 }

/-- A channel context that leaves RUNNING (R83): state and cause as given, both loaded flags, pulse pending and block
run off, no transfer in progress. -/
def stopped (c : Channel) (state : DmaState) (cause : DmaCause) : Channel :=
  { c with
    state := state, cause := cause, addressLoaded := false, countLoaded := false, pulse := false, blockRun := false,
    access := none }

/-- The arbiter as a channel leaves RUNNING: its DEMAND or BLOCK hold ends, at the boundary of a driven cycle that runs
or at once (R56), with the burst count at 0; a grant to it whose SETUP clock has not begun ends unused (R52); its cascade
grant ends, and owner and hold with it unless a master strobe is asserted (R59); its hold timer stops. Nothing else
changes. -/
def letsGo (c : Fin 4) (cycleRuns strobeAsserted : Bool) (a : Arbiter) : Arbiter :=
  let held : Bool := decide (a.hold = .demand c ∨ a.hold = .block c)
  let cascade : Bool := decide (a.grant = some c)
  let freed : Bool := decide (a.owner = .channel c) && !cycleRuns
  { a with
    owner := if freed || (cascade && !strobeAsserted) then .none else a.owner
    hold := if (held && !cycleRuns) || (cascade && !strobeAsserted) then .none else a.hold
    holdEnding := if held then cycleRuns else a.holdEnding
    burst := if held && !cycleRuns then 0 else a.burst
    grant := if cascade then none else a.grant
    timerChannel := if a.timerChannel = some c then none else a.timerChannel
    timerElapsed := if a.timerChannel = some c then 0 else a.timerElapsed }

/-- `letsGo` in a state: with the cycles that run there. -/
def letGo (c : Fin 4) (s : State) : Arbiter := letsGo c s.planner.cycle.isSome s.planner.master.isSome s.arb

/-- The arbiter as a transfer of a channel has completed (R54, R55): under its DEMAND hold the burst count rises, up to
256 (log entry 32), and the hold is marked to end at terminal count, at the burst limit, or with the request down;
under its BLOCK hold it is marked at terminal count. -/
def transferCounted (n : Fin 4) (terminal : Bool) (s : State) : Arbiter :=
  if s.arb.hold = .demand n then
    { s.arb with
      burst := min 256 (s.arb.burst + 1)
      holdEnding := s.arb.holdEnding || terminal || !requested s n s.channels[n].owner ||
        decide (s.arb.burstLimit ≠ 0 ∧ s.arb.burstLimit ≤ s.arb.burst + 1) }
  else if s.arb.hold = .block n then { s.arb with holdEnding := s.arb.holdEnding || terminal }
  else s.arb

/-- A master cycle that the slot drives is cut (R34, R36): with no grant in force owner and hold return to none (R59,
R60), and what waited of settings 1 and 3 takes effect (log entry 1). -/
def masterCut (n : Fin 8) (s : State) : State :=
  if s.planner.master.any fun m => decide (m.slot = n) then
    { s with
      planner := { s.planner with master := none }
      bus := { s.bus with clock := s.settings.clock }
      arb := { s.arb with
        owner := if s.arb.grant = none then .none else s.arb.owner
        hold := if s.arb.grant = none then .none else s.arb.hold
        intervalUse := if s.arb.intervalSet then s.settings.refresh else s.arb.intervalUse
        interval := if s.arb.intervalSet then 0 else s.arb.interval
        intervalSet := false } }
  else s

/-- A RUNNING channel whose owner slot has left ATTACHED: FAULTED with OWNER_LOST (R102), and on to IDLE if a CLEAR waits
and none of its cycles runs (R89). -/
def ownerGone (s : State) (c : Fin 4) : Channel :=
  if s.channels[c].waiting = [] ∨ (∃ x, s.planner.cycle = some x ∧ x.initiator = .channel c) then
    stopped s.channels[c] .faulted .ownerLost
  else { stopped s.channels[c] .idle .ownerLost with finished := false, waiting := [] }

/-- What the departure of a slot from ATTACHED leaves (R35): its line-slots neither pending nor in service, with their
counts at 0 (R124), and each RUNNING channel it owns stopped by the loss of its owner (R102). -/
def SlotDeparted (n : Fin 8) (s t : State) : Prop :=
  (∀ (l : Fin 12) (k : Fin 8), t.lineSlots[l][k] =
    if k = n then quietLine s.lineSlots[l][k] else s.lineSlots[l][k]) ∧
  ∀ c : Fin 4, t.channels[c] =
    if s.channels[c].state = .running ∧ s.channels[c].owner = n then ownerGone s c else s.channels[c]

/-- What a slot's departure from ATTACHED, told to `k`, does beside its own records (R35): the slot's master cycle is cut;
and for each RUNNING channel the slot owns, the lower first (log entry 33), the arbiter lets it go (R56, R59), its
DMA_FAULT notice is sent (R102, R103), the queue is told (R76), and the CLEARs that wait are answered unless one of the
channel's cycles still runs (R89). -/
def departureTold (n : Fin 8) (s k : State) : State :=
  allFour.foldl (fun k c =>
    if s.channels[c].state = .running ∧ s.channels[c].owner = n then
      sendAll
        (if s.planner.cycle.any fun x => decide (x.initiator = .channel c) then []
         else answers 0x8C [0, 0] s.channels[c].waiting)
        (tellQueue c (notice 2 ([natByte c.val, 3, natByte n.val, natByte s.channels[c].page.val] ++
          bytes2 s.channels[c].offset.toNat ++ bytes2 s.channels[c].count.toNat) { k with arb := letGo c k }))
    else k) (masterCut n k)

/-- A slot record at an entry to OFF, RESETTING or DOWN: OFF and DOWN isolate an ATTACHED slot (R37); an ISOLATE that
waits is made (R34), an ATTACH that waits is not (R33). -/
def slotClosed (new : BusState) (x : Slot) : Slot :=
  if x.state = .attached ∧ new ≠ .resetting then
    { x with state := .isolated, fault := .none, change := .none, waiting := [] }
  else
    match x.change with
    | .none => x
    | .attach => { x with change := .none, waiting := [] }
    | .isolate =>
      if x.state = .attached ∨ x.state = .faulted then
        { x with state := .isolated, fault := .none, change := .none, waiting := [] }
      else { x with change := .none, waiting := [] }

/-- What an entry to OFF, RESETTING or DOWN closes (R24, R34, R37, R65, R80, R104, R125, R141, R148), but for the bus
controller's own fields and the link. -/
def WorkClosed (new : BusState) (s t : State) : Prop :=
  t.planner = { s.planner with
    cycle := none, master := none, address := if new = .down then 0 else s.planner.address } ∧
  t.arb = { s.arb with
    owner := .none, hold := .none, grant := none, holdEnding := false, burst := 0, timerChannel := none,
    timerElapsed := 0, owed := 0, shortReported := false, interval := 0,
    intervalUse := if s.arb.intervalSet then s.settings.refresh else s.arb.intervalUse, intervalSet := false } ∧
  t.queue = { s.queue with
    ops := [], frames := [], state := .idle, pauseLeft := 0, waitLeft := 0, access := none } ∧
  (∀ n : Fin 4, t.channels[n] =
    if s.channels[n].state = .running then
      { stopped s.channels[n] .idle .aborted with waiting := [] }
    else if s.channels[n].waiting = [] then s.channels[n]
    else { stopped s.channels[n] .idle s.channels[n].cause with finished := false, waiting := [] }) ∧
  (∀ n : Fin 8, t.slots[n] = slotClosed new s.slots[n]) ∧
  (∀ (l : Fin 12) (n : Fin 8), t.lineSlots[l][n] = quietLine s.lineSlots[l][n]) ∧
  t.engine = resetEngine ∧
  (∀ n : Fin 4, t.timers[n] =
    { s.timers[n] with running := false, elapsed := 0, pending := false, inService := false }) ∧
  Touches [.bus, .slots, .planner, .arb, .link, .lineSlots, .channels, .queue, .engine, .timers, .choices] s t

/-- An operation that ends, with the data it has gathered filled with 0xFF to its length (R73). -/
def endedResult (status : OpStatus) (r : OpRecord) : OpResult where
  status := status
  flags := r.flags
  cycles := r.cycles
  data := r.data ++ List.replicate (r.kind.readLength - r.data.length) 0xFF

/-- A result as its bytes in an OPS reply (R73, R195). -/
def resultBytes (r : OpResult) : List Byte :=
  [r.status.code, natByte (r.flags.unclaimed.toNat + 2 * r.flags.prot.toNat + 4 * r.flags.narrowed.toNat)] ++
    bytes2 r.cycles ++ r.data

/-- The reply to an OPS frame with these results, if it is still wanted (R78, R81). -/
def opsReply (f : OpenFrame) (results : List OpResult) : List Frame :=
  if f.wanted then
    [{ kind := 0x88, tag := f.tag
       payload := (if f.adjusted then 1 else 0) :: natByte f.opCount :: (results.map resultBytes).flatten }]
  else []

/-- The replies the flush builds: for each open frame the results filed so far, then one ABORTED for each of its
operations in the list (R80). -/
def flushReplies (s : State) : List Frame :=
  (s.queue.frames.map fun f =>
    opsReply f (f.results ++ (s.queue.ops.filter fun r => decide (r.frame = f.id)).map (endedResult .aborted))).flatten

/-- The replies of the CLEARs that wait, channel 0 first (R89, R104). -/
def clearReplies (s : State) : List Frame :=
  (allFour.map fun n => answers 0x8C [0, 0] s.channels[n].waiting).flatten

/-- What one slot hands to the link at an entry to OFF, RESETTING or DOWN: its SLOT_CHANGE notice if it moves, with its
old state, its new state and the cause, BUS or, for an ISOLATE that waited, REQUEST (R34, R37); then the answer to each
request that waited, BAD_STATE to an ATTACH that is not made (R33). -/
def slotTold (new : BusState) (s k : State) (n : Fin 8) : State :=
  let x := s.slots[n]
  let y := slotClosed new x
  let byBus : Bool := decide (x.state = .attached ∧ new ≠ .resetting)
  sendAll
    (if y.waiting = [] then
      answers 0x86 [if x.change = .attach ∧ byBus = false then 4 else 0, y.state.code] x.waiting
     else [])
    (if y.state = x.state then k
     else notice 5 [natByte n.val, x.state.code, y.state.code, if byBus then 3 else 1] k)

/-- What the slots hand to the link at such an entry, slot 0 first (log entry 33). -/
def slotsTold (new : BusState) (s k : State) : State := allSlots.foldl (slotTold new s) k

/-- The bus controller's record of a change (R38, R41). -/
def busChanged (new : BusState) (cause : BusCause) (b : Bus) : Bus :=
  { b with state := new, cause := cause, holdRequest := none, pulseLeft := 0, pulseMicros := 0 }

/-! ## A cycle boundary -/

/-- A channel the slot owns has a transfer under way: begun, its last cycle not ended (R89, R102). -/
abbrev OwnsTransfer (s : State) (n : Fin 8) : Prop :=
  ∃ k : Fin 4, s.channels[k].state = .running ∧ s.channels[k].owner = n ∧ s.channels[k].access ≠ none

/-- A driven cycle in flight involves the slot (R34); that a transfer between its two cycles does too is log entry 35. -/
def Involves (s : State) (n : Fin 8) : Prop :=
  OwnsTransfer s n ∨ ∃ c, s.planner.cycle = some c ∧
    (c.target = .slot n ∨
      ((c.target = .all ∨ c.kind = .probe ∨ c.kind = .refresh) ∧ s.slots[n].state = .attached) ∨
      ∃ side, c.cardSide = some side ∧ side.owner = n)

/-- The state after what a watch unit's hold request does at a boundary (R43): HOLD with the unit as cause, a BUS_STATE
notice, a DEMAND or BLOCK hold that ends (R56), a cascade grant withdrawn (R60), a service marked held (R138). -/
def watchHeld (s : State) : State :=
  match s.bus.holdRequest with
  | none => s
  | some u =>
    if s.bus.state ≠ .run then s
    else { s with
      bus := busChanged .hold (.watch u) s.bus
      link := (notice 4 [2, 3, if u = 0 then 2 else 3] s).link
      arb := { s.arb with
        holdEnding := s.arb.holdEnding || (heldBy s.arb).isSome
        grant := none
        hold := if s.arb.grant.isSome then .none else s.arb.hold
        owner := if s.arb.grant.isSome ∧ s.planner.master = none then .none else s.arb.owner }
      engine := { s.engine with held := s.engine.held || decide (s.engine.state ≠ .idle) } }

/-- The state after what waited of settings 1 and 3 has taken effect (R44, R62). -/
def settingsTaken (s : State) : State :=
  { s with
    bus := { s.bus with clock := s.settings.clock }
    arb := if s.arb.intervalSet then
        { s.arb with intervalUse := s.settings.refresh, intervalSet := false, interval := 0 }
      else s.arb }

/-- An ISOLATE that waits at the slot is made (R34), unless a transfer the slot owns goes on (log entry 35). -/
abbrev leavesNow (s : State) (n : Fin 8) : Prop := s.slots[n].change = .isolate ∧ ¬ OwnsTransfer s n

/-- An ATTACH that waits at the slot is made (R33). -/
abbrev joinsNow (s : State) (n : Fin 8) : Prop :=
  s.slots[n].change = .attach ∧ s.slots[n].state = .isolated ∧
    (s.bus.state = .off ∨ s.bus.state = .hold ∨ s.bus.state = .stop)

/-- The owner of a RUNNING channel leaves ATTACHED with the changes due at the slots of `due`. -/
def losesOwner (due : Fin 8 → Bool) (s : State) (c : Fin 4) : Prop :=
  s.channels[c].state = .running ∧ due s.channels[c].owner ∧ leavesNow s s.channels[c].owner ∧
    s.slots[s.channels[c].owner].state = .attached

/-- What a change that falls due at one slot, told to `k`, does beside the slot's own records: the SLOT_CHANGE notice with old
state, new state and cause REQUEST if the slot moves (R33, R34), what the departure from ATTACHED brings (R35), and the
answer to each request that waited. -/
def changeTold (s k : State) (n : Fin 8) : State :=
  let x := s.slots[n]
  if leavesNow s n then
    sendAll (answers 0x86 [0, if x.state = .empty then 0 else 1] x.waiting)
      (if x.state = .attached then departureTold n s (notice 5 [natByte n.val, 2, 1, 1] k)
       else if x.state = .faulted then notice 5 [natByte n.val, 3, 1, 1] k
       else k)
  else if joinsNow s n then
    sendAll (answers 0x86 [0, 2] x.waiting) (notice 5 [natByte n.val, 1, 2, 1] k)
  else if x.change = .attach then sendAll (answers 0x86 [4, x.state.code] x.waiting) k
  else k

/-- What the changes that fall due at the slots of `due` do to link, queue, arbiter, planner and bus, slot 0 first (log
entry 33). -/
def changesTold (due : Fin 8 → Bool) (s : State) : State :=
  allSlots.foldl (fun k n => if due n then changeTold s k n else k) s

/-- What the changes that wait at the slots of `due` do when they fall due (R33 to R35): the slot records, the
line-slots of slots that leave or join (R109, R111, R124), the channels that lose their owner (R102), and, as
`changesTold` says, every frame that is handed over, the queue, the arbiter and a master cycle that is cut. -/
def ChangesMade (due : Fin 8 → Bool) (r w : State) : Prop :=
  Touches [.slots, .planner, .arb, .bus, .link, .lineSlots, .channels, .queue] r w ∧
  ((∀ n : Fin 8, due n → r.slots[n].change = .none) → w = r) ∧
  (∀ n : Fin 8, (due n = false ∨ r.slots[n].change = .none ∨ (r.slots[n].change = .isolate ∧ OwnsTransfer r n)) →
    w.slots[n] = r.slots[n] ∧ ∀ l : Fin 12, w.lineSlots[l][n] = r.lineSlots[l][n]) ∧
  (∀ n : Fin 8, due n → leavesNow r n →
    ((r.slots[n].state = .attached ∨ r.slots[n].state = .faulted) →
      w.slots[n] = { r.slots[n] with state := .isolated, fault := .none, change := .none, waiting := [] }) ∧
    ((r.slots[n].state = .isolated ∨ r.slots[n].state = .empty) →
      w.slots[n] = { r.slots[n] with change := .none, waiting := [] }) ∧
    ∀ l : Fin 12, w.lineSlots[l][n] =
      if r.slots[n].state = .attached then quietLine r.lineSlots[l][n] else r.lineSlots[l][n]) ∧
  (∀ n : Fin 8, due n → r.slots[n].change = .attach →
    w.slots[n] =
      { r.slots[n] with state := if joinsNow r n then .attached else r.slots[n].state, change := .none, waiting := [] } ∧
    ∀ l : Fin 12, w.lineSlots[l][n] =
      if joinsNow r n ∧ r.bus.state ≠ .off then watchStarted r l n else r.lineSlots[l][n]) ∧
  (∀ c : Fin 4, losesOwner due r c → w.channels[c] = ownerGone r c) ∧
  (∀ c : Fin 4, ¬ losesOwner due r c → w.channels[c] = r.channels[c]) ∧
  ∀ told : State, told = changesTold due r →
    w.link = told.link ∧ w.queue = told.queue ∧ w.arb = told.arb ∧ w.planner = told.planner ∧ w.bus = told.bus

/-- The state with another access in progress for an initiator. -/
def withAccess (init : Initiator) (x : Option Access) (s : State) : State :=
  match init with
  | .queue => { s with queue := { s.queue with access := x } }
  | .channel n => { s with channels := upd s.channels n fun c => { c with access := x } }
  | .service => { s with engine := { s.engine with access := x } }
  | .master => s

/-- An initiator's access with the outcome of one of its cycles: it goes on to its next cycle, or it has ended and the
initiator takes its result (R72, R95, R135), after which the CLEARs that waited for a transfer take effect (R89). -/
def resultTaken (init : Initiator) (a : Access) (s : State) : State :=
  if a.stage = .done then
    match init with
    | .queue => queueAccessDone a (withAccess init none s)
    | .channel n => finishClears n (transferDone n a (withAccess init none s))
    | .service => serviceAccessDone a (withAccess init none s)
    | .master => s
  else withAccess init (some a) s

/-- An access whose next byte or bytes end with this status and no cycle (R17 to R19): both bytes of a wide attempt,
else the byte of its stage. -/
def endedWithout (status : ByteStatus) (a : Access) : Access :=
  let r : ByteResult := { status := status, value := 0xFF }
  match a.stage with
  | .first =>
    if a.wideAttempt && !a.narrowed then { a with lowResult := r, highResult := r, stage := .done }
    else { a with lowResult := r, stage := if a.word then .second else .done }
  | .second => { a with highResult := r, stage := .done }
  | .done => a

/-! ## What the statements compare with -/

/-- The fields of a CLAIM write are in range (R6). -/
def claimWriteInRange (w : ClaimFields) : Prop :=
  w.entry.toNat < 24 ∧ w.extra.toNat ≤ 15 ∧ w.base.toNat ≤ w.limit.toNat ∧
    (w.space = 0 → w.limit.toNat ≤ 0xFFFFF) ∧
    (w.space = 1 → (w.decode = 10 ∨ w.decode = 12 ∨ w.decode = 16) ∧ w.limit.toNat < 2 ^ w.decode.toNat) ∧
    (w.target = 8 → w.space = 0 ∧ w.imageOffset.toNat + (w.limit.toNat - w.base.toNat) ≤ 0xFFFFF)

/-- The entry an accepted CLAIM write stores (R4, R6, R195). -/
def claimOf (w : ClaimFields) : Claim where
  enabled := flagByte .claimEnabled w.enabled
  space := if w.space = 0 then .mem else .io
  base := w.base.toNat
  limit := w.limit.toNat
  decode := if w.space = 0 then 20 else w.decode.toNat
  target := if h : w.target.toNat < 8 then .slot ⟨w.target.toNat, h⟩ else .image
  wide := decide (w.width = 1)
  extra := w.extra.toNat
  imageOffset := if w.target = 8 then w.imageOffset.toNat else 0
  readOnly := decide (w.target = 8) && flagByte .claimReadOnly w.readOnly

/-- Some address matches both entries (R5, R7). -/
def shareAddress (x y : Claim) : Prop := ∃ (space : Space) (a : Nat), x.matches space a = true ∧ y.matches space a = true

/-- The owner a grant to an initiator names (R48). A master's cycles are its own. -/
def ownerOf : Initiator → Owner
  | .queue => .queue
  | .channel n => .channel n
  | .service => .service
  | .master => .none

/-- The access whose next cycle a grant to the initiator starts: the one in progress, or the next one begun (R9,
R97). -/
def nextAccess (s : State) : Initiator → Option Access
  | .queue =>
    if (probing s).isSome then none
    else s.queue.access.or ((queueWants s).map fun i => beginAccess s i false false)
  | .channel n =>
    let c := s.channels[n]
    c.access.or
      (some (beginAccess s
        { space := .mem, address := c.page.val * 65536 + c.offset.toNat, word := decide (2 ≤ n.val),
          write := decide (c.direction = .fromCard), writeLow := 0xFF, writeHigh := 0xFF }
        (decide (c.count = 0xFFFF)) c.pulse))
  | .service => s.engine.access.or ((serviceWants s).map fun i => beginAccess s i false false)
  | .master => none

/-! ## The data of a cycle -/

/-- Image memory is in its canonical form (R174). -/
def ImageCanonical (s : State) : Prop := Memory.wf s.image.cells = true

/-- D7-D0 of a slot as the part sees them: 0xFF behind closed buffers (R2, R27). -/
def lowSeen (s : State) (lines : CardLines) (n : Fin 8) : Byte :=
  if s.slots[n].state = .attached then byte0 lines[n] else 0xFF

/-- D15-D8 of a slot as the part sees them: 0xFF behind closed buffers and at a slot without the wide strap (R27,
R96). -/
def highSeen (s : State) (lines : CardLines) (n : Fin 8) : Byte :=
  if s.slots[n].state = .attached ∧ s.slots[n].wide = true then byte1 lines[n] else 0xFF

/-- The bytes the memory side of a read cycle gives: a slot's lines (R2), image memory (R20), or for an unclaimed byte
the AND of the slots that take part (R18). -/
def MemoryGives (s : State) (lines : CardLines) (c : Cycle) (b0 b1 : Byte) : Prop :=
  match c.target with
  | .slot n => b0 = lowSeen s lines n ∧ b1 = if c.wide then highSeen s lines n else 0xFF
  | .image =>
    b0 = readByte s.image.cells c.imageOffset ∧
      b1 = if c.wide then readByte s.image.cells (c.imageOffset + 1) else 0xFF
  | .all =>
    (∀ k, k < 8 → (b0.getLsbD k = true ↔
      ∀ n : Fin 8, c.members[n] = true → (lowSeen s lines n).getLsbD k = true)) ∧ b1 = 0xFF

/-- The bytes a cycle carries (R14, R20, R94 to R96). Those of a transfer whose memory side is the owner slot itself are
free (log entry 4). -/
def Carries (s : State) (lines : CardLines) (c : Cycle) (timedOut : Bool) (b0 b1 : Byte) : Prop :=
  if timedOut = true ∧ c.write = false then b0 = 0xFF ∧ b1 = 0xFF
  else
    match c.cardSide with
    | none =>
      if c.write = true then b0 = c.writeLow ∧ b1 = (if c.wide then c.writeHigh else 0xFF)
      else MemoryGives s lines c b0 b1
    | some side =>
      if c.target = .slot side.owner ∧ side.direction ≠ .verify then
        b0 = Config.unsampledByte s.planner.freeBytes ∧
          b1 = if c.wide then Config.unsampledByte (s.planner.freeBytes + 1) else 0xFF
      else
        match side.direction with
        | .verify => b0 = 0xFF ∧ b1 = 0xFF
        | .fromCard =>
          b0 = (if c.highByte = true ∧ c.wide = false then highSeen s lines side.owner
            else lowSeen s lines side.owner) ∧
            b1 = if c.wide then highSeen s lines side.owner else 0xFF
        | .toCard =>
          if c.target = .image then b0 = c.readLow ∧ b1 = (if c.wide then c.readHigh else 0xFF)
          else MemoryGives s lines c b0 b1

/-- What the end of the STROBE and WAIT phases of a cycle leaves (R14, R20, R22, R25, R94, R166): the cycle in RECOVERY
with its WAIT clocks, its bytes and a PROBE's samples; the bytes of a write into an image window stored, and no other;
the cycle presented to the watch units with those bytes. -/
def DataTaken (waits : Nat) (timedOut : Bool) (lines : CardLines) (s : State) (c : Cycle) (t : State) : Prop :=
  ∃ (b0 b1 : Byte) (d : Cycle) (cells : List Host.Cell),
    Carries s lines c timedOut b0 b1 ∧
    d = { c with
      phase := .recovery, waits := waits, timedOut := timedOut, readLow := b0, readHigh := b1, samples := d.samples } ∧
    (∀ n : Fin 8, d.samples[n] =
      if c.kind = .probe then (if timedOut = false ∧ c.members[n] = true then lowSeen s lines n else 0xFF)
      else c.samples[n]) ∧
    cells = (if c.write = true ∧ c.target = .image ∧ c.readOnly = false then
      writeBytesAt s.image.cells c.imageOffset (if c.wide then [b0, b1] else [b0]) else s.image.cells) ∧
    (ImageCanonical s → c.write = true → c.target = .image → c.readOnly = false → ∀ x : Nat,
      readByte cells x =
        if x = c.imageOffset then b0 else if c.wide = true ∧ x = c.imageOffset + 1 then b1
        else readByte s.image.cells x) ∧
    t = present
      { space := c.space, address := c.address, word := c.wide, write := c.write, data0 := b0, data1 := b1
        initiator := c.initiator
        slot := match c.target with
          | .slot n => some n
          | _ => none
        unclaimed := c.unclaimed && !(c.cardSide.any fun x => decide (x.direction = .verify))
        prot := c.write && c.readOnly
        timeout := timedOut }
      { s with
        planner := { s.planner with
          cycle := some d
          freeBytes :=
            if c.cardSide.any fun side => decide (c.target = .slot side.owner ∧ side.direction ≠ .verify) then
              s.planner.freeBytes + 2
            else s.planner.freeBytes }
        image := { s.image with cells := cells } }

/-- A ready source of the cycle is at an ATTACHED slot, so that it can hold the cycle in WAIT (R14, R93). -/
def CanWait (s : State) (c : Cycle) : Prop :=
  ∃ n : Fin 8, s.slots[n].state = .attached ∧
    (c.target = .slot n ∨ (c.target = .all ∧ c.members[n] = true) ∨ ∃ side, c.cardSide = some side ∧ side.owner = n)

/-- The outcome of the bytes of a cycle (R14, R21). -/
def outcomeOf (c : Cycle) : ByteStatus := if c.lost then .blocked else if c.timedOut then .timeout else .ok

/-- A byte's result: its value only when it is OK (R14, R19, R21). -/
def byteOf (c : Cycle) (b : Byte) : ByteResult :=
  { status := outcomeOf c, value := if outcomeOf c = .ok then b else 0xFF }

/-- An access with the outcome of one of its cycles (R13, R15). -/
def accessAfter (c : Cycle) (a : Access) : Access :=
  if c.wide then
    { a with lowResult := byteOf c c.readLow, highResult := byteOf c c.readHigh, stage := .done, cycles := a.cycles + 1 }
  else
    match a.stage with
    | .first =>
      { a with lowResult := byteOf c c.readLow, stage := if a.word then .second else .done, cycles := a.cycles + 1 }
    | .second => { a with highResult := byteOf c c.readLow, stage := .done, cycles := a.cycles + 1 }
    | .done => { a with cycles := a.cycles + 1 }

/-- A source that may be selected (R113, R148). -/
def eligibleSource (s : State) : Source → Prop
  | .lineSlot l n =>
    s.lineSlots[l][n].pending = true ∧ s.lineSlots[l][n].stuck = false ∧ s.lines[l].enabled = true ∧
      s.settings.globalEnable = 1 ∧ s.settings.groupMask.testBit s.lines[l].group.val = false ∧
      (s.bus.state = .run ∨ (s.bus.state = .hold ∧ s.lines[l].keepAlive = true))
  | .timer n =>
    s.timers[n].pending = true ∧ (s.bus.state = .run ∨ (s.bus.state = .hold ∧ s.timers[n].keepAlive = true))
  | .channel _ => False
  | .watch _ => False

/-- A source's place in the order of selection: keep-alive lines, keep-alive timers, other lines, other timers; within
a group the lower line, then the lower slot, or the lower timer (R132). -/
def sourceRank (s : State) : Source → Nat
  | .lineSlot l n => (if s.lines[l].keepAlive then 0 else 200) + 8 * l.val + n.val
  | .timer n => (if s.timers[n].keepAlive then 100 else 300) + n.val
  | .channel _ => 0
  | .watch _ => 0

/-- The bus is free (R50). -/
def freeBus (s : State) : Prop :=
  s.planner.cycle = none ∧ s.planner.master = none ∧ s.arb.owner = .none ∧ s.arb.hold = .none ∧ s.arb.grant = none

/-! ## Operation and step records as bytes -/

/-- An operation record as its bytes (R67, R195). -/
def opBytes (r : RawOp) : List Byte := [r.kind, r.width, r.times, r.step, r.a0, r.a1, r.a2, r.a3] ++ r.data

/-- A record with known codes and write data of its length (R67, R68). -/
def opWhole (r : RawOp) : Prop :=
  1 ≤ r.kind.toNat ∧ r.kind.toNat ≤ 7 ∧ (r.kind.toNat ≤ 4 → r.step.toNat ≤ 1) ∧
    r.data.length =
      if r.kind = 2 ∨ r.kind = 4 then (if r.times = 0 then 256 else r.times.toNat) * r.width.toNat else 0

/-- The payload spells this OPS frame (R67, R68, R195). -/
def SpellsOps (payload : List Byte) (stop : Bool) (ops : List RawOp) : Prop :=
  ops.length ≤ 255 ∧ (∀ r ∈ ops, opWhole r) ∧
    payload = (if stop then 1 else 0) :: natByte ops.length :: (ops.map opBytes).flatten

/-- The read bytes of an operation's result (R67). -/
def opReads (r : RawOp) : Nat :=
  if r.kind = 1 ∨ r.kind = 3 then (if r.times = 0 then 256 else r.times.toNat) * r.width.toNat
  else if r.kind = 5 then 9 else 0

/-- An operation's fields are in range (R68). -/
def opFits (r : RawOp) : Prop :=
  (r.kind.toNat ≤ 4 → r.width = 1 ∨ r.width = 2) ∧ (r.kind.toNat ≤ 2 → r.address ≤ 0xFFFFF) ∧
    (3 ≤ r.kind.toNat → r.kind.toNat ≤ 6 → r.address ≤ 0xFFFF) ∧
    (r.kind.toNat = 7 → r.a0.toNat ≤ 3 ∧ 1 ≤ r.a1.toNat + 256 * r.a2.toNat)

/-- A frame's fields are in range (R68, R69). -/
def opsFit (ops : List RawOp) : Prop :=
  1 ≤ ops.length ∧ ops.length ≤ 16 ∧ (∀ r ∈ ops, opFits r) ∧ 2 + (ops.map fun r => 4 + opReads r).sum ≤ 1024

/-- A step record as its bytes (R128, R195). -/
def stepBytes (r : RawStep) : List Byte :=
  [r.kind, r.width, r.count, byte0 r.address, byte1 r.address, byte2 r.address, byte0 r.value, byte1 r.value]

/-- A step's fields are in range (R128, R129). -/
def stepFits (r : RawStep) : Prop :=
  (r.kind = 1 ∨ r.kind = 2 ∨ r.kind = 3 → (r.width = 1 ∨ r.width = 2) ∧ r.address.toNat ≤ 0xFFFF) ∧
    (r.kind = 2 ∨ r.kind = 4 → 1 ≤ r.count.toNat ∧ r.count.toNat ≤ 32) ∧
    (r.kind = 4 → r.address.toNat ≤ 0xFFFFF) ∧
    (r.kind = 5 → (r.width = 1 ∨ r.width = 2) ∧ r.address.toNat ≤ 0xFFFFF)

/-- The bytes a step captures (R128). -/
def stepCaptures (r : RawStep) : Nat :=
  if r.kind = 1 then r.width.toNat
  else if r.kind = 2 then r.count.toNat * r.width.toNat
  else if r.kind = 4 then r.count.toNat else 0

/-! ## Invariants -/

/-- Sequence numbers that rise by one from `k` on. -/
def NumberedFrom : Word16 → List Record → Prop
  | _, [] => True
  | k, r :: rest => r.sequence = k ∧ NumberedFrom (k + 1) rest

/-- At most 512 records and 16384 data bytes, in one unbroken run of sequence numbers that ends below the sequence
counter (R152). -/
def CaptureInBounds (s : State) : Prop :=
  s.capture.recordCount ≤ 512 ∧ s.capture.byteCount ≤ 16384 ∧
    NumberedFrom (s.capture.seq - BitVec.ofNat 16 s.capture.recordCount) s.capture.records

/-- The fields of a claim entry lie in the ranges R6 checks; a window lies inside image memory (R175). -/
def Claim.InRange (c : Claim) : Prop :=
  c.base ≤ c.limit ∧ c.limit < 2 ^ c.decode ∧
    (match c.space with
     | .mem => c.decode = 20
     | .io => c.decode = 10 ∨ c.decode = 12 ∨ c.decode = 16) ∧
    (c.target = .image → c.space = .mem ∧ c.imageOffset + (c.limit - c.base) ≤ 0xFFFFF)

/-- Every entry is in range, and no address matches two entries (R7). -/
def ClaimsDisjoint (s : State) : Prop :=
  (∀ e : Fin 24, s.claims[e].InRange) ∧
    ∀ (i j : Fin 24) (space : Space) (a : Nat),
      s.claims[i].matches space a = true → s.claims[j].matches space a = true → i = j

/-- Every setting lies in its range (R191). -/
def SettingsInRange (s : State) : Prop :=
  ∀ n, 1 ≤ n → n ≤ 11 → settingLow n ≤ s.settings.get n ∧ s.settings.get n ≤ settingHigh n

/-- The counts that stop at a maximum lie at or below it (R48, R82, R149, R165, R186). -/
def CountsInRange (s : State) : Prop :=
  s.arb.owed ≤ 16 ∧ s.arb.lost ≤ 65535 ∧ s.arb.burst ≤ 256 ∧ s.link.errors ≤ 65535 ∧ s.capture.dropTotal ≤ 4294967295 ∧
    (∀ n : Fin 4, s.channels[n].stray ≤ 255) ∧ (∀ u : Fin 2, s.watch[u].hits ≤ 65535) ∧
    ∀ src : Source, (s.capture.counts src).coalesced ≤ 255 ∧ (s.capture.counts src).lost ≤ 255

/-- In OFF, RESETTING and DOWN nothing is in progress on the card side: no cycle, owner, hold or grant, no channel
RUNNING, no operation or service begun, no timer RUNNING, no source pending or in service (R51, R65, R80, R104, R125,
R141, R148). -/
def DeadBusIsQuiet (s : State) : Prop :=
  s.bus.state.live = false →
    s.planner.cycle = none ∧ s.planner.master = none ∧ s.arb.owner = .none ∧ s.arb.hold = .none ∧
      s.arb.grant = none ∧ s.arb.timerChannel = none ∧ s.queue.state = .idle ∧ s.queue.access = none ∧
      s.engine = resetEngine ∧
      (∀ n : Fin 4, s.channels[n].state ≠ .running) ∧
      (∀ n : Fin 4, s.timers[n].running = false ∧ s.timers[n].pending = false ∧ s.timers[n].inService = false) ∧
      ∀ (l : Fin 12) (n : Fin 8), s.lineSlots[l][n].pending = false ∧ s.lineSlots[l][n].inService = false

/-- A RUNNING channel's owner slot is ATTACHED (R102). -/
def RunningOwnerAttached (s : State) : Prop :=
  ∀ n : Fin 4, s.channels[n].state = .running → s.slots[s.channels[n].owner].state = .attached

/-- A stuck line-slot is neither pending nor in service, and the still-asserted count is at most 4, below 4 until
stuck (R108, R116). -/
def StuckNotServed (s : State) : Prop :=
  ∀ (l : Fin 12) (n : Fin 8),
    (s.lineSlots[l][n].stuck = true → s.lineSlots[l][n].pending = false ∧ s.lineSlots[l][n].inService = false) ∧
      s.lineSlots[l][n].stillAsserted ≤ 4 ∧
      (s.lineSlots[l][n].stuck = false → s.lineSlots[l][n].stillAsserted < 4)

/-- Pending is on only while the slot is watched: ATTACHED, with the bus in RUN, HOLD or STOP (R113). -/
def PendingOnlyWatched (s : State) : Prop :=
  ∀ (l : Fin 12) (n : Fin 8), s.lineSlots[l][n].pending = true → watched s n = true

/-- The fault cause is HOLD_LIMIT exactly while the slot is FAULTED, and present is no exactly while it is EMPTY
(R26). -/
def SlotsConsistent (s : State) : Prop :=
  ∀ n : Fin 8, (s.slots[n].fault = .holdLimit ↔ s.slots[n].state = .faulted) ∧
    (s.slots[n].present = false ↔ s.slots[n].state = .empty)

/-- In IDLE every field of the engine is at its part reset value (R131). -/
def IdleEngineClear (s : State) : Prop := s.engine.state = .idle → s.engine = resetEngine

/-- An invariant that every step keeps. -/
def KeptByEveryStep (inv : State → Prop) : Prop := ∀ s t, inv s → step s = .next t → inv t

end Sys2Proof.Machine
end

