-- ==== Sys2Proof/Certificates/Slice0/Obligations.lean ====
section
/-! DEFINITION. The statements for the provers. Each docstring names the rules of spec/ it formalises. -/

open Sys2Proof Sys2Proof.Machine

/-! ## One step, and the passing of time -/

/-- O1. A step of a state with command `c` at the front of its queue is `exec c` on the state with the rest of the
queue. -/
def Obligations.StepRunsFrontCommand : Prop :=
  ∀ (c : Instr) (rest : List Instr) (s : State),
    step { s with pending := c :: rest } = exec c { s with pending := rest }

/-- O2. On an empty queue a microsecond ends (R144; that `step` does this there is the model's choice, log entry 2):
the time base rises by 1, the counts of R41, R45, R58, R62, R75, R76, R137, R146 and R185 move, and exactly the
commands that fall due join the queue. That the supply is lost in the 2001st microsecond low and restored in the
100000th high is log entry 20 (DEDUCED). What a running cycle does is the matter of PhasesPassWithTime. -/
def Obligations.EmptyQueueEndsMicrosecond : Prop :=
  ∀ s : State, ∃ t : State, step { s with pending := [] } = .next t ∧
    Touches [.pending, .bus, .planner, .arb, .queue, .engine, .timers, .timeBase, .link, .choices] s t ∧
    t.timeBase = s.timeBase + 1 ∧
    t.planner = { s.planner with cycle := t.planner.cycle, master := t.planner.master } ∧
    t.bus = { s.bus with
      pulseMicros :=
        if s.bus.state = .resetting then (if s.bus.pulseMicros < 999 then s.bus.pulseMicros + 1 else 0)
        else s.bus.pulseMicros
      pulseLeft :=
        if s.bus.state = .resetting ∧ 999 ≤ s.bus.pulseMicros then s.bus.pulseLeft - 1 else s.bus.pulseLeft
      supplyMicros :=
        if s.bus.supply = .low ∨ s.bus.supply = .recovering then s.bus.supplyMicros + 1 else s.bus.supplyMicros } ∧
    t.link = { s.link with silence :=
      if s.link.ready = true ∧ repliesIn s.link.tx < 16 ∧ s.link.rx.state ≠ .hunt then s.link.silence + 1
      else s.link.silence } ∧
    t.queue = { s.queue with
      pauseLeft := if s.queue.state = .pausing then s.queue.pauseLeft - 1 else s.queue.pauseLeft
      waitLeft := if s.queue.state = .waitingDma then s.queue.waitLeft - 1 else s.queue.waitLeft
      overtaken := false } ∧
    t.engine = { s.engine with
      delayLeft := if delaying s then s.engine.delayLeft - 1 else s.engine.delayLeft } ∧
    (∀ n : Fin 4, t.timers[n] =
      if s.timers[n].running ∧ (s.bus.state = .run ∨ s.bus.state = .hold) then
        { s.timers[n] with
          elapsed := if s.timers[n].elapsed + 1 < s.timers[n].period * 10 then s.timers[n].elapsed + 1 else 0 }
      else s.timers[n]) ∧
    t.arb = { s.arb with
      interval :=
        if (s.bus.state = .run ∨ s.bus.state = .hold) ∧ s.arb.intervalUse ≠ 0 then
          (if s.arb.interval + 1 < s.arb.intervalUse then s.arb.interval + 1 else 0)
        else s.arb.interval
      timerElapsed :=
        if s.arb.timerChannel.isSome then min 10000 (s.arb.timerElapsed + 1) else s.arb.timerElapsed } ∧
    (Instr.pulseEnd ∈ t.pending ↔ s.bus.state = .resetting ∧ 999 ≤ s.bus.pulseMicros ∧ s.bus.pulseLeft ≤ 1) ∧
    (Instr.supplyLost ∈ t.pending ↔ s.bus.supply = .low ∧ 2000 ≤ s.bus.supplyMicros) ∧
    (Instr.supplyRestored ∈ t.pending ↔ s.bus.supply = .recovering ∧ 99999 ≤ s.bus.supplyMicros) ∧
    (Instr.refreshIntervalExpiry ∈ t.pending ↔
      (s.bus.state = .run ∨ s.bus.state = .hold) ∧ s.arb.intervalUse ≠ 0 ∧ s.arb.intervalUse ≤ s.arb.interval + 1) ∧
    (Instr.holdTimerExpiry ∈ t.pending ↔
      s.arb.timerChannel ≠ none ∧ s.arb.timerLimit ≠ 0 ∧
        s.arb.timerLimit * 10 ≤ min 10000 (s.arb.timerElapsed + 1)) ∧
    (Instr.pauseExpiry ∈ t.pending ↔ s.queue.state = .pausing ∧ s.queue.pauseLeft ≤ 1) ∧
    (Instr.waitDmaTimeout ∈ t.pending ↔ s.queue.state = .waitingDma ∧ s.queue.waitLeft ≤ 1) ∧
    (Instr.delayExpiry ∈ t.pending ↔ delaying s = true ∧ s.engine.delayLeft ≤ 1) ∧
    (∀ n : Fin 4, Instr.timerExpiry n ∈ t.pending ↔
      s.timers[n].running ∧ (s.bus.state = .run ∨ s.bus.state = .hold) ∧
        s.timers[n].period * 10 ≤ s.timers[n].elapsed + 1) ∧
    (Instr.fillStore ∈ t.pending ↔ s.image.filling = true) ∧
    (Instr.receiverSilenceTimeout ∈ t.pending ↔
      Listening s ∧ s.link.rx.state ≠ .hunt ∧ 99999 ≤ s.link.silence) ∧
    t.pending.Nodup ∧
    ∀ c ∈ t.pending, c ∈ [.pulseEnd, .supplyLost, .supplyRestored, .refreshIntervalExpiry, .holdTimerExpiry,
      .pauseExpiry, .waitDmaTimeout, .delayExpiry, .timerExpiry 0, .timerExpiry 1, .timerExpiry 2, .timerExpiry 3,
      .fillStore, .receiverSilenceTimeout]

/-- O3. Every command answers a next state, leaves the queue of commands that wait as it is, and, part reset apart,
leaves the time base as it is: no request writes it (R144). -/
def Obligations.EveryCommandAnswersNext : Prop :=
  ∀ (c : Instr) (s : State), ∃ t : State, exec c s = .next t ∧ t.pending = s.pending ∧
    ((∀ (present straps : Byte) (good : Bool), c ≠ .partReset present straps good) → t.timeBase = s.timeBase)

/-- O4. The phases of a cycle pass as microseconds end (R1, R13, R14, R23, R63): the clock code says how many half bus
clocks a microsecond holds; SETUP is one clock, STROBE lasts S_base + E clocks and a refresh cycle's 3, and WAIT
counts up to Tc while a ready source can hold the cycle. How far into its first microsecond a cycle begins is free
(log entry 7, DESIGN CHOICE), so k is any number up to the clock code. Then the outputs that follow: the strobe in
STROBE and WAIT alone, RFSHN, the byte of a window read on the owner's D7-D0 from E clocks on (R23), CRSTN and BCLK
(R44), the buffers (R27), TC (R93), the address lines, left to the master under its cascade grant (R1, R58), the grant
lines (R58, R59, R93), and the data lines: a write's data at its target or at every slot that takes part, and what a
DMA transfer passes on, from STROBE on (R2, R17, R94, R96). -/
def Obligations.PhasesPassWithTime : Prop :=
  (∀ (s : State) (c : Cycle) (t : State), s.planner.cycle = some c → c.phase ≠ .recovery →
    step { s with pending := [] } = .next t →
    ∃ k clocks strobe : Nat, (match c.spent with
        | none => k ≤ c.clock
        | some before => k = before + c.clock) ∧
      clocks = k / 2 ∧
      strobe = (if c.kind = .refresh then 4
        else 1 + (if c.wide then 1 else if c.space = .mem then 3 else 4) + c.extra) ∧
      ∃ d : Cycle, t.planner.cycle = some d ∧ d = { c with spent := some k, phase := d.phase, waits := d.waits } ∧
        (clocks = 0 → d.phase = .setup ∧ d.waits = c.waits) ∧
        (0 < clocks → clocks < strobe → d.phase = .strobe ∧ d.waits = c.waits) ∧
        (strobe ≤ clocks → c.kind = .refresh → d.phase = .recovery ∧ d.waits = c.waits) ∧
        (strobe ≤ clocks → c.kind ≠ .refresh → CanWait s c →
          d.phase = .wait ∧ d.waits = min c.limit (clocks - strobe)) ∧
        (strobe ≤ clocks → c.kind ≠ .refresh → ¬ CanWait s c →
          d.phase = (if c.phase = .wait then .wait else .strobe) ∧ d.waits = c.waits)) ∧
  (∀ s t : State, (∀ c, s.planner.cycle = some c → c.phase = .recovery) → step { s with pending := [] } = .next t →
    t.planner.cycle = s.planner.cycle) ∧
  (∀ (s t : State) (m : MasterCycle), s.planner.master = some m → step { s with pending := [] } = .next t →
    ∃ k : Nat, t.planner.master = some { m with spent := some k } ∧
      match m.spent with
      | none => k ≤ s.bus.clock
      | some before => k = before + s.bus.clock) ∧
  (∀ (s : State) (x : Strobe), pinStrobe s = some x ↔
    ∃ c, s.planner.cycle = some c ∧ (c.phase = .strobe ∨ c.phase = .wait) ∧ c.kind ≠ .refresh ∧
      (∀ side, c.cardSide = some side → side.direction ≠ .verify) ∧
      x = (match c.space, c.write with
        | .mem, false => .mrd
        | .mem, true => .mwr
        | .io, false => .iord
        | .io, true => .iowr)) ∧
  (∀ s : State, pinRefresh s = true ↔ ∃ c, s.planner.cycle = some c ∧ c.kind = .refresh ∧ c.phase = .strobe) ∧
  (∀ (s : State) (lines : CardLines) (n : Fin 8) (m : MasterCycle), s.planner.cycle = none →
    s.planner.master = some m → s.slots[n].state = .attached →
    pinData s lines n =
      if m.slot = n ∧ m.found.target = .image ∧ m.write = false ∧ m.found.extra ≤ m.spent.getD 0 / 2 then
        some ((0xFF : Byte) ++ m.fetched)
      else none) ∧
  ∀ (s : State) (n : Fin 8),
    (pinCardReset s = true ↔ s.bus.state = .off ∨ s.bus.state = .resetting ∨ s.bus.state = .down) ∧
    pinBusClock s = (if s.bus.state = .down then none else some s.bus.clock) ∧
    (pinBufferEnable s n = true ↔ s.slots[n].state = .attached) ∧
    (pinTerminalCount s = true ↔ ∃ c side, s.planner.cycle = some c ∧ c.cardSide = some side ∧ side.terminal = true) ∧
    ((∃ k, s.arb.owner = .master k) → pinAddress s = none) ∧
    ((∀ k, s.arb.owner ≠ .master k) → pinAddress s = some s.planner.address) ∧
    (∀ k : Fin 4, pinGrant s n k = true ↔ s.slots[n].state = .attached ∧
      ((s.arb.grant = some k ∧ s.channels[k].owner = n) ∨
        ∃ c side, s.planner.cycle = some c ∧ c.initiator = .channel k ∧ c.cardSide = some side ∧ side.owner = n)) ∧
    (∀ lines : CardLines, s.slots[n].state ≠ .attached → pinData s lines n = none) ∧
    (∀ lines : CardLines, s.planner.cycle = none → s.planner.master = none → pinData s lines n = none) ∧
    ∀ (lines : CardLines) (c : Cycle), s.planner.cycle = some c → s.slots[n].state = .attached →
      (c.cardSide = none → pinData s lines n =
        if c.write = true ∧ (c.target = .slot n ∨ c.members[n] = true) then
          some ((if c.wide then c.writeHigh else 0xFF) ++ c.writeLow)
        else none) ∧
      ∀ side : CardSide, c.cardSide = some side →
        ((c.phase = .setup ∨ (side.direction = .verify ∧ c.write = false) ∨
            (side.direction ≠ .verify ∧ c.target = .slot side.owner)) → pinData s lines n = none) ∧
        (c.phase ≠ .setup → c.target ≠ .slot side.owner → side.direction = .fromCard → pinData s lines n =
          if c.write = true ∧ (c.target = .slot n ∨ c.members[n] = true) then
            some (if c.wide then highSeen s lines side.owner ++ lowSeen s lines side.owner
              else (0xFF : Byte) ++
                (if c.highByte then highSeen s lines side.owner else lowSeen s lines side.owner))
          else none) ∧
        (c.phase ≠ .setup → c.target ≠ .slot side.owner → side.direction = .toCard → c.write = false →
          (side.owner ≠ n → pinData s lines n = none) ∧
          (side.owner = n → ∃ b0 b1 : Byte,
            (if c.phase = .recovery ∨ c.target = .image then
              b0 = c.readLow ∧ (c.wide = true → b1 = c.readHigh)
             else MemoryGives s lines c b0 b1) ∧
            pinData s lines n = some
              (if c.wide then b1 ++ b0 else if c.highByte then b0 ++ (0xFF : Byte) else (0xFF : Byte) ++ b0)))

/-! ## Frames and the receiver -/

/-- O5. The codes of the status byte (R188) and of the code lists of R195: the number each constructor carries in a
frame, and what a code byte of a request reads as, with an unknown code refused. -/
def Obligations.CodesAreThoseOfTheManual : Prop :=
  (Status.ok.code = 0 ∧ Status.adjusted.code = 1 ∧ Status.badRequest.code = 2 ∧ Status.range.code = 3 ∧
    Status.badState.code = 4 ∧ Status.busy.code = 5 ∧ Status.conflict.code = 6) ∧
  (BusState.off.code = 0 ∧ BusState.resetting.code = 1 ∧ BusState.run.code = 2 ∧ BusState.hold.code = 3 ∧
    BusState.stop.code = 4 ∧ BusState.down.code = 5) ∧
  (BusCause.none.code = 0 ∧ BusCause.request.code = 1 ∧ (BusCause.watch 0).code = 2 ∧ (BusCause.watch 1).code = 3 ∧
    BusCause.supply.code = 4 ∧ BusCause.resetEnd.code = 5) ∧
  (SlotState.empty.code = 0 ∧ SlotState.isolated.code = 1 ∧ SlotState.attached.code = 2 ∧ SlotState.faulted.code = 3) ∧
  (SlotFault.none.code = 0 ∧ SlotFault.holdLimit.code = 1 ∧ SlotChange.none.code = 0 ∧ SlotChange.isolate.code = 1 ∧
    SlotChange.attach.code = 2) ∧
  (SlotCause.presence.code = 0 ∧ SlotCause.request.code = 1 ∧ SlotCause.holdLimit.code = 2 ∧ SlotCause.bus.code = 3) ∧
  (spaceCode .mem = 0 ∧ spaceCode .io = 1 ∧ (∀ n : Fin 8, (ClaimTarget.slot n).code = natByte n.val) ∧
    ClaimTarget.image.code = 8) ∧
  (OpStatus.ok.code = 0 ∧ OpStatus.timeout.code = 1 ∧ OpStatus.blocked.code = 2 ∧ OpStatus.skipped.code = 3 ∧
    OpStatus.aborted.code = 4) ∧
  (DmaMode.single.code = 0 ∧ DmaMode.demand.code = 1 ∧ DmaMode.block.code = 2 ∧ DmaMode.cascade.code = 3) ∧
  (DmaDirection.toCard.code = 0 ∧ DmaDirection.fromCard.code = 1 ∧ DmaDirection.verify.code = 2) ∧
  (DmaState.idle.code = 0 ∧ DmaState.loaded.code = 1 ∧ DmaState.running.code = 2 ∧ DmaState.done.code = 3 ∧
    DmaState.faulted.code = 4) ∧
  (DmaCause.none.code = 0 ∧ DmaCause.blocked.code = 1 ∧ DmaCause.timeout.code = 2 ∧ DmaCause.ownerLost.code = 3 ∧
    DmaCause.holdLimit.code = 4 ∧ DmaCause.aborted.code = 5) ∧
  (subConditionCode none = 0xFF ∧ subConditionCode (some .waiting) = 0 ∧ subConditionCode (some .transferring) = 1 ∧
    subConditionCode (some .master) = 2 ∧ subConditionCode (some .releasing) = 3) ∧
  (Sense.edge.code = 0 ∧ Sense.level.code = 1 ∧ EngineState.idle.code = 0 ∧ EngineState.serving.code = 1 ∧
    EngineState.suspended.code = 2) ∧
  (Initiator.queue.code = 0 ∧ (∀ n, (Initiator.channel n).code = 1) ∧ Initiator.service.code = 2 ∧
    Initiator.master.code = 3) ∧
  (entryCode none = 0xFF ∧ (∀ e, entryCode (some e) = natByte e.val) ∧ optionCode none = 0xFF ∧
    (∀ k, optionCode (some k) = natByte k) ∧ slotCode none = 0xFF ∧ (∀ n, slotCode (some n) = natByte n.val) ∧
    boolCode false = 0 ∧ boolCode true = 1) ∧
  (∀ (l : Fin 12) (n : Fin 8) (k : Fin 4) (u : Fin 2), (Source.lineSlot l n).recordByte = natByte l.val ∧
    (Source.timer k).recordByte = natByte (64 + k.val) ∧ (Source.channel k).recordByte = natByte (128 + k.val) ∧
    (Source.watch u).recordByte = natByte (192 + u.val)) ∧
  ∀ b : Byte,
    (∀ x, readSpace b = some x ↔ spaceCode x = b) ∧ (∀ x, readTarget b = some x ↔ x.code = b) ∧
    (∀ x, readMode b = some x ↔ x.code = b) ∧ (∀ x, readDirection b = some x ↔ x.code = b) ∧
    (∀ x, readSense b = some x ↔ x.code = b) ∧ (∀ x, readClaimWidth b = some x ↔ boolCode x = b) ∧
    (∀ x, readDmaStep b = some x ↔ boolCode x = b) ∧ (∀ x, readArm b = some x ↔ boolCode x = b) ∧
    ∀ x, readEntry b = some x ↔ entryCode x = b

/-- O6. The frame of a request row spells that row, and the row a frame spells has that very frame: no bit of a
request is dropped (R183, R187, R195). UNKNOWN_REQUEST may carry any frame, so it is left out of the first half. -/
def Obligations.FramesAndRowsAgree : Prop :=
  (∀ (i : Instr) (kind tag : Byte) (payload : List Byte), requestFrame i = some (kind, tag, payload) →
    (∀ (k t : Byte) (p : List Byte), i ≠ .unknownRequest k t p) →
      kind.toNat < 128 ∧ requestOf kind tag payload = i) ∧
  ∀ (kind tag : Byte) (payload : List Byte), requestFrame (requestOf kind tag payload) = some (kind, tag, payload)

/-- O7. The bytes of a good frame, taken one by one from a receiver in HUNT, do exactly what the row the frame spells
does (R183, R184, R187; that a request row stands for its whole frame is log entry 11). -/
def Obligations.BytesOfFrameRunItsRow : Prop :=
  ∀ (kind tag : Byte) (payload : List Byte) (s : State), Listening s → AtFrameStart s → kind.toNat < 128 →
    payload.length ≤ 1024 →
      runAll ((frameBytes kind tag payload).map .byteTaken) s = exec (requestOf kind tag payload) s

/-- The state with the receiver changed by a byte just taken. -/
def withReceiver (rx : Receiver) (s : State) : State := { s with link := { s.link with rx := rx, silence := 0 } }

/-- The state after a received frame is discarded: the link error count one higher, stopping at 65535, and the
receiver in HUNT (R185, R186). -/
def afterDiscard (s : State) : State :=
  { s with link := { s.link with rx := resetReceiver, silence := 0, errors := min 65535 (s.link.errors + 1) } }

/-- O8. The receiver's table (R184). -/
def Obligations.ReceiverActsByTable : Prop :=
  (∀ (b : Byte) (s : State), Listening s →
    (s.link.rx.state = .hunt → s.link.rx.sync = false →
      exec (.byteTaken b) s =
        .next (withReceiver (if b = 0xA5 then { s.link.rx with sync := true } else s.link.rx) s)) ∧
    (s.link.rx.state = .hunt → s.link.rx.sync = true →
      exec (.byteTaken b) s =
        .next (withReceiver
          (if b = 0x5A then { state := .header, sync := false, header := [], payload := [] }
           else if b = 0xA5 then s.link.rx else { s.link.rx with sync := false }) s)) ∧
    (s.link.rx.state = .header → s.link.rx.header.length < 3 →
      exec (.byteTaken b) s = .next (withReceiver { s.link.rx with header := s.link.rx.header ++ [b] } s)) ∧
    (∀ kind tag low : Byte, s.link.rx.state = .header → s.link.rx.header = [kind, tag, low] →
      exec (.byteTaken b) s =
        .next (if 1024 < low.toNat + 256 * b.toNat then afterDiscard s
          else withReceiver { s.link.rx with state := .payload, header := [kind, tag, low, b] } s)) ∧
    (∀ kind tag low high : Byte, s.link.rx.state = .payload → s.link.rx.header = [kind, tag, low, high] →
      s.link.rx.payload.length < low.toNat + 256 * high.toNat →
        exec (.byteTaken b) s = .next (withReceiver { s.link.rx with payload := s.link.rx.payload ++ [b] } s)) ∧
    (∀ kind tag low high : Byte, s.link.rx.state = .payload → s.link.rx.header = [kind, tag, low, high] →
      s.link.rx.payload.length = low.toNat + 256 * high.toNat → s.link.rx.payload.length ≤ 1024 →
        exec (.byteTaken b) s =
          if kind + tag + low + high + s.link.rx.payload.sum + b = 0 ∧ kind.toNat < 128 then
            exec (requestOf kind tag s.link.rx.payload) s
          else .next (afterDiscard s))) ∧
  (∀ s : State, ∃ t : State, exec .linkLoss s = .next t ∧ t.link.rx = resetReceiver) ∧
  ∀ (present straps : Byte) (good : Bool) (s : State), ∃ t : State,
    exec (.partReset present straps good) s = .next t ∧ t.link.rx = resetReceiver

/-- O9. Where the receiver does not take a request: while the link is not ready no byte is taken (R182); while 16
replies wait the frame's bytes wait in the OUT pipe (R189); a frame whose length is above 1024, whose sum is not 0, or
whose kind is 0x80 or above is discarded, and so is the partial frame of a receiver silent for 100 ms: the error count
rises, nothing is answered and nothing else changes (R185, R186). The model's choices here: a row stands for its whole
frame (log entry 11), FRAME_DISCARDED for the discard alone (24), the silence event acts whatever the count and does
nothing in HUNT (13), a frame sent while the link is not ready is lost and a whole row waits in the OUT pipe (29, 11).
-/
def Obligations.UntakenFramesWaitOrAreCounted : Prop :=
  (∀ (i : Instr) (kind tag : Byte) (payload : List Byte) (s : State), requestFrame i = some (kind, tag, payload) →
    (s.link.ready = false → exec i s = .next s) ∧
    (s.link.ready = true → 16 ≤ repliesIn s.link.tx →
      exec i s = .next { s with link := { s.link with outPipe := s.link.outPipe ++ frameBytes kind tag payload } }) ∧
    (Listening s → 1024 < payload.length ∨ 128 ≤ kind.toNat → exec i s = .next (afterDiscard s))) ∧
  (∀ (b : Byte) (s : State),
    (s.link.ready = false → exec (.byteTaken b) s = .next s) ∧
    (s.link.ready = true → 16 ≤ repliesIn s.link.tx →
      exec (.byteTaken b) s = .next { s with link := { s.link with outPipe := s.link.outPipe ++ [b] } })) ∧
  (∀ (kind tag : Byte) (length : Word16) (payload : List Byte) (check : Byte) (s : State), Listening s →
    (1024 < length.toNat ∨ kind + tag + byte0 length + byte1 length + payload.sum + check ≠ 0 ∨ 128 ≤ kind.toNat) →
      exec (.frameDiscarded kind tag length payload check) s = .next (afterDiscard s)) ∧
  (∀ s : State, Listening s → s.link.rx.state ≠ .hunt → exec .receiverSilenceTimeout s = .next (afterDiscard s)) ∧
  ∀ s : State, (¬ Listening s ∨ s.link.rx.state = .hunt) → exec .receiverSilenceTimeout s = .next s

/-- O10. LINK_READY, LINK_LOSS and IN_PIPE_READ (R182, R189, R193): link loss empties the transmit list and disowns
every request dispatched before it, and changes nothing else; a read of the IN pipe sends the head of the list, and
the bytes that waited in the OUT pipe then reach the receiver one by one (R189). That link loss empties the OUT pipe
is log entry 29, and that LINK_READY does nothing on a ready link is log entry 13 (both DESIGN CHOICE). -/
def Obligations.LinkEventsAct : Prop :=
  (∀ s : State, exec .linkReady s =
    .next (if s.link.ready then s
      else { s with link := { s.link with ready := true, rx := resetReceiver, silence := 0 } })) ∧
  (∀ s : State, ∃ t : State, exec .linkLoss s = .next t ∧
    Touches [.link, .queue, .image, .slots, .channels] s t ∧
    t.link = { s.link with ready := false, rx := resetReceiver, silence := 0, tx := [], outPipe := [] } ∧
    t.queue = { s.queue with frames := s.queue.frames.map fun f => { f with wanted := false } } ∧
    t.image = { s.image with replyWanted := false } ∧
    (∀ n : Fin 8, t.slots[n] = { s.slots[n] with
      waiting := s.slots[n].waiting.map fun w => { w with wanted := false } }) ∧
    ∀ n : Fin 4, t.channels[n] = { s.channels[n] with
      waiting := s.channels[n].waiting.map fun w => { w with wanted := false } }) ∧
  (∀ s : State, s.link.ready = true → s.link.tx = [] → exec .inPipeRead s = .next s) ∧
  (∀ s : State, s.link.ready = false → exec .inPipeRead s = .next s) ∧
  (∀ (s : State) (f : Frame) (rest : List Frame), s.link.ready = true → s.link.tx = f :: rest →
    (s.link.outPipe = [] ∨ 16 ≤ repliesIn rest) →
      exec .inPipeRead s =
        .next { s with link := { s.link with tx := rest, lastSent := frameBytes f.kind f.tag f.payload } }) ∧
  ∀ (s : State) (f : Frame) (rest : List Frame), s.link.ready = true → s.link.tx = f :: rest →
    exec .inPipeRead s = runAll (s.link.outPipe.map .byteTaken)
      { s with link := { s.link with
        tx := rest, outPipe := [], lastSent := frameBytes f.kind f.tag f.payload } }

/-- O11. PART_RESET (R194): every block at its part reset values, the slots and the supply monitor from their inputs
(R26, R28, R31, R45); no notice and no reply. The commands that wait, the levels the seated cards drive and the
model's own counters of free values stay: log entries 3, 4, 5, 10 and 25. -/
def Obligations.PartResetReturnsEverything : Prop :=
  ∀ (present straps : Byte) (good : Bool) (s : State), ∃ t : State,
    exec (.partReset present straps good) s = .next t ∧
    Touches [.pending, .bus, .slots, .cards, .planner, .choices] State.reset t ∧
    t.pending = s.pending ∧ t.choices = s.choices ∧
    t.planner = { State.reset.planner with freeBytes := s.planner.freeBytes } ∧
    (∀ n : Fin 8, t.cards[n] =
      if present.getLsbD n.val then s.cards[n]
      else { lines := Vector.replicate 12 false, requests := Vector.replicate 4 false }) ∧
    t.bus = { State.reset.bus with supply := if good then .good else .low } ∧
    (∀ n : Fin 8, t.slots[n] =
      { state := if present.getLsbD n.val then .isolated else .empty, present := present.getLsbD n.val,
        wide := straps.getLsbD n.val, fault := .none, change := .none, waiting := [] }) ∧
    t.bus.state = .off ∧ t.bus.cause = .none ∧ t.bus.clock = 16 ∧ t.planner.cycle = none ∧ t.planner.address = 0 ∧
    t.arb.owner = .none ∧ t.arb.owed = 0 ∧ t.arb.lost = 0 ∧ t.arb.row = 0 ∧ t.queue.ops = [] ∧ t.queue.frames = [] ∧
    (∀ n : Fin 4, t.channels[n].state = .idle ∧ t.channels[n].mode = .single ∧ t.timers[n].running = false ∧
      t.timers[n].period = 1000) ∧
    (∀ e : Fin 24, t.claims[e].enabled = false ∧ t.entries[e].steps = [] ∧ t.entries[e].record = false) ∧
    t.engine.state = .idle ∧ t.timeBase = 0 ∧ t.capture.records = [] ∧ t.capture.seq = 0 ∧
    (∀ a : Nat, readByte t.image.cells a = 0) ∧ t.image.filling = false ∧ t.link.ready = false ∧ t.link.tx = [] ∧
    t.link.errors = 0 ∧ t.link.overflow = false ∧
    t.settings = { clock := 16, readyTimeout := 15, refresh := 15, pulse := 20, afterReset := 0, masterLimit := 50,
                   burstLimit := 0, almostFull := 384, notices := 0xFF, globalEnable := 0, groupMask := 0 }

/-- O12. A request whose kind is not in the dispatch table, or whose payload has no layout of its kind, is answered
BAD_REQUEST and changes nothing; the refused BUS carries the bus state and cause, the refused DRAIN a count of 0 and
the records held (R187, R188, R195). -/
def Obligations.UnknownRequestsAreRefused : Prop :=
  ∀ (kind tag : Byte) (payload : List Byte) (s : State), Listening s → kind.toNat < 128 → payload.length ≤ 1024 →
    requestOf kind tag payload = .unknownRequest kind tag payload →
      exec (.unknownRequest kind tag payload) s =
        .next (answered (kind + 0x80) tag
          (2 :: (if kind = 0x05 then [s.bus.state.code, s.bus.cause.code]
            else if kind = 0x12 then 0 :: bytes2 s.capture.records.length else [])) s)

/-- O13. IDENT and STATUS (R192). -/
def Obligations.IdentAndStatusReport : Prop :=
  (∀ (tag : Byte) (s : State), Listening s →
    ∃ wide : Byte, (∀ n : Fin 8, wide.getLsbD n.val = s.slots[n].wide) ∧
      exec (.ident tag) s =
        .next (answered 0x81 tag
          [0, 0x31, 0x0A, 0x08, 0x02, 0x01, 8, wide, 24, 24, 4, 4, 2, 12, 0x00, 0x02, 0x00, 0x40, 32, 0x00, 0x04]
          s)) ∧
  (∀ (tag : Byte) (s : State), Listening s →
    exec (.status tag) s =
      .next (answered 0x82 tag
        ([0, s.bus.state.code, s.bus.cause.code,
          if s.bus.supply = .good ∨ s.bus.supply = .low then 1 else 0,
          s.slots[0].state.code, s.slots[1].state.code, s.slots[2].state.code, s.slots[3].state.code,
          s.slots[4].state.code, s.slots[5].state.code, s.slots[6].state.code, s.slots[7].state.code,
          natByte s.queue.ops.length] ++ bytes2 s.capture.records.length ++
          bytes2 (s.capture.records.map fun r => r.data.length).sum ++ bytes4 s.capture.dropTotal ++
          [if s.capture.high then 1 else 0, natByte s.arb.owed] ++ bytes2 s.arb.lost ++ bytes2 s.link.errors ++
          bytes4 s.timeBase.toNat ++ [if s.link.overflow then 1 else 0])
        { s with link := { s.link with errors := 0, overflow := false } })) ∧
  ∀ (kind tag : Byte) (payload : List Byte) (s : State), Listening s → (kind = 0x01 ∨ kind = 0x02) → payload ≠ [] →
    payload.length ≤ 1024 →
      exec (.unknownRequest kind tag payload) s = .next (answered (kind + 0x80) tag [2] s)

/-! ## Settings and notices -/

/-- O14. GET and SET (R191): the value is clamped to the setting's range and stored, setting 1 reaches BCLK and
setting 3 the refresh interval at once unless a driven or a master cycle runs (R43, R44, R62), setting 8 is tested
against the record count (R158), and settings 10 and 11 let a selection follow (R107). The order of QUEUE_HIGH and the
reply is the model's choice (log entry 9). -/
def Obligations.SettingsAreReadAndStored : Prop :=
  ([1, 2, 3, 4, 5, 6, 7, 8, 9, 10, 11].map settingLow = [8, 1, 0, 1, 0, 0, 0, 1, 0, 0, 0] ∧
    [1, 2, 3, 4, 5, 6, 7, 8, 9, 10, 11].map settingHigh = [24, 250, 255, 255, 1, 1000, 256, 512, 255, 1, 255]) ∧
  (∀ (tag n : Byte) (s : State), Listening s →
    exec (.get tag n) s =
      .next (answered 0x84 tag
        (if 1 ≤ n.toNat ∧ n.toNat ≤ 11 then 0 :: n :: bytes2 (s.settings.get n.toNat) else [3]) s)) ∧
  (∀ (tag n : Byte) (v : Word16) (s : State), Listening s → (n = 0 ∨ 11 < n.toNat) →
    exec (.set tag n v) s = .next (answered 0x83 tag [3] s)) ∧
  (∀ (tag : Byte) (v : Word16) (s : State), Listening s → s.bus.state = .run →
    exec (.set tag 1 v) s = .next (answered 0x83 tag [4] s)) ∧
  ∀ (tag n : Byte) (v : Word16) (s : State) (x : Nat), Listening s → 1 ≤ n.toNat → n.toNat ≤ 11 →
    (n = 1 → s.bus.state ≠ .run) → x = max (settingLow n.toNat) (min v.toNat (settingHigh n.toNat)) →
      exec (.set tag n v) s =
        .next
          (let stored : State := { s with settings := s.settings.put n.toNat x }
           let told (t : State) : State := withReply 0x83 tag ((if x = v.toNat then 0 else 1) :: n :: bytes2 x) t
           if n = 1 then
             told (heard (if s.planner.cycle = none ∧ s.planner.master = none then
                 { stored with bus := { s.bus with clock := x } }
               else stored))
           else if n = 3 then
             told (heard { stored with arb :=
               if s.planner.cycle = none ∧ s.planner.master = none then
                 { s.arb with intervalUse := x, intervalSet := false, interval := 0 }
               else { s.arb with intervalSet := true } })
           else if n = 8 then
             told (if x ≤ s.capture.records.length ∧ s.capture.high = false then
                 notice 0 (bytes2 s.capture.records.length ++
                     bytes2 (s.capture.records.map fun r => r.data.length).sum ++ bytes2 x)
                   (heard { stored with capture := { s.capture with high := true } })
               else heard { stored with capture := { s.capture with high := decide (x ≤ s.capture.records.length) } })
           else if n = 10 ∨ n = 11 then settle (told (heard stored))
           else told (heard stored))

/-- O15. A notice handed over joins the transmit list with its kind and the time base, unless the link is not ready or
its kind is not enabled in setting 9, when it is discarded, or 32 notices wait, when it is discarded and notice
overflow is set (R182, R189, R190, R193). That the enable is read first, so that a notice of a disabled kind leaves
notice overflow alone, is log entry 36 (DESIGN CHOICE). -/
def Obligations.NoticesJoinTheListOrAreLost : Prop :=
  ∀ (kind : Nat) (fields : List Byte) (s : State),
    notice kind fields s =
      if s.link.ready = false ∨ s.settings.notices.testBit kind = false then s
      else if 32 ≤ (s.link.tx.filter fun f => f.isNotice).length then
        { s with link := { s.link with overflow := true } }
      else { s with link := { s.link with
        tx := s.link.tx ++ [{ kind := 0xE0, tag := 0, payload := natByte kind :: (bytes4 s.timeBase.toNat ++ fields),
                              isNotice := true }] } }

/-! ## The bus controller and the supply -/

/-- O16. BUS RUN, HOLD and STOP (R39). In OFF, RESETTING and DOWN refused; in the state already held answered OK with
no change; otherwise the bus moves at once: a DEMAND or BLOCK hold ends at the next boundary and a cascade grant is
withdrawn on leaving RUN (R56, R60), a service in progress is marked held on entering HOLD (R138), and a SUSPENDED one
goes on on leaving STOP (R139). That the reply is built ahead of what settle does is log entry 9, and that a grant not
yet begun stays through the move is log entry 14 (both DEDUCED). -/
def Obligations.BusMovesAmongLiveStates : Prop :=
  ∀ (i : Instr) (tag : Byte) (new : BusState) (s : State), Listening s →
    ((i = .busRun tag ∧ new = .run) ∨ (i = .busHold tag ∧ new = .hold) ∨ (i = .busStop tag ∧ new = .stop)) →
    ((s.bus.state = .off ∨ s.bus.state = .resetting ∨ s.bus.state = .down) →
      exec i s = .next (answered 0x85 tag [4, s.bus.state.code, s.bus.cause.code] s)) ∧
    (s.bus.state = new → exec i s = .next (answered 0x85 tag [0, new.code, s.bus.cause.code] s)) ∧
    ((s.bus.state = .run ∨ s.bus.state = .hold ∨ s.bus.state = .stop) → s.bus.state ≠ new →
      ∃ t : State, exec i s = .next (settle (withReply 0x85 tag [0, new.code, 1] t)) ∧
        Touches [.bus, .arb, .engine, .link] s t ∧
        t.bus = busChanged new .request s.bus ∧
        t.link = (notice 4 [s.bus.state.code, new.code, 1] (heard s)).link ∧
        t.arb = (if s.bus.state = .run then
          { s.arb with
            holdEnding := s.arb.holdEnding || (heldBy s.arb).isSome
            grant := none
            hold := if s.arb.grant.isSome then .none else s.arb.hold
            owner := if s.arb.grant.isSome ∧ s.planner.master = none then .none else s.arb.owner }
          else s.arb) ∧
        t.engine = { s.engine with
          held := s.engine.held || (decide (new = .hold) && decide (s.engine.state ≠ .idle))
          state := if s.bus.state = .stop ∧ s.engine.state = .suspended then .serving else s.engine.state
          delayLeft :=
            if s.bus.state = .stop ∧ s.engine.state = .suspended then
              match currentStep s with
              | some (.delay micros) => micros
              | _ => s.engine.delayLeft
            else s.engine.delayLeft })

/-- O17. BUS OFF and BUS RESET (R40, R42): what refuses them, and otherwise all work closed, the bus in its new state
with its BUS_STATE notice first, each slot's record closed and its SLOT_CHANGE notice sent with old state, new state
and cause (R34, R37), setting 1 in force on BCLK (R44), for RESET the pulse time of setting 4. The waiting CLEARs and
SLOT requests are answered, every open OPS frame's reply carries ABORTED for what had not ended (R80), and the BUS
reply stands before or after those (R39, log entry 3). The model's choices here: a setting that waits takes effect
(log entry 1), a CLEAR that waits on a channel not RUNNING (16), an ISOLATE that waits at the cut (15, 19), the order
of the frames (34, 33). -/
def Obligations.BusOffAndResetAct : Prop :=
  (∀ (tag : Byte) (s : State), Listening s →
    (s.bus.state = .off → exec (.busOff tag) s = .next (answered 0x85 tag [0, 0, s.bus.cause.code] s)) ∧
    (s.bus.state = .resetting → exec (.busReset tag) s = .next (answered 0x85 tag [4, 1, s.bus.cause.code] s)) ∧
    (s.bus.state = .down → (s.bus.supply = .lost ∨ s.bus.supply = .recovering) →
      exec (.busOff tag) s = .next (answered 0x85 tag [4, 5, s.bus.cause.code] s) ∧
      exec (.busReset tag) s = .next (answered 0x85 tag [4, 5, s.bus.cause.code] s))) ∧
  ∀ (i : Instr) (tag : Byte) (new : BusState) (s : State), Listening s →
    ((i = .busOff tag ∧ new = .off) ∨ (i = .busReset tag ∧ new = .resetting)) → s.bus.state ≠ new →
    (s.bus.state = .down → s.bus.supply = .good ∨ s.bus.supply = .low) →
      ∃ t : State, exec i s = .next t ∧ WorkClosed new s t ∧
        t.bus = { busChanged new .request s.bus with
          clock := s.settings.clock, pulseLeft := if new = .resetting then s.settings.pulse else 0 } ∧
        ∀ (told : State) (busReply : Frame),
          told = slotsTold new s (sendAll (clearReplies s) (notice 4 [s.bus.state.code, new.code, 1] (heard s))) →
          busReply = { kind := 0x85, tag := tag, payload := [0, new.code, 1] } →
          t.link = (sendAll (flushReplies s ++ [busReply]) told).link ∨
            t.link = (sendAll (busReply :: flushReplies s) told).link

/-- O18. The supply monitor (R45 to R47): its four states, and on the loss the entry to DOWN with all work closed, the
slots' SLOT_CHANGE notices sent (R37), the waiting CLEARs and SLOT requests answered and the OPS frames' replies last,
ABORTED in them (R80). The end of the card reset pulse (R41): the state of setting 5 with cause RESET_END, and
watching starts at every ATTACHED slot (R109, R111). The model's choices here: clock and interval at the entry (log
entry 1), events that the state rules out or that come early (13), a CLEAR that waits (16), an ISOLATE that waits (15,
19), the order of the frames (34, 33). -/
def Obligations.SupplyAndPulseMoveTheBus : Prop :=
  (∀ s : State, exec .csupgoodLow s = .next
    (if s.bus.supply = .good then { s with bus := { s.bus with supply := .low, supplyMicros := 0 } }
     else if s.bus.supply = .recovering then { s with bus := { s.bus with supply := .lost, supplyMicros := 0 } }
     else s)) ∧
  (∀ s : State, exec .csupgoodHigh s = .next
    (if s.bus.supply = .low then { s with bus := { s.bus with supply := .good, supplyMicros := 0 } }
     else if s.bus.supply = .lost then { s with bus := { s.bus with supply := .recovering, supplyMicros := 0 } }
     else s)) ∧
  (∀ s : State, exec .supplyRestored s = .next
    (if s.bus.supply = .recovering then
      notice 6 [1] { s with bus := { s.bus with supply := .good, supplyMicros := 0 } }
     else s)) ∧
  (∀ s : State, s.bus.supply ≠ .low → exec .supplyLost s = .next s) ∧
  (∀ s : State, s.bus.supply = .low → s.bus.state = .down →
    exec .supplyLost s = .next (notice 6 [0] { s with bus := { s.bus with supply := .lost, supplyMicros := 0 } })) ∧
  (∀ s : State, s.bus.supply = .low → s.bus.state ≠ .down →
    ∃ t : State, exec .supplyLost s = .next t ∧ WorkClosed .down s t ∧
      t.bus = { busChanged .down .supply s.bus with
        clock := s.settings.clock, supply := .lost, supplyMicros := 0 } ∧
      t.link = (sendAll (flushReplies s) (slotsTold .down s (sendAll (clearReplies s)
        (notice 4 [s.bus.state.code, 5, 4] (notice 6 [0] s))))).link) ∧
  (∀ s : State, s.bus.state ≠ .resetting → exec .pulseEnd s = .next s) ∧
  ∀ (s : State) (new : BusState), s.bus.state = .resetting → new = (if s.settings.afterReset = 0 then .run else .hold) →
    ∃ t : State, exec .pulseEnd s = .next (settle t) ∧ Touches [.bus, .link, .lineSlots] s t ∧
      t.bus = busChanged new .resetEnd s.bus ∧ t.link = (notice 4 [1, new.code, 5] s).link ∧
      ∀ (l : Fin 12) (n : Fin 8), t.lineSlots[l][n] =
        if s.slots[n].state = .attached then watchStarted s l n else s.lineSlots[l][n]

/-! ## Slots -/

/-- O19. SLOT QUERY, and the refusal of a slot number above 7 by every SLOT request (R32). SLOT ATTACH (R33): refused
in RUN, RESETTING and DOWN and at an EMPTY or FAULTED slot; an ISOLATED slot enters ATTACHED at once, or waits for the
end of the running driven cycle. That the reply joins the list ahead of what settle does is log entry 9 (DEDUCED). -/
def Obligations.SlotQueryAndAttachAct : Prop :=
  (∀ (tag : Byte) (n : Fin 8) (s : State), Listening s →
    exec (.slotQuery tag (natByte n.val)) s =
      .next (answered 0x86 tag
        [0, s.slots[n].state.code, if s.slots[n].present then 1 else 0, if s.slots[n].wide then 1 else 0,
          s.slots[n].fault.code, s.slots[n].change.code] s)) ∧
  (∀ (tag slot : Byte) (s : State), Listening s → 8 ≤ slot.toNat →
    exec (.slotQuery tag slot) s = .next (answered 0x86 tag [3] s) ∧
    exec (.slotAttach tag slot) s = .next (answered 0x86 tag [3] s) ∧
    exec (.slotIsolate tag slot) s = .next (answered 0x86 tag [3] s)) ∧
  ∀ (tag : Byte) (n : Fin 8) (s : State), Listening s →
    ((s.bus.state = .run ∨ s.bus.state = .resetting ∨ s.bus.state = .down ∨ s.slots[n].state = .empty ∨
        s.slots[n].state = .faulted) →
      exec (.slotAttach tag (natByte n.val)) s = .next (answered 0x86 tag [4, s.slots[n].state.code] s)) ∧
    ((s.bus.state = .off ∨ s.bus.state = .hold ∨ s.bus.state = .stop) →
      (s.slots[n].state = .attached →
        exec (.slotAttach tag (natByte n.val)) s = .next (answered 0x86 tag [0, 2] s)) ∧
      (s.slots[n].state = .isolated → s.planner.cycle ≠ none →
        exec (.slotAttach tag (natByte n.val)) s =
          .next { heard s with slots := upd s.slots n fun x =>
            { x with change := .attach, waiting := x.waiting ++ [{ tag := tag, wanted := true }] } }) ∧
      (s.slots[n].state = .isolated → s.planner.cycle = none →
        ∃ t : State, exec (.slotAttach tag (natByte n.val)) s = .next (settle (withReply 0x86 tag [0, 2] t)) ∧
          Touches [.slots, .link, .lineSlots] s t ∧
          t.slots = upd s.slots n (fun x => { x with state := .attached }) ∧
          t.link = (notice 5 [natByte n.val, 1, 2, 1] (heard s)).link ∧
          (s.bus.state = .off → t.lineSlots = s.lineSlots) ∧
          (s.bus.state ≠ .off → WatchingStarted n s t)))

/-- O20. SLOT ISOLATE (R34), by the slot's state; an ATTACHED slot that the running cycle involves waits for its end,
and R34 says which cycles involve it. At an ISOLATED slot it cancels an ATTACH that waits, and every request that
waited is answered. A departure sends the slot's SLOT_CHANGE notice and a DMA_FAULT notice for each channel that loses
its owner (R35, R103), whose holds and grants the arbiter ends, every other field of it as it was but at a cut master
cycle (R52, R56, R59). The model's choices here: the reply joins the list ahead of the selection that settle makes
(log entry 9), a transfer in two cycles involves its owner between them too (35), several requests wait together (19),
the order among channels (33), settings in force at a cut master cycle (1). -/
def Obligations.SlotIsolateActs : Prop :=
  ∀ (tag : Byte) (n : Fin 8) (s : State), Listening s →
    (s.slots[n].state = .empty →
      exec (.slotIsolate tag (natByte n.val)) s = .next (answered 0x86 tag [4, 0] s)) ∧
    (s.slots[n].state = .isolated → s.slots[n].change ≠ .attach →
      exec (.slotIsolate tag (natByte n.val)) s = .next (answered 0x86 tag [0, 1] s)) ∧
    (s.slots[n].state = .isolated → s.slots[n].change = .attach →
      exec (.slotIsolate tag (natByte n.val)) s =
        .next (withReply 0x86 tag [0, 1] (sendAll (answers 0x86 [4, 1] s.slots[n].waiting)
          (heard { s with slots := upd s.slots n fun x => { x with change := .none, waiting := [] } })))) ∧
    (s.slots[n].state = .faulted →
      exec (.slotIsolate tag (natByte n.val)) s =
        .next (withReply 0x86 tag [0, 1] (sendAll (answers 0x86 [0, 1] s.slots[n].waiting)
          (notice 5 [natByte n.val, 3, 1, 1] (heard { s with slots := upd s.slots n fun x =>
            { x with state := .isolated, fault := .none, change := .none, waiting := [] } }))))) ∧
    (s.slots[n].state = .attached → Involves s n →
      exec (.slotIsolate tag (natByte n.val)) s =
        .next { heard s with slots := upd s.slots n fun x =>
          { x with change := .isolate, waiting := x.waiting ++ [{ tag := tag, wanted := true }] } }) ∧
    (s.slots[n].state = .attached → ¬ Involves s n →
      ∃ t : State,
        exec (.slotIsolate tag (natByte n.val)) s = .next (settle (withReply 0x86 tag [0, 1] t)) ∧
        Touches [.slots, .planner, .arb, .bus, .link, .lineSlots, .channels, .queue] s t ∧
        t.slots = upd s.slots n
          (fun x => { x with state := .isolated, fault := .none, change := .none, waiting := [] }) ∧
        SlotDeparted n s t ∧
        t.planner = { s.planner with
          master := match s.planner.master with
            | some m => if m.slot = n then none else some m
            | none => none } ∧
        ((∀ m, s.planner.master = some m → m.slot ≠ n) → t.bus = s.bus) ∧
        (∀ m, s.planner.master = some m → m.slot = n → t.bus = { s.bus with clock := s.settings.clock }) ∧
        ∀ told : State, told = departureTold n s (notice 5 [natByte n.val, 2, 1, 1] (heard s)) →
          t.link = (sendAll (answers 0x86 [0, 1] s.slots[n].waiting) told).link ∧ t.queue = told.queue ∧
            t.arb = told.arb)

/-- O21. PRESENCE_ARRIVAL and PRESENCE_LOSS (R29, R30): an arrival moves an EMPTY slot to ISOLATED; a loss empties any
other slot at once, answers what waited there, marks a running cycle to it (R21) and, from ATTACHED, is a departure
with the DMA_FAULT notices it brings (R35, R103) and the holds and grants it ends (R52, R56, R59). The model's choices
here: the card's own lines fall with it (log entry 5), an arrival that the state rules out (13), a cycle in RECOVERY
is marked too (18), the order among channels (33), settings in force at a cut master cycle (1). -/
def Obligations.PresenceMovesSlots : Prop :=
  (∀ (n : Fin 8) (s : State), exec (.presenceArrival n) s = .next
    (if s.slots[n].state = .empty then
      notice 5 [natByte n.val, 0, 1, 0]
        { s with slots := upd s.slots n fun x => { x with state := .isolated, present := true } }
     else s)) ∧
  (∀ (n : Fin 8) (s : State), s.slots[n].state = .empty → exec (.presenceLoss n) s = .next s) ∧
  ∀ (n : Fin 8) (s : State), s.slots[n].state ≠ .empty →
    ∃ t : State, exec (.presenceLoss n) s = .next (settle t) ∧
      Touches [.slots, .cards, .planner, .arb, .bus, .link, .lineSlots, .channels, .queue] s t ∧
      t.slots = upd s.slots n (fun x =>
        { x with state := .empty, present := false, fault := .none, change := .none, waiting := [] }) ∧
      t.cards = upd s.cards n (fun _ => quietCard) ∧
      t.planner = { s.planner with
        cycle := s.planner.cycle.map (fun c => if c.target = .slot n then { c with lost := true } else c)
        master := match s.planner.master with
          | some m => if m.slot = n then none else some m
          | none => none } ∧
      ((∀ m, s.planner.master = some m → m.slot ≠ n) → t.bus = s.bus) ∧
      (∀ m, s.planner.master = some m → m.slot = n → t.bus = { s.bus with clock := s.settings.clock }) ∧
      (s.slots[n].state = .attached → SlotDeparted n s t) ∧
      (s.slots[n].state ≠ .attached → t.channels = s.channels ∧ t.lineSlots = s.lineSlots) ∧
      ∀ moved : State, moved = notice 5 [natByte n.val, s.slots[n].state.code, 0, 0]
          (sendAll (answers 0x86 [if s.slots[n].change = .attach then 4 else 0, 0] s.slots[n].waiting) s) →
        (s.slots[n].state = .attached →
          t.link = (departureTold n s moved).link ∧ t.queue = (departureTold n s moved).queue ∧
            t.arb = (departureTold n s moved).arb) ∧
        (s.slots[n].state ≠ .attached → t.link = moved.link ∧ t.queue = s.queue ∧ t.arb = (masterCut n s).arb)

/-! ## The claim table -/

/-- O22. CLAIM read and write (R6 to R8): the passes in order, the first failure answered; a write of an enabled entry
that shares an address with another enabled entry is answered CONFLICT, and an accepted one is stored. -/
def Obligations.ClaimRequestsAct : Prop :=
  (∀ (tag : Byte) (e : Fin 24) (s : State) (c : Claim), Listening s → s.claims[e] = c →
    exec (.claimRead tag (natByte e.val)) s =
      .next (answered 0x87 tag
        ([0, if c.enabled then 1 else 0, if c.space = .mem then 0 else 1, natByte c.decode] ++ bytes3 c.base ++
          bytes3 c.limit ++
          [match c.target with
            | .slot n => natByte n.val
            | .image => 8, if c.wide then 1 else 0, natByte c.extra] ++
          bytes3 c.imageOffset ++ [if c.readOnly then 1 else 0]) s)) ∧
  (∀ (tag entry : Byte) (s : State), Listening s → 24 ≤ entry.toNat →
    exec (.claimRead tag entry) s = .next (answered 0x87 tag [3] s)) ∧
  ∀ (tag : Byte) (w : ClaimFields) (s : State), Listening s →
    ((1 < w.space.toNat ∨ 8 < w.target.toNat ∨ 1 < w.width.toNat) →
      exec (.claimWrite tag w) s = .next (answered 0x87 tag [2] s)) ∧
    (w.space.toNat ≤ 1 → w.target.toNat ≤ 8 → w.width.toNat ≤ 1 →
      (¬ claimWriteInRange w → exec (.claimWrite tag w) s = .next (answered 0x87 tag [3] s)) ∧
      ∀ e : Fin 24, claimWriteInRange w → w.entry.toNat = e.val → (∀ k : Fin 24, s.claims[k].InRange) →
        ((∃ k : Fin 24, k ≠ e ∧ shareAddress (claimOf w) s.claims[k]) →
          exec (.claimWrite tag w) s = .next (answered 0x87 tag [6] s)) ∧
        ((∀ k : Fin 24, k ≠ e → ¬ shareAddress (claimOf w) s.claims[k]) →
          exec (.claimWrite tag w) s =
            .next (answered 0x87 tag [0] { s with claims := upd s.claims e fun _ => claimOf w })))

/-! ## Cycles -/

/-- O23. Resolving an address (R5, R10, R20): the entry it matches gives target, width, E, read-only and, for image
memory, the offset; an address that matches none is unclaimed. An access begins (R10, R11): its bytes are resolved at
A and at A + 1 in the space, and it plans a wide cycle exactly when the five conditions hold. -/
def Obligations.AccessesAreResolvedAndPlanned : Prop :=
  (∀ (c : Claim) (space : Space) (a : Nat), c.matches space a = true ↔
    c.enabled = true ∧ c.space = space ∧ c.base ≤ a % 2 ^ c.decode ∧ a % 2 ^ c.decode ≤ c.limit) ∧
  (∀ (s : State) (space : Space) (a : Nat), ClaimsDisjoint s →
    (∀ e : Fin 24, s.claims[e].matches space a = true →
      resolve s.claims space a =
        { entry := some e
          target := match s.claims[e].target with
            | .slot n => .slot n
            | .image => .image
          wide := s.claims[e].wide
          extra := s.claims[e].extra
          imageOffset := s.claims[e].imageOffset + (a % 2 ^ s.claims[e].decode - s.claims[e].base)
          readOnly := s.claims[e].readOnly }) ∧
    ((∀ e : Fin 24, s.claims[e].matches space a = false) →
      resolve s.claims space a =
        { entry := none, target := .all, wide := false, extra := 0, imageOffset := 0, readOnly := false })) ∧
  ∀ (s : State) (i : AccessInput) (terminal pulsed : Bool),
    (beginAccess s i terminal pulsed).low = resolve s.claims i.space i.address ∧
    (beginAccess s i terminal pulsed).high =
      resolve s.claims i.space ((i.address + 1) % (if i.space = .mem then 0x100000 else 0x10000)) ∧
    ((beginAccess s i terminal pulsed).wideAttempt = true ↔
      i.word = true ∧ i.address % 2 = 0 ∧
        (∃ e : Fin 24, (beginAccess s i terminal pulsed).low.entry = some e ∧
          (beginAccess s i terminal pulsed).high.entry = some e) ∧
        (beginAccess s i terminal pulsed).low.wide = true ∧
        ((beginAccess s i terminal pulsed).low.target = .image ∨
          ∃ n : Fin 8, (beginAccess s i terminal pulsed).low.target = .slot n ∧ s.slots[n].wide = true)) ∧
    (beginAccess s i terminal pulsed).stage = .first ∧ (beginAccess s i terminal pulsed).cycles = 0

/-- O24. CYCLE_START (R1, R3, R12, R17 to R19, R22, R63, R93 to R95, R176): a granted initiator's next cycle is driven
from SETUP with what its byte resolved to, its write data, and for a TO_CARD transfer the bytes image memory holds
now. The bytes of a slot that is not ATTACHED end BLOCKED, and an unclaimed one with no slot attached OK, with no
cycle: for every initiator, a byte or a word, at either stage. CYCLE_START without a grant changes nothing (log entry
13, DESIGN CHOICE), and the owner's ISOLATE that waited for a transfer which ends without a cycle is made here (log
entry 35, DEDUCED). -/
def Obligations.CycleStartDrivesOrEndsTheByte : Prop :=
  (∀ (ack : Bool) (s : State),
    (s.planner.cycle ≠ none ∨ s.arb.owner = .none ∨ (∃ n, s.arb.owner = .master n)) →
      exec (.cycleStart ack) s = .next s) ∧
  (∀ (ack : Bool) (s : State), s.planner.cycle = none → s.arb.owner = .refresh →
    ∃ c : Cycle, c.kind = .refresh ∧ c.phase = .setup ∧ c.spent = none ∧ c.address = s.arb.row.toNat ∧ c.waits = 0 ∧
      c.cardSide = none ∧
      exec (.cycleStart ack) s =
        .next { s with planner := { s.planner with cycle := some c, address := BitVec.ofNat 20 s.arb.row.toNat } }) ∧
  (∀ (ack : Bool) (s : State) (port : Nat), s.planner.cycle = none → s.arb.owner = .queue → probing s = some port →
    ((∃ n : Fin 8, s.slots[n].state = .attached) →
      ∃ c : Cycle, c.kind = .probe ∧ c.phase = .setup ∧ c.spent = none ∧ c.space = .io ∧ c.address = port ∧
        c.write = false ∧ c.wide = false ∧ c.target = .all ∧ c.extra = 0 ∧ c.waits = 0 ∧ c.initiator = .queue ∧
        c.clock = s.settings.clock ∧ c.limit = (s.settings.readyTimeout * s.settings.clock + 1) / 2 ∧
        c.cardSide = none ∧ c.lost = false ∧ (∀ n : Fin 8, c.members[n] = decide (s.slots[n].state = .attached)) ∧
        exec (.cycleStart ack) s =
          .next { s with planner := { s.planner with cycle := some c, address := BitVec.ofNat 20 port } }) ∧
    ((∀ n : Fin 8, s.slots[n].state ≠ .attached) →
      exec (.cycleStart ack) s = .next (settle (holdBoundary .queue
        (probeDone (List.replicate 8 0xFF) 0 false 0 { s with arb := { s.arb with owner := .none } }))))) ∧
  ∀ (ack : Bool) (s : State) (init : Initiator) (a : Access) (r : Resolved),
    s.planner.cycle = none → s.arb.owner = ownerOf init → nextAccess s init = some a →
    r = (if a.stage = .second then a.high else a.low) →
    ((∀ n, r.target = .slot n → s.slots[n].state = .attached) →
      (r.target = .all → (∃ n, init = .channel n) ∨ ∃ n : Fin 8, s.slots[n].state = .attached) →
      ∀ (wide early : Bool) (side : Option CardSide) (c : Cycle),
        wide = (a.wideAttempt && !a.narrowed && decide (a.stage = .first) && (decide (r.target = .image) || ack)) →
        side = (match init with
          | .channel k =>
            some { owner := s.channels[k].owner, direction := s.channels[k].direction, terminal := a.terminal }
          | _ => none) →
        early = (decide (r.target = .image) && side.any fun x => decide (x.direction = .toCard)) →
        (∀ n : Fin 8, c.members[n] =
          (decide (r.target = .all) && decide (s.slots[n].state = .attached) &&
            (match init with
             | .channel k => decide (s.channels[k].owner ≠ n)
             | _ => true))) →
        c =
          { kind := .access, phase := .setup, spent := none, space := a.space
            address := if a.stage = .second then (a.address + 1) % (if a.space = .mem then 0x100000 else 0x10000)
              else a.address
            write := a.write, wide := wide, target := r.target, extra := r.extra, clock := s.settings.clock
            limit := (s.settings.readyTimeout * s.settings.clock + 1) / 2, waits := 0, initiator := init
            members := c.members, imageOffset := r.imageOffset, readOnly := r.readOnly, unclaimed := r.entry.isNone
            highByte := decide (a.stage = .second)
            writeLow := if a.stage = .second then a.writeHigh else a.writeLow, writeHigh := a.writeHigh
            readLow := if early then readByte s.image.cells r.imageOffset else 0xFF
            readHigh := if early then readByte s.image.cells (r.imageOffset + 1) else 0xFF
            samples := Vector.replicate 8 0xFF, timedOut := false, lost := false, cardSide := side } →
        exec (.cycleStart ack) s =
          .next { withAccess init
              (some { a with narrowed := a.narrowed || (a.wideAttempt && decide (a.stage = .first) && !wide) }) s with
            planner := { s.planner with cycle := some c, address := BitVec.ofNat 20 c.address } }) ∧
    ∀ status : ByteStatus,
      ((∃ n : Fin 8, r.target = .slot n ∧ s.slots[n].state ≠ .attached ∧ status = .blocked) ∨
        (r.target = .all ∧ (∀ n, init ≠ .channel n) ∧ (∀ n : Fin 8, s.slots[n].state ≠ .attached) ∧ status = .ok)) →
      ∃ w : State, exec (.cycleStart ack) s = .next (settle (holdBoundary s.arb.owner w)) ∧
        ChangesMade (fun m => match init with
            | .channel n => decide (m = s.channels[n].owner)
            | _ => false)
          (resultTaken init (endedWithout status a) { s with arb := { s.arb with owner := .none } }) w

/-- O25. CYCLE_WAIT_END and READY_TIMEOUT (R14, R18, R20, R22, R25, R94 to R96, R166): the cycle enters RECOVERY with
its WAIT clocks and its data; a write into an image window stores its bytes, timed out or not, and no other byte of
image memory changes; the cycle is presented to the watch units with the bytes it carried. Image memory has no ready
line, and a timeout needs a slot that can hold ready low. The model's choices here: the sender's event says when the
data is taken and W is its operand (log entry 7), an event that the state rules out (13), the bytes of a transfer
within one slot (4), a timed-out write and the marks of a VERIFY transfer (22), the bytes of a transfer whose owner
slot closes during the cycle (37). -/
def Obligations.CycleTakesItsData : Prop :=
  (∀ (waits : Nat) (lines : CardLines) (s : State),
    (∀ c, s.planner.cycle = some c → c.phase = .recovery ∨ c.kind = .refresh) →
      exec (.cycleWaitEnd waits lines) s = .next s ∧ exec (.readyTimeout lines) s = .next s) ∧
  ∀ (waits : Nat) (lines : CardLines) (s : State) (c : Cycle), s.planner.cycle = some c → c.phase ≠ .recovery →
    c.kind ≠ .refresh →
      (∃ t : State, exec (.cycleWaitEnd waits lines) s = .next t ∧
        DataTaken (if c.target = .image ∧ c.cardSide = none then 0 else min waits c.limit) false lines s c t) ∧
      (CanWait s c → ∃ t : State, exec (.readyTimeout lines) s = .next t ∧ DataTaken c.limit true lines s c t) ∧
      (¬ CanWait s c → exec (.readyTimeout lines) s = .next s)

/-- O26. CYCLE_END (R1, R13, R15, R21, R22, R33, R34, R43, R44, R62, R72, R95, R135): the cycle ends with its length
counted; a watch unit's hold request is made; the initiator takes the outcome of the cycle (an access of the queue, of
a channel or of a service, or a PROBE), and a CLEAR that waited for it takes effect (R89); slot changes and settings 1
and 3 that waited take effect, each slot's change with its SLOT_CHANGE notice; the hold or the arbiter decides. Log
entry 17 (DEDUCED) gives the order of these effects, 35 keeps the ISOLATE of an owner waiting for its whole transfer,
33 takes the slots in order, and an event that the state rules out changes nothing (13). -/
def Obligations.CycleEndReachesTheBoundary : Prop :=
  (∀ s : State, (∀ c, s.planner.cycle = some c → c.phase ≠ .recovery ∨ c.kind = .refresh) →
    exec .cycleEnd s = .next s) ∧
  ∀ (s h r : State) (c : Cycle), s.planner.cycle = some c → c.phase = .recovery → c.kind ≠ .refresh →
    h = watchHeld { s with
      planner := { s.planner with
        cycle := none
        lastClocks := 1 + (if c.wide then 1 else if c.space = .mem then 3 else 4) + c.extra + c.waits + 1 }
      arb := { s.arb with owner := .none } } →
    r = (if c.kind = .probe then
        probeDone (allSlots.map fun n => if s.slots[n].state = .attached then c.samples[n] else 0xFF)
          (natByte (bitsNumber (allSlots.map fun n => c.members[n]))) c.timedOut 1 h
      else match accessOf s c.initiator, c.initiator with
        | some a, init => resultTaken init (accessAfter c a) h
        | none, .channel n => finishClears n h
        | none, _ => h) →
    ∃ w : State, ChangesMade (fun _ => true) r w ∧
      exec .cycleEnd s = .next (settle (holdBoundary s.arb.owner (settingsTaken w)))

/-- O27. Master cycles (R23, R25, R166, R176): under a cascade grant a strobe's address is resolved and a window read
fetched; at the release a window write stores its byte, the cycle is presented to the watch units with the byte on the
owner's D7-D0, with no grant left the part takes the bus back (R59, R60), and settings 1 and 3 and a watch unit's hold
that waited for this boundary take effect (R43, R44, R62). The model's choices here: 16 address bits in IO space and a
store whatever the strobe's length (log entry 26), a strobe that the state rules out (13). -/
def Obligations.MasterCyclesReachWindows : Prop :=
  (∀ (space : Space) (address : BitVec 20) (write : Bool) (s : State), s.arb.grant = none ∨ s.planner.master ≠ none →
    exec (.masterStrobeAssert space address write) s = .next s) ∧
  (∀ (space : Space) (address : BitVec 20) (write : Bool) (s : State) (n : Fin 4) (place : Nat) (found : Resolved),
    s.arb.grant = some n → s.planner.master = none →
    place = (if space = .mem then address.toNat else address.toNat % 0x10000) → found = resolve s.claims space place →
    ∀ m : MasterCycle, m =
        { channel := n, slot := s.channels[n].owner, space := space, address := place, write := write, found := found,
          fetched := if found.target = .image ∧ write = false then readByte s.image.cells found.imageOffset else 0xFF
          spent := none } →
      exec (.masterStrobeAssert space address write) s =
        .next { s with planner := { s.planner with master := some m } }) ∧
  (∀ (clocks : Nat) (data : Byte) (s : State), s.planner.master = none →
    exec (.masterStrobeRelease clocks data) s = .next s) ∧
  ∀ (clocks : Nat) (data byte : Byte) (s q : State) (m : MasterCycle), s.planner.master = some m →
    byte = (if m.found.target = .image ∧ m.write = false then
      (if m.found.extra + 1 ≤ clocks then m.fetched else 0xFF) else data) →
    q = present
      { space := m.space, address := m.address, word := false, write := m.write, data0 := byte, data1 := 0xFF,
        initiator := .master, slot := some m.slot, unclaimed := m.found.entry.isNone,
        prot := m.write && m.found.readOnly, timeout := false }
      { s with image := { s.image with cells :=
        (if m.write = true ∧ m.found.target = .image ∧ m.found.readOnly = false then
          writeByte s.image.cells m.found.imageOffset data
        else s.image.cells) } } →
    exec (.masterStrobeRelease clocks data) s = .next (settle (watchHeld (settingsTaken { q with
      planner := { s.planner with master := none }
      arb := if s.arb.grant = none then { s.arb with owner := .none, hold := .none } else s.arb })))

/-! ## Arbitration, selection, refresh -/

/-- O28. The arbiter's decision (R49 to R51, R53 to R55, R58): with the bus free, refresh comes first while any is
owed in RUN and HOLD, then in RUN the claiming channel of the lowest owner slot and, in one slot, the lowest number,
then the service engine, then the queue; the grant to a channel starts what its mode calls for. That a grant for the
second cycle of a DEMAND transfer whose owner's request is down begins no hold is log entry 14 (DEDUCED). -/
def Obligations.ArbiterGrantsByRank : Prop :=
  (∀ (s : State) (n : Fin 4), channelClaims s n = true ↔
    s.channels[n].state = .running ∧
      (s.channels[n].pulse = true ∨ s.channels[n].access ≠ none ∨
        (match s.channels[n].mode with
         | .single => requested s n s.channels[n].owner = true
         | .demand => requested s n s.channels[n].owner = true
         | .block => s.channels[n].blockRun = true
         | .cascade => requested s n s.channels[n].owner = true ∧
             (s.arb.timerChannel = none ∨ s.arb.timerChannel = some n)))) ∧
  (∀ s : State, ¬ freeBus s → arbDecide s = s) ∧
  (∀ s : State, freeBus s → 0 < s.arb.owed → (s.bus.state = .run ∨ s.bus.state = .hold) →
    arbDecide s = { s with arb := { s.arb with owner := .refresh } }) ∧
  (∀ (s : State) (n : Fin 4) (c : Channel), freeBus s → s.arb.owed = 0 → s.bus.state = .run → s.channels[n] = c →
    channelClaims s n = true →
    (∀ m : Fin 4, m ≠ n → channelClaims s m = true →
      c.owner < s.channels[m].owner ∨ (c.owner = s.channels[m].owner ∧ n < m)) →
    arbDecide s = { s with arb :=
      match c.mode with
      | .cascade => { s.arb with
          owner := .master n, hold := .cascade n, grant := some n
          timerChannel := some (s.arb.timerChannel.getD n)
          timerElapsed := if s.arb.timerChannel = none then 0 else s.arb.timerElapsed
          timerLimit := if s.arb.timerChannel = none then s.settings.masterLimit else s.arb.timerLimit }
      | .single => { s.arb with owner := .channel n }
      | .demand =>
        if requested s n c.owner then { s.arb with
          owner := .channel n, hold := .demand n, holdEnding := false, burst := 0, burstLimit := s.settings.burstLimit }
        else { s.arb with owner := .channel n }
      | .block =>
        if c.blockRun then { s.arb with owner := .channel n, hold := .block n, holdEnding := false }
        else { s.arb with owner := .channel n } }) ∧
  (∀ s : State, freeBus s → (s.bus.state = .run ∨ s.bus.state = .hold ∨ s.bus.state = .stop) →
    (0 < s.arb.owed → s.bus.state = .stop) → (s.bus.state = .run → ∀ n : Fin 4, channelClaims s n = false) →
    arbDecide s =
      if serviceWants s ≠ none then { s with arb := { s.arb with owner := .service } }
      else if s.queue.state = .executing then { s with arb := { s.arb with owner := .queue } }
      else s) ∧
  ∀ s : State, (s.bus.state = .off ∨ s.bus.state = .resetting ∨ s.bus.state = .down) → arbDecide s = s

/-- O29. DEMAND and BLOCK holds at a cycle boundary (R49, R53 to R56): the hold ends when it is marked to end or its
channel claims no more; otherwise refresh that is owed takes one cycle, never two in a row, and else the channel's
next cycle is granted. A completed transfer counts against the burst limit of a DEMAND hold and marks the hold to end
at that limit, at terminal count, and in DEMAND when the request is down. That a hold ends when its channel claims no
more, also after a refresh cycle it let in, and that a second cycle to come counts as a claim, is log entry 14; that
the burst count stops at 256 is log entry 32 (both DEDUCED). A terminal count without auto-reload ends the hold in
DmaTransferStepsItsChannel. -/
def Obligations.HoldsGoOnOrEnd : Prop :=
  (∀ (s : State) (n : Fin 4), holdClaims s n = true ↔
    s.channels[n].state = .running ∧
      (s.channels[n].access ≠ none ∨
        (match s.channels[n].mode with
         | .single => requested s n s.channels[n].owner = true
         | .demand => requested s n s.channels[n].owner = true
         | .block => s.channels[n].blockRun = true
         | .cascade => requested s n s.channels[n].owner = true ∧
             (s.arb.timerChannel = none ∨ s.arb.timerChannel = some n)))) ∧
  (∀ (previous : Owner) (s : State), (s.arb.hold = .none ∨ ∃ n, s.arb.hold = .cascade n) →
    holdBoundary previous s = s) ∧
  (∀ (previous : Owner) (s : State) (n : Fin 4), (s.arb.hold = .demand n ∨ s.arb.hold = .block n) →
    ((s.arb.holdEnding = true ∨ holdClaims s n = false) →
      holdBoundary previous s =
        { s with arb := { s.arb with owner := .none, hold := .none, holdEnding := false, burst := 0 } }) ∧
    (s.arb.holdEnding = false → holdClaims s n = true → 0 < s.arb.owed → previous ≠ .refresh →
      holdBoundary previous s = { s with arb := { s.arb with owner := .refresh } }) ∧
    (s.arb.holdEnding = false → holdClaims s n = true → (s.arb.owed = 0 ∨ previous = .refresh) →
      holdBoundary previous s = { s with arb := { s.arb with owner := .channel n } })) ∧
  ∀ (n : Fin 4) (a : Access) (s : State), a.status = .ok →
    (a.terminal = false ∨ s.channels[n].autoReload = true) →
    (transferDone n a s).arb = transferCounted n a.terminal s

/-- O30. What lets work go on after a command (R71, R113, R132 to R134, R137, R148): the queue starts its oldest
operation, the idle engine selects the eligible source that stands first, a service of no steps ends as it is selected
and the next selection follows (R134), and nothing at all happens in OFF, RESETTING and DOWN. The order of queue,
engine and arbiter at one instant is log entry 17 (DEDUCED). -/
def Obligations.SettleLetsWorkGoOn : Prop :=
  (∀ s : State, settle s = arbDecide (serviceSelect (startOps s)) ∧
    Touches [.queue, .link, .engine, .lineSlots, .timers, .capture, .arb] s (settle s)) ∧
  (∀ s : State, (s.bus.state = .off ∨ s.bus.state = .resetting ∨ s.bus.state = .down) → settle s = s) ∧
  (∀ (s : State) (op : OpRecord) (rest : List OpRecord), s.queue.state = .idle → s.queue.ops = op :: rest →
    (s.bus.state = .run ∨ s.bus.state = .hold ∨ s.bus.state = .stop) →
    (∀ n limit, op.kind = .waitDma n limit → s.channels[n].finished = false ∧ s.channels[n].state = .running) →
      startOps s = { s with queue :=
        match op.kind with
        | .access _ _ _ _ _ _ _ => { s.queue with state := .executing }
        | .probe _ => { s.queue with state := .executing }
        | .pause micros => { s.queue with state := .pausing, pauseLeft := micros }
        | .waitDma _ limit => { s.queue with state := .waitingDma, waitLeft := limit * 100 } }) ∧
  (∀ s : State, s.engine.state ≠ .idle → serviceSelect s = s) ∧
  (∀ s : State, (∀ src, ¬ eligibleSource s src) → serviceSelect s = s) ∧
  ∀ (s : State) (src : Source), s.engine.state = .idle → eligibleSource s src →
    (∀ other, eligibleSource s other → sourceRank s src ≤ sourceRank s other) →
      selected s = some src ∧
      (stepsOf s (boundEntry s src) = [] → ∀ u : State,
        u = { s with
          lineSlots := match src with
            | .lineSlot l n =>
              upd s.lineSlots l fun row => upd row n fun x => { x with pending := false, inService := true }
            | _ => s.lineSlots
          timers := match src with
            | .timer n => upd s.timers n fun t => { t with pending := false, inService := true }
            | _ => s.timers
          engine := { resetEngine with
            state := .serving, source := some src, entry := some (boundEntry s src), start := s.timeBase
            held := decide (s.bus.state = .hold) } } →
        serviceSelect s = serviceSelect (finishService u)) ∧
      ∀ (st : Step) (more : List Step), stepsOf s (boundEntry s src) = st :: more →
        Touches [.engine, .lineSlots, .timers] s (serviceSelect s) ∧
        (serviceSelect s).engine = { resetEngine with
          state := .serving, source := some src, entry := some (boundEntry s src), start := s.timeBase
          held := decide (s.bus.state = .hold)
          delayLeft := match st with
            | .delay micros => micros
            | _ => 0 } ∧
        (∀ l n, src = .lineSlot l n → (serviceSelect s).timers = s.timers ∧
          ∀ (l' : Fin 12) (n' : Fin 8), (serviceSelect s).lineSlots[l'][n'] =
            if l' = l ∧ n' = n then { s.lineSlots[l][n] with pending := false, inService := true }
            else s.lineSlots[l'][n']) ∧
        ∀ n, src = .timer n → (serviceSelect s).lineSlots = s.lineSlots ∧
          (serviceSelect s).timers = upd s.timers n (fun t => { t with pending := false, inService := true })

/-- O31. REFRESH_INTERVAL_EXPIRY and REFRESH_CYCLE_END (R62 to R64): each expiry raises refresh owed up to 16, with
one REFRESH_SHORT notice when it gets there, and above that counts as lost; each refresh cycle of 5 clocks pays one
and advances the row, and its end is a cycle boundary like any other (R1, R43, R44). Log entry 17 (DEDUCED) gives the
order at that boundary, 35 (DEDUCED) keeps the ISOLATE of the owner of a transfer in two cycles waiting over it, 33
takes the slots in order; an expiry is acted on whatever the count, and an event that the state rules out changes
nothing (log entry 13, DESIGN CHOICE). -/
def Obligations.RefreshIsOwedAndPaid : Prop :=
  (∀ s : State, ((s.bus.state ≠ .run ∧ s.bus.state ≠ .hold) ∨ s.arb.intervalUse = 0) →
    exec .refreshIntervalExpiry s = .next s) ∧
  (∀ s : State, (s.bus.state = .run ∨ s.bus.state = .hold) → s.arb.intervalUse ≠ 0 →
    exec .refreshIntervalExpiry s = .next (settle
      (if 16 ≤ s.arb.owed then { s with arb := { s.arb with interval := 0, lost := min 65535 (s.arb.lost + 1) } }
       else if s.arb.owed = 15 ∧ s.arb.shortReported = false then
         notice 7 (16 :: bytes2 s.arb.lost)
           { s with arb := { s.arb with interval := 0, owed := 16, shortReported := true } }
       else { s with arb := { s.arb with interval := 0, owed := s.arb.owed + 1 } }))) ∧
  (∀ s : State, (∀ c, s.planner.cycle = some c → c.kind ≠ .refresh) → exec .refreshCycleEnd s = .next s) ∧
  ∀ (s h r : State) (c : Cycle), s.planner.cycle = some c → c.kind = .refresh →
    h = watchHeld { s with
      planner := { s.planner with cycle := none, lastClocks := 5 }, arb := { s.arb with owner := .none } } →
    r = { h with arb := { h.arb with
      owed := s.arb.owed - 1, row := s.arb.row + 1
      shortReported := if s.arb.owed ≤ 1 then false else s.arb.shortReported } } →
    ∃ w : State, ChangesMade (fun _ => true) r w ∧
      exec .refreshCycleEnd s = .next (settle (holdBoundary s.arb.owner (settingsTaken w)))

/-- O32. HOLD_TIMER_EXPIRY (R36, R59, R61): the cascade grant ends, the timer stops, the channel faults with
HOLD_LIMIT, its owner slot is FAULTED with a cycle to it marked (R21) and its master cycle cut, and the departure
reaches the slot's other channels and its line-slots. The model's choices here: a pending ISOLATE is made from
FAULTED, at once unless a driven cycle runs (log entry 15), an expiry is acted on whatever the count and changes
nothing where the state rules it out (13), only the grant and the hold of that channel end (23), the order among
channels (33), settings in force at the cut (1). -/
def Obligations.HoldTimerExpiryFaults : Prop :=
  (∀ s : State, (s.arb.timerChannel = none ∨ s.arb.timerLimit = 0) → exec .holdTimerExpiry s = .next s) ∧
  ∀ (s base : State) (n : Fin 4) (slot : Fin 8) (moves : Bool), s.arb.timerChannel = some n → s.arb.timerLimit ≠ 0 →
    slot = s.channels[n].owner → moves = decide (s.slots[slot].change ≠ .none ∧ s.planner.cycle = none) →
    base = (if s.channels[n].state = .running then
      tellQueue n (notice 2 ([natByte n.val, 4, natByte slot.val, natByte s.channels[n].page.val] ++
        bytes2 s.channels[n].offset.toNat ++ bytes2 s.channels[n].count.toNat) s) else s) →
    ∀ gone after : Arbiter,
    gone = { s.arb with
      grant := if s.arb.grant = some n then none else s.arb.grant
      hold := if s.arb.hold = .cascade n then .none else s.arb.hold } →
    after = (if s.channels[n].state = .running then
      letsGo n s.planner.cycle.isSome s.planner.master.isSome gone else gone) →
    ∃ t : State, exec .holdTimerExpiry s = .next (settle t) ∧
      Touches [.slots, .planner, .arb, .bus, .link, .lineSlots, .channels, .queue] s t ∧
      t.arb.timerChannel = none ∧ t.arb.timerElapsed = 0 ∧ t.arb.grant ≠ some n ∧ t.arb.hold ≠ .cascade n ∧
      t.arb.owner ≠ .master n ∧
      t.channels[n] =
        (if s.channels[n].state = .running then stopped s.channels[n] .faulted .holdLimit else s.channels[n]) ∧
      (s.slots[slot].state = .attached →
        (∀ k : Fin 8, k ≠ slot → t.slots[k] = s.slots[k]) ∧
        (moves = false → t.slots[slot] = { s.slots[slot] with state := .faulted, fault := .holdLimit }) ∧
        (moves → s.slots[slot].change = .isolate →
          t.slots[slot] = { s.slots[slot] with state := .isolated, fault := .none, change := .none, waiting := [] }) ∧
        (moves → s.slots[slot].change = .attach →
          t.slots[slot] =
            { s.slots[slot] with state := .faulted, fault := .holdLimit, change := .none, waiting := [] }) ∧
        (∀ m : Fin 4, m ≠ n → t.channels[m] =
          if s.channels[m].state = .running ∧ s.channels[m].owner = slot then ownerGone s m else s.channels[m]) ∧
        (∀ (l : Fin 12) (k : Fin 8), t.lineSlots[l][k] =
          if k = slot then quietLine s.lineSlots[l][k] else s.lineSlots[l][k]) ∧
        t.planner = { s.planner with
          cycle := s.planner.cycle.map (fun c => if c.target = .slot slot then { c with lost := true } else c)
          master := match s.planner.master with
            | some m => if m.slot = slot then none else some m
            | none => none } ∧
        ((∀ m, s.planner.master = some m → m.slot ≠ slot) → t.bus = s.bus) ∧
        (∀ m, s.planner.master = some m → m.slot = slot → t.bus = { s.bus with clock := s.settings.clock }) ∧
        ∀ others told : State,
          others = { s with channels := upd s.channels n fun c =>
            if c.state = .running then stopped c .faulted .holdLimit else c } →
          told = departureTold slot others (notice 5 [natByte slot.val, 2, 3, 2] { base with arb := after }) →
          t.queue = told.queue ∧
          t.arb = { told.arb with
            timerChannel := none, timerElapsed := 0
            owner := if told.arb.owner = .master n then .none else told.arb.owner } ∧
          t.link =
            (if moves then
              (if s.slots[slot].change = .isolate then
                sendAll (answers 0x86 [0, 1] s.slots[slot].waiting) (notice 5 [natByte slot.val, 3, 1, 1] told)
               else sendAll (answers 0x86 [4, 3] s.slots[slot].waiting) told)
             else told).link) ∧
      (s.slots[slot].state ≠ .attached →
        t.slots = s.slots ∧ t.lineSlots = s.lineSlots ∧ t.planner = s.planner ∧ t.bus = s.bus ∧
        (∀ m : Fin 4, m ≠ n → t.channels[m] = s.channels[m]) ∧
        t.link = base.link ∧ t.queue = base.queue ∧
        t.arb = { after with
          timerChannel := none, timerElapsed := 0
          owner := if after.owner = .master n then .none else after.owner })

/-! ## Host operations -/

/-- O33. OPS (R67 to R70): a payload that spells no OPS frame is refused with BAD_REQUEST; a frame that does is
refused in OFF and DOWN, then for a field out of range, then for want of room, and otherwise joins the queue without a
reply. That byte 7 of a WAIT_DMA record is not read is log entry 12 (DESIGN CHOICE). -/
def Obligations.OpsFramesAreCheckedAndQueued : Prop :=
  (∀ (tag : Byte) (payload : List Byte) (s : State), Listening s → payload.length ≤ 1024 →
    (∀ stop ops, ¬ SpellsOps payload stop ops) → exec (.ops tag payload) s = .next (answered 0x88 tag [2, 0] s)) ∧
  (∀ (tag : Byte) (payload : List Byte) (stop : Bool) (ops : List RawOp) (s : State), Listening s →
    payload.length ≤ 1024 → SpellsOps payload stop ops →
    ((s.bus.state = .off ∨ s.bus.state = .down) → exec (.ops tag payload) s = .next (answered 0x88 tag [4, 0] s)) ∧
    (s.bus.state ≠ .off → s.bus.state ≠ .down → ¬ opsFit ops →
      exec (.ops tag payload) s = .next (answered 0x88 tag [3, 0] s)) ∧
    (s.bus.state ≠ .off → s.bus.state ≠ .down → opsFit ops → 32 < s.queue.ops.length + ops.length →
      exec (.ops tag payload) s = .next (answered 0x88 tag [5, 0] s)) ∧
    (s.bus.state ≠ .off → s.bus.state ≠ .down → opsFit ops → s.queue.ops.length + ops.length ≤ 32 →
      exec (.ops tag payload) s = .next (settle { heard s with queue := { s.queue with
        ops := s.queue.ops ++ ops.zipIdx.map fun p =>
          { kind := p.1.op, frame := s.queue.nextFrame, index := p.2, done := 0, cycles := 0, flags := noFlags,
            data := [] }
        frames := s.queue.frames ++
          [{ id := s.queue.nextFrame, tag := tag, stopOnError := stop, opCount := ops.length,
             adjusted := ops.any fun r => decide (r.kind = 6 ∧ r.address = 0), wanted := true, results := [] }]
        nextFrame := s.queue.nextFrame + 1 } }))) ∧
  ∀ r : RawOp,
    (r.kind = 1 → r.op = .access .mem false r.address (decide (r.width = 2)) (if r.times = 0 then 256 else r.times.toNat)
      (decide (r.step = 1)) []) ∧
    (r.kind = 2 → r.op = .access .mem true r.address (decide (r.width = 2)) (if r.times = 0 then 256 else r.times.toNat)
      (decide (r.step = 1)) r.data) ∧
    (r.kind = 3 → r.op = .access .io false r.address (decide (r.width = 2)) (if r.times = 0 then 256 else r.times.toNat)
      (decide (r.step = 1)) []) ∧
    (r.kind = 4 → r.op = .access .io true r.address (decide (r.width = 2)) (if r.times = 0 then 256 else r.times.toNat)
      (decide (r.step = 1)) r.data) ∧
    (r.kind = 5 → r.op = .probe r.address) ∧
    (r.kind = 6 → r.op = .pause (max 1 r.address)) ∧
    ∀ n : Fin 4, r.kind = 7 → r.a0.toNat = n.val → r.op = .waitDma n (r.a1.toNat + 256 * r.a2.toNat)

/-- O34. The end of an operation (R72, R73, R75 to R78): PAUSE_EXPIRY ends a PAUSE with OK and WAIT_DMA_TIMEOUT a
WAIT_DMA with TIMEOUT, unless the channel ended that wait first (R76); an access that ends OK steps its operation or
ends it, another ends it with its status. The result is filed with its own frame, read data filled to its length, an
error skips the rest of a STOP_ON_ERROR frame, and each frame whose last result is in is answered, the oldest first.
That an expiry is acted on whatever the count, and changes nothing where the state rules it out, is log entry 13
(DESIGN CHOICE). -/
def Obligations.OperationsEndWithTheirResults : Prop :=
  (∀ s : State, exec .pauseExpiry s = .next (if s.queue.state = .pausing then settle (endOp .ok s) else s)) ∧
  (∀ s : State, exec .waitDmaTimeout s = .next
    (if s.queue.overtaken then { s with queue := { s.queue with overtaken := false } }
     else if s.queue.state = .waitingDma then settle (endOp .timeout s) else s)) ∧
  (∀ (a : Access) (s : State) (op next : OpRecord) (rest : List OpRecord), s.queue.ops = op :: rest →
    next = { op with
      done := op.done + 1, cycles := op.cycles + a.cycles
      flags :=
        { unclaimed := op.flags.unclaimed || a.flags.unclaimed, prot := op.flags.prot || a.flags.prot,
          narrowed := op.flags.narrowed || a.flags.narrowed }
      data := op.data ++
        (if a.write then [] else if a.word then [a.lowResult.value, a.highResult.value] else [a.lowResult.value]) } →
    ∀ taken : State, taken = { s with queue := { s.queue with ops := next :: rest, access := none } } →
    queueAccessDone a s =
      match a.status with
      | .ok => if (next.kind.access? next.done).isSome then taken else endOp .ok taken
      | .timeout => endOp .timeout taken
      | .blocked => endOp .blocked taken) ∧
  ∀ (st : OpStatus) (s : State) (op : OpRecord) (rest : List OpRecord) (stops : Bool) (filed : List OpenFrame),
    s.queue.ops = op :: rest →
    (stops = true ↔ (st = .timeout ∨ st = .blocked) ∧
      ∃ f ∈ s.queue.frames, f.id = op.frame ∧ f.stopOnError = true) →
    filed = s.queue.frames.map (fun f =>
      if f.id = op.frame then
        { f with results := f.results ++ endedResult st op ::
          (if stops then (rest.filter fun r => decide (r.frame = op.frame)).map (endedResult .skipped) else []) }
      else f) →
    endOp st s =
      sendAll ((filed.filter fun f => decide (f.opCount ≤ f.results.length)).map fun f => opsReply f f.results).flatten
        { s with queue := { s.queue with
          ops := if stops then rest.filter (fun r => decide (r.frame ≠ op.frame)) else rest
          frames := filed.filter fun f => decide (f.results.length < f.opCount)
          state := .idle, pauseLeft := 0, waitLeft := 0, access := none } }

/-- O35. What the queue does with the ends that others report: the end of a PROBE (R22, R74); the channel of a
WAIT_DMA that sets Done or leaves RUNNING, told by a terminal count, a fault or a CLEAR, with the expiry that is due
at that instant marked as overtaken (R76); a WAIT_DMA that is over as it starts (R76); the accesses of an operation,
stepped through its addresses (R67, R72); and the flush (R80). -/
def Obligations.QueueTakesWhatOthersEnd : Prop :=
  (∀ (samples : List Byte) (bitmap : Byte) (timedOut : Bool) (cycles : Nat) (s : State) (op : OpRecord)
    (rest : List OpRecord), s.queue.ops = op :: rest →
    probeDone samples bitmap timedOut cycles s =
      endOp (if timedOut then .timeout else .ok) { s with queue := { s.queue with
        ops := { op with done := 1, cycles := cycles, data := samples ++ [bitmap] } :: rest } }) ∧
  (∀ (n : Fin 4) (s : State),
    (∀ (op : OpRecord) (rest : List OpRecord) (limit : Nat), s.queue.state = .waitingDma → s.queue.ops = op :: rest →
      op.kind = .waitDma n limit →
      tellQueue n s = endOp .ok { s with queue := { s.queue with
        overtaken := s.queue.overtaken || decide (s.queue.waitLeft = 0) } }) ∧
    ((s.queue.state ≠ .waitingDma ∨
        ∀ (op : OpRecord) (limit : Nat), s.queue.ops.head? = some op → op.kind ≠ .waitDma n limit) →
      tellQueue n s = s)) ∧
  (∀ (n : Fin 4) (s : State) (cause : DmaCause) (a : Access),
    (faultChannel n cause s).queue =
      (if s.channels[n].state = .running then (tellQueue n s).queue else s.queue) ∧
    (clearChannel n s).queue = (if s.channels[n].state = .running then (tellQueue n s).queue else s.queue) ∧
    (a.status = .ok → (transferDone n a s).queue = if a.terminal then (tellQueue n s).queue else s.queue)) ∧
  (∀ (s : State) (op : OpRecord) (rest : List OpRecord) (n : Fin 4) (limit : Nat), s.queue.state = .idle →
    s.queue.ops = op :: rest → op.kind = .waitDma n limit →
    (s.bus.state = .run ∨ s.bus.state = .hold ∨ s.bus.state = .stop) →
    (s.channels[n].finished = true ∨ s.channels[n].state ≠ .running) →
      startOps s = startOps (endOp .ok s)) ∧
  (∀ (s : State) (op : OpRecord) (rest : List OpRecord), s.queue.ops = op :: rest →
    (s.queue.state = .executing → queueWants s = op.kind.access? op.done) ∧
    (s.queue.state ≠ .executing → queueWants s = none)) ∧
  (∀ (space : Space) (write word fixed : Bool) (address times k : Nat) (data : List Byte) (w size : Nat),
    w = (if word then 2 else 1) → size = (if space = .mem then 0x100000 else 0x10000) →
    (OpKind.access space write address word times fixed data).access? k =
      if k < times then
        some { space := space, address := (if fixed then address else address + k * w) % size, word := word,
               write := write, writeLow := data.getD (k * w) 0xFF, writeHigh := data.getD (k * w + 1) 0xFF }
      else none) ∧
  ∀ s : State, flushQueue s = sendAll (flushReplies s) { s with queue := { s.queue with
    ops := [], frames := [], state := .idle, pauseLeft := 0, waitLeft := 0, access := none } }

/-! ## DMA channels -/

/-- O36. DMA_MODE, DMA_ADDR and DMA_COUNT (R85 to R87): the checks in order, and what an accepted request writes. That
DMA_MODE ignores the six other bits of its options byte is log entry 12 (DESIGN CHOICE). -/
def Obligations.DmaModeAndPhasesLoad : Prop :=
  (∀ (tag channel mode direction owner options : Byte) (s : State), Listening s →
    ((4 ≤ mode.toNat ∨ 3 ≤ direction.toNat) →
      exec (.dmaMode tag channel mode direction owner options) s = .next (answered 0x89 tag [2] s)) ∧
    (mode.toNat < 4 → direction.toNat < 3 → (4 ≤ channel.toNat ∨ 8 ≤ owner.toNat) →
      exec (.dmaMode tag channel mode direction owner options) s = .next (answered 0x89 tag [3] s)) ∧
    ∀ (m : DmaMode) (d : DmaDirection) (n : Fin 4) (slot : Fin 8), m.code = mode → d.code = direction →
      channel.toNat = n.val → owner.toNat = slot.val →
      exec (.dmaMode tag channel mode direction owner options) s =
        .next (if s.channels[n].state = .running then answered 0x89 tag [5] s
          else answered 0x89 tag [0] { s with channels := upd s.channels n fun c =>
            { c with
              mode := m, direction := d, owner := slot, recordEnd := options.getLsbD 0,
              autoReload := options.getLsbD 1, stray := 0 } })) ∧
  (∀ (tag channel page step : Byte) (offset : Word16) (s : State), Listening s →
    (2 ≤ step.toNat → exec (.dmaAddr tag channel page offset step) s = .next (answered 0x8A tag [2] s)) ∧
    (step.toNat < 2 → (4 ≤ channel.toNat ∨ 16 ≤ page.toNat) →
      exec (.dmaAddr tag channel page offset step) s = .next (answered 0x8A tag [3] s)) ∧
    ∀ (n : Fin 4) (p : Fin 16) (kept : Word16), step.toNat < 2 → channel.toNat = n.val → page.toNat = p.val →
      kept = (if 2 ≤ n.val then offset &&& 0xFFFE else offset) →
      exec (.dmaAddr tag channel page offset step) s =
        .next (if s.channels[n].state = .running then answered 0x8A tag [5] s
          else answered 0x8A tag [if kept = offset then 0 else 1] { s with channels := upd s.channels n fun c =>
            { c with
              page := p, basePage := p, offset := kept, baseOffset := kept, down := decide (step = 1),
              addressLoaded := true, finished := false, state := if c.countLoaded then .loaded else .idle } })) ∧
  ∀ (tag channel : Byte) (count : Word24) (s : State), Listening s →
    ((4 ≤ channel.toNat ∨ count.toNat = 0 ∨ 65536 < count.toNat) →
      exec (.dmaCount tag channel count) s = .next (answered 0x8B tag [3] s)) ∧
    ∀ n : Fin 4, channel.toNat = n.val → 1 ≤ count.toNat → count.toNat ≤ 65536 →
      exec (.dmaCount tag channel count) s =
        .next (if s.channels[n].state = .running then answered 0x8B tag [5] s
          else answered 0x8B tag [0] { s with channels := upd s.channels n fun c =>
            { c with
              count := BitVec.ofNat 16 ((65536 - count.toNat) % 65536)
              baseCount := BitVec.ofNat 16 ((65536 - count.toNat) % 65536)
              countLoaded := true, finished := false, state := if c.addressLoaded then .loaded else .idle } })

/-- O37. DMA_CMD START (R88): taken in RUN, HOLD and STOP from a LOADED channel, or a DONE one with auto-reload, whose
owner slot is ATTACHED. That a BLOCK channel's run begins with START when the owner already requests is R196 against
the words of R88, log entry 28, and that the reply joins the list ahead of what settle does is log entry 9 (both
DEDUCED: the model's reading). -/
def Obligations.DmaStartRuns : Prop :=
  (∀ (tag channel : Byte) (s : State), Listening s → 4 ≤ channel.toNat →
    exec (.dmaStart tag channel) s = .next (answered 0x8C tag [3] s)) ∧
  ∀ (tag : Byte) (n : Fin 4) (s : State) (c : Channel), Listening s → s.channels[n] = c →
    ((s.bus.state = .off ∨ s.bus.state = .resetting ∨ s.bus.state = .down ∨
        (c.state ≠ .loaded ∧ (c.state ≠ .done ∨ c.autoReload = false)) ∨ s.slots[c.owner].state ≠ .attached) →
      exec (.dmaStart tag (natByte n.val)) s = .next (answered 0x8C tag [4] s)) ∧
    ((s.bus.state = .run ∨ s.bus.state = .hold ∨ s.bus.state = .stop) →
      (c.state = .loaded ∨ (c.state = .done ∧ c.autoReload = true)) → s.slots[c.owner].state = .attached →
      exec (.dmaStart tag (natByte n.val)) s = .next (settle (answered 0x8C tag [0, 2]
        { s with channels := upd s.channels n fun c =>
          { c with
            page := if c.state = .done then c.basePage else c.page
            offset := if c.state = .done then c.baseOffset else c.offset
            count := if c.state = .done then c.baseCount else c.count
            addressLoaded := c.addressLoaded || decide (c.state = .done)
            countLoaded := c.countLoaded || decide (c.state = .done)
            state := .running, finished := false, cause := .none, runFlags := noFlags, pulse := false
            blockRun := decide (c.mode = .block) && s.cards[c.owner].requests[n] } })))

/-- O38. A DMA transfer's access has ended (R90, R95, R97 to R101, R103): a completed transfer steps offset and count;
the terminal count transfer sets Done, hands the DMA_END record over if record-on-end is on, sends DMA_DONE, and
reloads the channel or leaves it in DONE; a failed one faults the channel with its DMA_FAULT notice (R103). Where the
channel leaves RUNNING its hold ends (R56) and the rest of the arbiter stays; the queue is told once (R76). That only
a transfer begun with a pulse pending consumes it is log entry 14, and that a BLOCK run begins at a reload whose owner
requests is log entry 28 with R196 (both DEDUCED). -/
def Obligations.DmaTransferStepsItsChannel : Prop :=
  (∀ (n : Fin 4) (a : Access) (s : State) (c d : Channel), s.channels[n] = c → a.status = .ok →
    d = { c with
      offset := if c.down then c.offset - (if 2 ≤ n.val then 2 else 1) else c.offset + (if 2 ≤ n.val then 2 else 1)
      count := c.count + 1
      runFlags :=
        { unclaimed := c.runFlags.unclaimed || a.flags.unclaimed, prot := c.runFlags.prot || a.flags.prot,
          narrowed := c.runFlags.narrowed || a.flags.narrowed }
      pulse := c.pulse && !a.pulsed, access := none } →
    (∀ m : Fin 4, m ≠ n → (transferDone n a s).channels[m] = s.channels[m]) ∧
    (a.terminal = false →
      (transferDone n a s).channels[n] = d ∧ Touches [.channels, .arb] s (transferDone n a s)) ∧
    (a.terminal = true → ∀ r : Record,
      r = { source := .channel n, slot := some d.owner,
            flags := { noRecordFlags with
              unclaimed := d.runFlags.unclaimed, prot := d.runFlags.prot, narrowed := d.runFlags.narrowed,
              reload := d.autoReload },
            sequence := 0, time := s.timeBase, coalesced := 0, lost := 0, firstFail := none, entry := none,
            steps := none, data := natByte d.page.val :: (bytes2 d.offset.toNat ++ bytes2 d.count.toNat) } →
      Touches [.channels, .arb, .link, .queue, .capture] s (transferDone n a s) ∧
      (transferDone n a s).capture = (if c.recordEnd then handRecord r s else s).capture ∧
      (∀ told : State, told = tellQueue n (notice 1 ([natByte n.val, natByte d.owner.val, natByte d.page.val] ++
          bytes2 d.offset.toNat ++ [if c.autoReload then 1 else 0]) (if c.recordEnd then handRecord r s else s)) →
        (transferDone n a s).link = told.link ∧ (transferDone n a s).queue = told.queue) ∧
      (c.autoReload = true → (transferDone n a s).channels[n] = { d with
        finished := true, page := c.basePage, offset := c.baseOffset, count := c.baseCount, runFlags := noFlags,
        blockRun := decide (c.mode = .block) && requested s n c.owner }) ∧
      (c.autoReload = false →
        (transferDone n a s).channels[n] = stopped { d with finished := true } .done c.cause ∧
          (transferDone n a s).arb = letGo n { s with arb := transferCounted n true s }))) ∧
  ∀ (n : Fin 4) (a : Access) (s : State) (cause : DmaCause), s.channels[n].state = .running → a.status ≠ .ok →
    cause = (if a.status = .timeout then .timeout else .blocked) →
    (transferDone n a s).channels[n] = stopped s.channels[n] .faulted cause ∧
    (∀ m : Fin 4, m ≠ n → (transferDone n a s).channels[m] = s.channels[m]) ∧
    (transferDone n a s).arb = letGo n s ∧ Touches [.channels, .arb, .link, .queue] s (transferDone n a s) ∧
    ∀ told : State, told = tellQueue n (notice 2 ([natByte n.val, cause.code, natByte s.channels[n].owner.val,
        natByte s.channels[n].page.val] ++ bytes2 s.channels[n].offset.toNat ++
        bytes2 s.channels[n].count.toNat) s) →
      (transferDone n a s).link = told.link ∧ (transferDone n a s).queue = told.queue

/-- O39. DMA_CMD CLEAR and PULSE (R89, R90). A CLEAR during a transfer waits for its end, and then takes effect and
answers every CLEAR that waited: the last clauses. A CLEAR ends the channel's hold, a grant not begun, and a cascade
grant with its timer (R52, R56, R59), tells the queue of a RUNNING channel (R76), and changes nothing else. That the
reply joins the list ahead of what settle does is log entry 9 (DEDUCED). -/
def Obligations.DmaClearAndPulseAct : Prop :=
  (∀ (tag channel : Byte) (s : State), Listening s → 4 ≤ channel.toNat →
    exec (.dmaClear tag channel) s = .next (answered 0x8C tag [3] s) ∧
    exec (.dmaPulse tag channel) s = .next (answered 0x8C tag [3] s)) ∧
  (∀ (tag : Byte) (n : Fin 4) (s : State), Listening s →
    ((s.channels[n].state ≠ .running ∨ s.channels[n].mode = .cascade) →
      exec (.dmaPulse tag (natByte n.val)) s = .next (answered 0x8C tag [4] s)) ∧
    (s.channels[n].state = .running → s.channels[n].mode ≠ .cascade →
      exec (.dmaPulse tag (natByte n.val)) s =
        .next (if s.channels[n].pulse then answered 0x8C tag [5] s
          else settle (answered 0x8C tag [0, 2]
            { s with channels := upd s.channels n fun c => { c with pulse := true } })))) ∧
  (∀ (tag : Byte) (n : Fin 4) (s : State), Listening s →
    (s.channels[n].access ≠ none ∨ (∃ c, s.planner.cycle = some c ∧ c.initiator = .channel n)) →
      exec (.dmaClear tag (natByte n.val)) s =
        .next { heard s with channels := upd s.channels n fun c =>
          { c with waiting := c.waiting ++ [{ tag := tag, wanted := true }] } }) ∧
  (∀ (tag : Byte) (n : Fin 4) (s : State), Listening s → s.channels[n].access = none →
    (∀ c, s.planner.cycle = some c → c.initiator ≠ .channel n) →
      exec (.dmaClear tag (natByte n.val)) s =
        .next (settle (withReply 0x8C tag [0, 0] (clearChannel n (heard s))))) ∧
  (∀ (n : Fin 4) (s : State),
    Touches [.channels, .arb, .link, .queue] s (clearChannel n s) ∧
    clearChannel n s = { (if s.channels[n].state = .running then tellQueue n s else s) with
      arb := letGo n s
      channels := upd s.channels n fun c => { stopped c .idle c.cause with finished := false } }) ∧
  ∀ (n : Fin 4) (s : State),
    (s.channels[n].waiting = [] → finishClears n s = s) ∧
    (s.channels[n].waiting ≠ [] → finishClears n s =
      sendAll (answers 0x8C [0, 0] s.channels[n].waiting) { clearChannel n s with
        channels := upd s.channels n fun c => { stopped c .idle c.cause with finished := false, waiting := [] } })

/-- O40. DMA_QUERY (R84, R91). -/
def Obligations.DmaQueryReports : Prop :=
  (∀ (tag channel : Byte) (s : State), Listening s → 4 ≤ channel.toNat →
    exec (.dmaQuery tag channel) s = .next (answered 0x8D tag [3] s)) ∧
  ∀ (tag : Byte) (n : Fin 4) (s : State) (c : Channel) (sub : Byte), Listening s → s.channels[n] = c →
    sub = (if c.state ≠ .running then 0xFF
      else if (∃ x, s.planner.cycle = some x ∧ x.initiator = .channel n) ∨ s.arb.hold = .demand n ∨
          s.arb.hold = .block n then 1
      else if s.arb.grant = some n then 2
      else if s.arb.timerChannel = some n ∧ requested s n c.owner = true then 3 else 0) →
    exec (.dmaQuery tag (natByte n.val)) s =
      .next (answered 0x8D tag
        ([0, c.mode.code, c.direction.code, natByte c.owner.val,
          natByte (c.recordEnd.toNat + 2 * c.autoReload.toNat), if c.down then 1 else 0,
          if 2 ≤ n.val then 1 else 0, c.state.code, sub, c.cause.code,
          natByte ((if c.state = .running then 1 else 0) + 2 * c.finished.toNat + 4 * c.addressLoaded.toNat +
            8 * c.countLoaded.toNat + 16 * c.pulse.toNat + 32 * c.blockRun.toNat),
          natByte c.page.val] ++ bytes2 c.offset.toNat ++ bytes2 c.count.toNat ++ [natByte c.basePage.val] ++
          bytes2 c.baseOffset.toNat ++ bytes2 c.baseCount.toNat ++
          bytes2 (2 * c.runFlags.unclaimed.toNat + 16 * c.runFlags.prot.toNat + 32 * c.runFlags.narrowed.toNat) ++
          [natByte c.stray]) s)

/-- O41. The channel request lines (R52, R55, R59, R92): a change of level at an ATTACHED slot is seen: the owner's
assertion starts a block run, its release ends a cascade grant (its owner and hold at once, unless a master cycle
runs) and the hold timer, and an assertion from another slot is counted as stray. A grant whose cycle has not begun
ends unused where the release withdraws its claim (R52); that this ends a hold with it is log entry 14 (DEDUCED), and
that a request already at its level changes nothing is log entry 13 (DESIGN CHOICE). -/
def Obligations.ChannelRequestsAreSeen : Prop :=
  (∀ (n : Fin 4) (slot : Fin 8) (s : State), s.cards[slot].requests[n] = true →
    exec (.channelRequestAssert n slot) s = .next s) ∧
  (∀ (n : Fin 4) (slot : Fin 8) (s driven : State), s.cards[slot].requests[n] = false →
    driven = { s with cards := upd s.cards slot fun x => { x with requests := upd x.requests n fun _ => true } } →
    exec (.channelRequestAssert n slot) s = .next
      (if s.slots[slot].state ≠ .attached then driven
       else if s.channels[n].owner = slot then
         settle (if s.channels[n].state = .running ∧ s.channels[n].mode = .block then
           { driven with channels := upd s.channels n fun c => { c with blockRun := true } } else driven)
       else { driven with channels := upd s.channels n fun c => { c with stray := min 255 (c.stray + 1) } })) ∧
  (∀ (n : Fin 4) (slot : Fin 8) (s : State), s.cards[slot].requests[n] = false →
    exec (.channelRequestDeassert n slot) s = .next s) ∧
  ∀ (n : Fin 4) (slot : Fin 8) (s driven : State), s.cards[slot].requests[n] = true →
    driven = { s with cards := upd s.cards slot fun x => { x with requests := upd x.requests n fun _ => false } } →
    ((s.slots[slot].state ≠ .attached ∨ s.channels[n].owner ≠ slot) →
      exec (.channelRequestDeassert n slot) s = .next driven) ∧
    (s.slots[slot].state = .attached → s.channels[n].owner = slot → ∀ a : Arbiter,
      a = { s.arb with
        grant := if s.arb.grant = some n then none else s.arb.grant
        owner := if s.arb.grant = some n ∧ s.planner.master = none then .none else s.arb.owner
        hold := if s.arb.grant = some n ∧ s.planner.master = none then .none else s.arb.hold
        timerChannel := if s.arb.timerChannel = some n then none else s.arb.timerChannel
        timerElapsed := if s.arb.timerChannel = some n then 0 else s.arb.timerElapsed } →
      exec (.channelRequestDeassert n slot) s = .next (settle { driven with arb :=
        (if a.owner = .channel n ∧ s.planner.cycle = none ∧ channelClaims { driven with arb := a } n = false then
          { a with owner := .none, hold := .none, holdEnding := false, burst := 0 }
        else a) }))

/-! ## Interrupt lines -/

/-- O42. LINE QUERY, CONFIGURE, CLEAR_STUCK and CLEAR_PENDING (R119 to R123): every accepted LINE request answers the
line's configuration and, for each slot, its state bits, counts and level as watched. That the reply of CONFIGURE and
CLEAR_STUCK joins the list ahead of the selection settle makes is log entry 9, what an accepted request carries is log
entry 21 (both DEDUCED), and an on/off byte other than 0 and 1 is log entry 6. -/
def Obligations.LineRequestsAct : Prop :=
  (∀ (tag line : Byte) (s : State), Listening s → 12 ≤ line.toNat →
    exec (.lineQuery tag line) s = .next (answered 0x8E tag [3] s)) ∧
  (∀ (tag : Byte) (l : Fin 12) (s : State), Listening s →
    exec (.lineQuery tag (natByte l.val)) s = .next (answered 0x8E tag (0 :: lineFields s l) s)) ∧
  (∀ (l : Fin 12) (s : State),
    lineFields s l =
      [s.lines[l].sense.code, if s.lines[l].enabled then 1 else 0, natByte s.lines[l].group.val,
        if s.lines[l].keepAlive then 1 else 0,
        match s.lines[l].entry with
        | some e => natByte e.val
        | none => 0xFF] ++
      ([0, 1, 2, 3, 4, 5, 6, 7].map fun n : Fin 8 =>
        [natByte (s.lineSlots[l][n].pending.toNat + 2 * s.lineSlots[l][n].inService.toNat +
            4 * s.lineSlots[l][n].stuck.toNat +
            8 * (decide (s.slots[n].state = .attached) &&
              (decide (s.bus.state = .run) || decide (s.bus.state = .hold) || decide (s.bus.state = .stop)) &&
              s.cards[n].lines[l]).toNat),
          natByte s.lineSlots[l][n].stillAsserted, natByte s.capture.lineCounts[l][n].coalesced,
          natByte s.capture.lineCounts[l][n].lost]).flatten) ∧
  (∀ (tag line sense enabled group keep entry : Byte) (s : State), Listening s →
    (2 ≤ sense.toNat →
      exec (.lineConfigure tag line sense enabled group keep entry) s = .next (answered 0x8E tag [2] s)) ∧
    (sense.toNat < 2 → (12 ≤ line.toNat ∨ 8 ≤ group.toNat ∨ (24 ≤ entry.toNat ∧ entry ≠ 0xFF)) →
      exec (.lineConfigure tag line sense enabled group keep entry) s = .next (answered 0x8E tag [3] s)) ∧
    ∀ (l : Fin 12) (g : Fin 8) (e : Option (Fin 24)) (c : LineConfig), sense.toNat < 2 → line.toNat = l.val →
      group.toNat = g.val → entryCode e = entry →
      c = { sense := if sense = 0 then .edge else .level, enabled := flagByte .lineEnabled enabled, group := g,
            keepAlive := flagByte .lineKeepAlive keep, entry := e } →
      ∃ t : State,
        exec (.lineConfigure tag line sense enabled group keep entry) s =
          .next (settle (answered 0x8E tag (0 :: lineFields t l) t)) ∧
        Touches [.lines, .lineSlots] s t ∧ t.lines = upd s.lines l (fun _ => c) ∧
        ∀ (k : Fin 12) (n : Fin 8), t.lineSlots[k][n] =
          if k = l ∧ s.lines[l].sense ≠ c.sense then
            { s.lineSlots[l][n] with
              stillAsserted := 0
              pending := decide (c.sense = .level) && watched s n && s.cards[n].lines[l] &&
                !s.lineSlots[l][n].inService && !s.lineSlots[l][n].stuck }
          else s.lineSlots[k][n]) ∧
  (∀ (tag line bitmap : Byte) (s : State), Listening s → 12 ≤ line.toNat →
    exec (.clearStuck tag line bitmap) s = .next (answered 0x8E tag [3] s) ∧
    exec (.clearPending tag line bitmap) s = .next (answered 0x8E tag [3] s)) ∧
  (∀ (tag bitmap : Byte) (l : Fin 12) (s : State), Listening s →
    ∃ t : State,
      exec (.clearStuck tag (natByte l.val) bitmap) s =
        .next (settle (answered 0x8E tag (0 :: lineFields t l) t)) ∧
      Touches [.lineSlots] s t ∧
      ∀ (k : Fin 12) (n : Fin 8), t.lineSlots[k][n] =
        if k = l ∧ bitmap.getLsbD n.val = true then
          { s.lineSlots[l][n] with
            stuck := false, stillAsserted := 0
            pending := s.lineSlots[l][n].pending ||
              (decide (s.lines[l].sense = .level) && watched s n && s.cards[n].lines[l] &&
                !s.lineSlots[l][n].inService) }
        else s.lineSlots[k][n]) ∧
  ∀ (tag bitmap : Byte) (l : Fin 12) (s : State), Listening s →
    ∃ t : State,
      exec (.clearPending tag (natByte l.val) bitmap) s = .next (answered 0x8E tag (0 :: lineFields t l) t) ∧
      Touches [.lineSlots] s t ∧
      ∀ (k : Fin 12) (n : Fin 8), t.lineSlots[k][n] =
        if k = l ∧ bitmap.getLsbD n.val = true then { s.lineSlots[l][n] with pending := false }
        else s.lineSlots[k][n]

/-- O43. LINE_ASSERT and LINE_DEASSERT (R109 to R112): a rising edge of a watched EDGE line sets pending or counts as
coalesced, and does nothing while stuck; an assertion of a watched LEVEL line is an evaluation; a release moves the
reference level alone. That LINE_ASSERT of an asserted line changes nothing is log entry 13 (DESIGN CHOICE). -/
def Obligations.LineChangesMakeRequests : Prop :=
  (∀ (l : Fin 12) (n : Fin 8) (s : State), s.cards[n].lines[l] = true → exec (.lineAssert l n) s = .next s) ∧
  (∀ (l : Fin 12) (n : Fin 8) (s driven : State), s.cards[n].lines[l] = false →
    driven = { s with cards := upd s.cards n fun x => { x with lines := upd x.lines l fun _ => true } } →
    (watched s n = false → exec (.lineAssert l n) s = .next driven) ∧
    (watched s n = true → s.lines[l].sense = .edge → s.lineSlots[l][n].stuck = false →
      s.lineSlots[l][n].pending = true →
      exec (.lineAssert l n) s = .next (settle (raiseCoalesced (.lineSlot l n)
        (modLineSlot l n (fun x => { x with reference := true }) driven)))) ∧
    (watched s n = true → s.lines[l].sense = .edge → s.lineSlots[l][n].stuck = false →
      s.lineSlots[l][n].pending = false →
      exec (.lineAssert l n) s = .next (settle
        (modLineSlot l n (fun x => { x with reference := true, pending := true }) driven))) ∧
    (watched s n = true → s.lines[l].sense = .edge → s.lineSlots[l][n].stuck = true →
      exec (.lineAssert l n) s = .next (settle
        (modLineSlot l n (fun x => { x with reference := true }) driven))) ∧
    (watched s n = true → s.lines[l].sense = .level →
      exec (.lineAssert l n) s = .next (settle (modLineSlot l n (fun x =>
        { x with reference := true, pending := x.pending || (!x.inService && !x.stuck) }) driven)))) ∧
  (∀ (l : Fin 12) (n : Fin 8) (s driven : State),
    driven = { s with cards := upd s.cards n fun x => { x with lines := upd x.lines l fun _ => false } } →
    exec (.lineDeassert l n) s = .next
      (if watched s n then modLineSlot l n (fun x => { x with reference := false }) driven else driven)) ∧
  ∀ (src : Source) (s : State),
    raiseCoalesced src s = { s with capture := s.capture.modCounts src fun k =>
      { coalesced := min 255 (k.coalesced + 1), lost := k.lost } }

/-! ## Services and timers -/

/-- O44. SERVICE write and query (R128 to R130): step records that are too few or too many, or of an unknown kind, are
refused with BAD_REQUEST, then fields out of range, then an entry in use; a written entry reads back as it stands,
each step as its eight bytes with the fields its kind does not read 0 (R195), and with its captured length. What an
on/off byte other than 0 and 1 stores is log entry 6 (a free value). -/
def Obligations.ServiceTableIsWritten : Prop :=
  (∀ (tag entry record count : Byte) (bytes : List Byte) (s : State), Listening s → bytes.length ≤ 1020 →
    (∀ raw : List RawStep, raw.length = count.toNat → (∀ r ∈ raw, 1 ≤ r.kind.toNat ∧ r.kind.toNat ≤ 6) →
      bytes ≠ (raw.map stepBytes).flatten) →
    exec (.serviceWrite tag entry record count bytes) s = .next (answered 0x8F tag [2] s)) ∧
  (∀ (tag entry record count : Byte) (bytes : List Byte) (raw : List RawStep) (s : State), Listening s →
    bytes.length ≤ 1020 → raw.length = count.toNat → (∀ r ∈ raw, 1 ≤ r.kind.toNat ∧ r.kind.toNat ≤ 6) →
    bytes = (raw.map stepBytes).flatten →
    ((24 ≤ entry.toNat ∨ 8 < raw.length ∨ (∃ r ∈ raw, ¬ stepFits r) ∨ 64 < (raw.map stepCaptures).sum) →
      exec (.serviceWrite tag entry record count bytes) s = .next (answered 0x8F tag [3] s)) ∧
    ∀ e : Fin 24, entry.toNat = e.val → raw.length ≤ 8 → (∀ r ∈ raw, stepFits r) →
      (raw.map stepCaptures).sum ≤ 64 →
      exec (.serviceWrite tag entry record count bytes) s = .next
        (if s.engine.state ≠ .idle ∧ s.engine.entry = some (some e) then answered 0x8F tag [5] s
         else answered 0x8F tag [if ∃ r ∈ raw, r.kind = 6 ∧ r.count = 0 then 1 else 0]
           { s with entries := upd s.entries e fun _ =>
             { record := flagByte .serviceRecord record, steps := raw.map RawStep.step } })) ∧
  (∀ r : RawStep,
    (r.kind = 1 → r.step = .inp r.address.toNat (decide (r.width = 2))) ∧
    (r.kind = 2 → r.step = .inrep r.address.toNat (decide (r.width = 2)) r.count.toNat) ∧
    (r.kind = 3 → r.step = .out r.address.toNat (decide (r.width = 2))
      (if r.width = 2 then r.value else r.value &&& 0xFF)) ∧
    (r.kind = 4 → r.step = .min r.address.toNat r.count.toNat) ∧
    (r.kind = 5 → r.step = .mout r.address.toNat (decide (r.width = 2))
      (if r.width = 2 then r.value else r.value &&& 0xFF)) ∧
    (r.kind = 6 → r.step = .delay (max 1 r.count.toNat))) ∧
  (∀ (port times micros : Nat) (word : Bool) (v : Word16),
    Step.record (.inp port word) = [1, if word then 2 else 1, 0] ++ bytes3 port ++ [0, 0] ∧
    Step.record (.inrep port word times) = [2, if word then 2 else 1, natByte times] ++ bytes3 port ++ [0, 0] ∧
    Step.record (.out port word v) = [3, if word then 2 else 1, 0] ++ bytes3 port ++ [byte0 v, byte1 v] ∧
    Step.record (.min port times) = [4, 0, natByte times] ++ bytes3 port ++ [0, 0] ∧
    Step.record (.mout port word v) = [5, if word then 2 else 1, 0] ++ bytes3 port ++ [byte0 v, byte1 v] ∧
    Step.record (.delay micros) = [6, 0, natByte micros, 0, 0, 0, 0, 0]) ∧
  (∀ steps : List Step, capturedLength steps = (steps.map fun st =>
    match st with
    | .inp _ word => if word then 2 else 1
    | .inrep _ word times => times * (if word then 2 else 1)
    | .min _ times => times
    | _ => 0).sum) ∧
  (∀ (tag entry : Byte) (s : State), Listening s → 24 ≤ entry.toNat →
    exec (.serviceQuery tag entry) s = .next (answered 0x8F tag [3] s)) ∧
  ∀ (tag : Byte) (e : Fin 24) (s : State) (x : ServiceEntry), Listening s → s.entries[e] = x →
    exec (.serviceQuery tag (natByte e.val)) s = .next (answered 0x8F tag
      ([0, if x.record then 1 else 0, natByte x.steps.length, natByte (capturedLength x.steps)] ++
        (x.steps.map Step.record).flatten ++ [s.engine.state.code] ++
        (match s.engine.source with
          | some (.lineSlot l n) => [0, natByte l.val, natByte n.val]
          | some (.timer n) => [1, natByte n.val, 0xFF]
          | _ => [0xFF, 0xFF, 0xFF]) ++
        [match s.engine.entry with
          | some (some k) => natByte k.val
          | _ => 0xFF, natByte s.engine.step]) s)

/-- O45. Periodic timers (R145 to R147): configuring starts or stops a timer with period 0 stored as 1, START is
refused in OFF, RESETTING and DOWN, and an expiry sets pending or counts as coalesced. The model's choices here: an
expiry is acted on whatever has elapsed and ignored where the state rules it out (log entry 13), the CONFIGURE reply
carries the fields of QUERY (21), it joins the list ahead of the selection settle makes (9), an on/off byte other than
0 and 1 (6). -/
def Obligations.TimersAreConfiguredAndExpire : Prop :=
  (∀ (tag timer entry keep : Byte) (period : Word16) (s : State), Listening s →
    (4 ≤ timer.toNat ∨ (24 ≤ entry.toNat ∧ entry ≠ 0xFF)) →
      exec (.timerStart tag timer period entry keep) s = .next (answered 0x90 tag [3] s) ∧
      exec (.timerStop tag timer period entry keep) s = .next (answered 0x90 tag [3] s)) ∧
  (∀ (tag timer : Byte) (s : State), Listening s → 4 ≤ timer.toNat →
    exec (.timerQuery tag timer) s = .next (answered 0x90 tag [3] s)) ∧
  (∀ (tag : Byte) (n : Fin 4) (s : State), Listening s →
    exec (.timerQuery tag (natByte n.val)) s = .next (answered 0x90 tag (0 :: timerFields s n) s)) ∧
  (∀ (n : Fin 4) (s : State), timerFields s n =
    [if s.timers[n].running then 1 else 0] ++ bytes2 s.timers[n].period ++
      [match s.timers[n].entry with
        | some e => natByte e.val
        | none => 0xFF, if s.timers[n].keepAlive then 1 else 0] ++ bytes3 s.timers[n].elapsed ++
      [if s.timers[n].pending then 1 else 0, if s.timers[n].inService then 1 else 0,
        natByte s.capture.timerCounts[n].coalesced, natByte s.capture.timerCounts[n].lost]) ∧
  (∀ (tag keep : Byte) (n : Fin 4) (e : Option (Fin 24)) (period : Word16) (s t : State) (adjusted : Byte),
    Listening s → adjusted = (if period = 0 then 1 else 0) →
    t = { s with timers := upd s.timers n fun x =>
      { x with
        period := if period = 0 then 1 else period.toNat, entry := e, keepAlive := flagByte .timerKeepAlive keep,
        running := true, elapsed := 0 } } →
    exec (.timerStart tag (natByte n.val) period (entryCode e) keep) s = .next
      (if s.bus.state = .run ∨ s.bus.state = .hold ∨ s.bus.state = .stop then
        settle (answered 0x90 tag (adjusted :: timerFields t n) t)
      else answered 0x90 tag [4] s)) ∧
  (∀ (tag keep : Byte) (n : Fin 4) (e : Option (Fin 24)) (period : Word16) (s t : State) (adjusted : Byte),
    Listening s → adjusted = (if period = 0 then 1 else 0) →
    t = { s with timers := upd s.timers n fun x =>
      { x with
        period := if period = 0 then 1 else period.toNat, entry := e, keepAlive := flagByte .timerKeepAlive keep,
        running := false, elapsed := 0, pending := false } } →
    exec (.timerStop tag (natByte n.val) period (entryCode e) keep) s =
      .next (answered 0x90 tag (adjusted :: timerFields t n) t)) ∧
  (∀ (n : Fin 4) (s : State),
    (s.timers[n].running = false ∨ (s.bus.state ≠ .run ∧ s.bus.state ≠ .hold)) →
      exec (.timerExpiry n) s = .next s) ∧
  ∀ (n : Fin 4) (s t : State), s.timers[n].running = true → (s.bus.state = .run ∨ s.bus.state = .hold) →
    t = { s with timers := upd s.timers n fun x => { x with elapsed := 0, pending := true } } →
    exec (.timerExpiry n) s = .next (settle (if s.timers[n].pending then raiseCoalesced (.timer n) t else t))

/-- O46. The access steps of a service (R128, R135, R136, R139): which access each step makes, a MIN by words with a
last odd byte; what a read captures; the flags an access adds; and a failing access, which ends its step with
STEP_ERROR and its status, names the first failing step and fills the bytes not read with 0xFF. A step boundary goes
on to the next step, stands before it in STOP, or ends the service with the next selection. -/
def Obligations.ServiceStepsMakeTheirAccesses : Prop :=
  (∀ s : State, s.engine.state ≠ .serving → serviceWants s = none) ∧
  (∀ (s : State) (e : Fin 24) (st : Step), s.engine.entry = some (some e) →
    s.entries[e].steps[s.engine.step]? = some st →
    (s.engine.state = .serving → serviceWants s =
      match st with
      | .inp port word =>
        some { space := .io, address := port, word := word, write := false, writeLow := 0, writeHigh := 0 }
      | .inrep port word _ =>
        some { space := .io, address := port, word := word, write := false, writeLow := 0, writeHigh := 0 }
      | .out port word v =>
        some { space := .io, address := port, word := word, write := true, writeLow := byte0 v, writeHigh := byte1 v }
      | .min address times =>
        some { space := .mem, address := (address + 2 * s.engine.done) % 0x100000
               word := decide (2 * s.engine.done + 2 ≤ times), write := false, writeLow := 0, writeHigh := 0 }
      | .mout address word v =>
        some { space := .mem, address := address, word := word, write := true, writeLow := byte0 v
               writeHigh := byte1 v }
      | .delay _ => none) ∧
    ∀ (a : Access) (count missing : Nat) (captures : Bool) (taken : State),
      count = (match st with
        | .inrep _ _ times => times
        | .min _ times => (times + 1) / 2
        | .delay _ => 0
        | _ => 1) →
      captures = (match st with
        | .inp _ _ => true
        | .inrep _ _ _ => true
        | .min _ _ => true
        | _ => false) →
      missing = (match st with
        | .inrep _ word times => (times - (s.engine.done + 1)) * (if word then 2 else 1)
        | .min _ times => times - 2 * (s.engine.done + 1)
        | _ => 0) →
      taken = { s with engine := { s.engine with
        access := none, done := s.engine.done + 1
        captured := s.engine.captured ++
          (if captures then
            (if a.word then [a.lowResult.value, a.highResult.value] else [a.lowResult.value])
          else [])
        flags := { s.engine.flags with
          unclaimed := s.engine.flags.unclaimed || a.flags.unclaimed
          prot := s.engine.flags.prot || a.flags.prot } } } →
      (a.status = .ok → serviceAccessDone a s = if s.engine.done + 1 < count then taken else stepBoundary taken) ∧
      (a.status ≠ .ok → serviceAccessDone a s = stepBoundary { taken with engine := { taken.engine with
        captured := taken.engine.captured ++ List.replicate missing 0xFF
        flags := { taken.engine.flags with
          stepError := true
          timeout := taken.engine.flags.timeout || decide (a.status = .timeout)
          blocked := taken.engine.flags.blocked || decide (a.status = .blocked) }
        firstFail := some (s.engine.firstFail.getD s.engine.step) } })) ∧
  ∀ (s : State) (e : Fin 24), s.engine.entry = some (some e) →
    (s.entries[e].steps.length ≤ s.engine.step + 1 → stepBoundary s = serviceSelect (finishService s)) ∧
    ∀ st : Step, s.entries[e].steps[s.engine.step + 1]? = some st →
      stepBoundary s = { s with engine := { s.engine with
        step := s.engine.step + 1, done := 0
        state := if s.bus.state = .stop then .suspended else s.engine.state
        delayLeft :=
          if s.bus.state = .stop then s.engine.delayLeft
          else match st with
            | .delay micros => micros
            | _ => s.engine.delayLeft } }

/-- O47. The end of a service (R115, R116, R134, R135, R137, R139, R142, R143): DELAY_EXPIRY ends its DELAY step,
which begins the next step, suspends before it in STOP, or ends the service; the end of a service takes its source out
of service, counts a LEVEL line that is still asserted, the fourth time stuck with its LINE_STUCK notice (R117), and
hands the record over. That an expiry is acted on whatever the time left, and changes nothing with no DELAY step
running, is log entry 13 (DESIGN CHOICE). -/
def Obligations.ServicesEndWithTheirRecords : Prop :=
  (∀ s : State, delaying s = false → exec .delayExpiry s = .next s) ∧
  (∀ (s : State) (e : Fin 24) (micros : Nat), s.engine.state = .serving → s.engine.entry = some (some e) →
    s.entries[e].steps[s.engine.step]? = some (.delay micros) →
    (s.entries[e].steps.length ≤ s.engine.step + 1 →
      exec .delayExpiry s =
        .next (settle (serviceSelect (finishService { s with engine := { s.engine with delayLeft := 0 } })))) ∧
    (∀ st : Step, s.entries[e].steps[s.engine.step + 1]? = some st →
      exec .delayExpiry s = .next (settle { s with engine := { s.engine with
        step := s.engine.step + 1, done := 0
        state := if s.bus.state = .stop then .suspended else .serving
        delayLeft :=
          if s.bus.state = .stop then 0
          else match st with
            | .delay more => more
            | _ => 0 } }))) ∧
  ∀ (s : State) (src : Source) (entry : Option (Fin 24)) (r : Record),
    s.engine.source = some src → s.engine.entry = some entry →
    r = { source := src, slot := none,
          flags := { s.engine.flags with
            held := s.engine.held
            stillAsserted := match src with
              | .lineSlot l n =>
                s.lineSlots[l][n].inService && decide (s.lines[l].sense = .level) && asserted s l n
              | _ => false },
          sequence := 0, time := s.engine.start, coalesced := 0, lost := 0, firstFail := s.engine.firstFail,
          entry := entry
          steps := some (match entry with
            | some e => s.entries[e].steps.length
            | none => 0)
          data := s.engine.captured } →
    (finishService s).engine = resetEngine ∧
    Touches [.engine, .lineSlots, .timers, .capture, .link] s (finishService s) ∧
    (∀ k : State, k = (match src with
        | .lineSlot l n =>
          if s.lineSlots[l][n].inService = true ∧ s.lines[l].sense = .level ∧ asserted s l n = true ∧
              3 ≤ s.lineSlots[l][n].stillAsserted then
            notice 3 [natByte l.val, natByte n.val,
              match s.lines[l].entry with
              | some e => natByte e.val
              | none => 0xFF, natByte (s.lineSlots[l][n].stillAsserted + 1)] s
          else s
        | _ => s) →
      (finishService s).link =
        (if (match entry with
            | some e => s.entries[e].record
            | none => true) = true then handRecord r k else k).link) ∧
    (finishService s).capture =
      (if (match entry with
          | some e => s.entries[e].record
          | none => true) = true then handRecord r s else s).capture ∧
    (∀ n, src = .timer n → (finishService s).lineSlots = s.lineSlots ∧
      (finishService s).timers = upd s.timers n (fun t => { t with inService := false })) ∧
    ∀ l n, src = .lineSlot l n → (finishService s).timers = s.timers ∧
      ∀ (l' : Fin 12) (n' : Fin 8), (finishService s).lineSlots[l'][n'] =
        if l' = l ∧ n' = n ∧ s.lineSlots[l][n].inService = true then
          if s.lines[l].sense = .edge then { s.lineSlots[l][n] with inService := false }
          else if asserted s l n = false then { s.lineSlots[l][n] with inService := false, stillAsserted := 0 }
          else if s.lineSlots[l][n].stillAsserted < 3 then
            { s.lineSlots[l][n] with
              inService := false, stillAsserted := s.lineSlots[l][n].stillAsserted + 1
              pending := s.lineSlots[l][n].pending || (watched s n && !s.lineSlots[l][n].stuck) }
          else
            { s.lineSlots[l][n] with
              inService := false, stillAsserted := s.lineSlots[l][n].stillAsserted + 1, stuck := true,
              pending := false }
        else s.lineSlots[l'][n']

/-! ## The capture queue -/

/-- O48. A record handed to the queue (R152, R153, R155, R157): stored with the next sequence number and its source's
counts, which return to 0, if there is room under both limits; else dropped and counted. -/
def Obligations.RecordIsStoredOrDropped : Prop :=
  ∀ (r : Record) (s : State),
    (s.capture.records.length < 512 →
      (s.capture.records.map fun x => x.data.length).sum + r.data.length ≤ 16384 →
      Touches [.capture, .link] s (handRecord r s) ∧
      (handRecord r s).capture.records = s.capture.records ++
        [{ r with
          sequence := s.capture.seq, coalesced := (s.capture.counts r.source).coalesced,
          lost := (s.capture.counts r.source).lost }] ∧
      (handRecord r s).capture.seq = s.capture.seq + 1 ∧
      (handRecord r s).capture.dropTotal = s.capture.dropTotal ∧
      (∀ src : Source, (handRecord r s).capture.counts src =
        if src = r.source then { coalesced := 0, lost := 0 } else s.capture.counts src) ∧
      (handRecord r s).capture.high =
        (s.capture.high || decide (s.settings.almostFull ≤ s.capture.records.length + 1)) ∧
      (handRecord r s).link =
        (if s.capture.high = false ∧ s.settings.almostFull ≤ s.capture.records.length + 1 then
          notice 0 (bytes2 (s.capture.records.length + 1) ++
            bytes2 ((s.capture.records.map fun x => x.data.length).sum + r.data.length) ++
            bytes2 s.settings.almostFull) s
         else s).link) ∧
    ((512 ≤ s.capture.records.length ∨
        16384 < (s.capture.records.map fun x => x.data.length).sum + r.data.length) →
      Touches [.capture] s (handRecord r s) ∧
      (handRecord r s).capture.records = s.capture.records ∧ (handRecord r s).capture.seq = s.capture.seq ∧
      (handRecord r s).capture.high = s.capture.high ∧
      (handRecord r s).capture.dropTotal = min 4294967295 (s.capture.dropTotal + 1) ∧
      ∀ src : Source, (handRecord r s).capture.counts src =
        if src = r.source then
          { coalesced := (s.capture.counts src).coalesced, lost := min 255 ((s.capture.counts src).lost + 1) }
        else s.capture.counts src)

/-- O49. DRAIN and DRAIN with CLEAR (R158 to R161): as many of the oldest records as Ne and the largest payload allow,
removed as they are carried; CLEAR discards the rest. That the QUEUE_HIGH notice of a DRAIN joins the list ahead of
its reply is log entry 9 (DEDUCED). -/
def Obligations.DrainCarriesTheOldestRecords : Prop :=
  (∀ (tag : Byte) (s : State), Listening s →
    exec (.drain tag 0) s = .next (answered 0x92 tag ([3, 0] ++ bytes2 s.capture.records.length) s) ∧
    exec (.drainClear tag 0) s = .next (answered 0x92 tag ([3, 0] ++ bytes2 s.capture.records.length) s)) ∧
  (∀ (tag ne : Byte) (s : State), Listening s → ne ≠ 0 →
    ∃ k : Nat, k ≤ ne.toNat ∧ k ≤ s.capture.records.length ∧
      4 + ((s.capture.records.take k).map fun r => 16 + r.data.length).sum ≤ 1024 ∧
      (k = ne.toNat ∨ k = s.capture.records.length ∨
        1024 < 4 + ((s.capture.records.take (k + 1)).map fun r => 16 + r.data.length).sum) ∧
      (∀ (left : List Record) (payload : List Byte), left = s.capture.records.drop k →
        payload = 0 :: natByte k ::
          (bytes2 left.length ++ ((s.capture.records.take k).map Record.bytes).flatten) →
        exec (.drain tag ne) s =
          .next (withReply 0x92 tag payload
            (if k = 0 then heard s
             else if s.settings.almostFull ≤ left.length ∧ s.capture.high = false then
               notice 0 (bytes2 left.length ++ bytes2 (left.map fun r => r.data.length).sum ++
                   bytes2 s.settings.almostFull)
                 (heard { s with capture := { s.capture with records := left, high := true } })
             else heard { s with capture := { s.capture with
               records := left, high := decide (s.settings.almostFull ≤ left.length) } })) ∧
        exec (.drainClear tag ne) s =
          .next (answered 0x92 tag payload { s with capture := { s.capture with records := [], high := false } }))) ∧
  ∀ r : Record, Record.bytes r =
    [match r.source with
      | .lineSlot l _ => natByte l.val
      | .timer n => natByte (64 + n.val)
      | .channel n => natByte (128 + n.val)
      | .watch u => natByte (192 + u.val),
      match r.source with
      | .lineSlot _ n => natByte n.val
      | .timer _ => 0xFF
      | _ => match r.slot with
        | some n => natByte n.val
        | none => 0xFF] ++
    bytes2 (r.flags.stepError.toNat + 2 * r.flags.unclaimed.toNat + 4 * r.flags.blocked.toNat +
      8 * r.flags.timeout.toNat + 16 * r.flags.prot.toNat + 32 * r.flags.narrowed.toNat +
      64 * r.flags.stillAsserted.toNat + 128 * r.flags.held.toNat + 256 * r.flags.reload.toNat) ++
    bytes2 r.sequence.toNat ++ bytes4 r.time.toNat ++
    [natByte r.coalesced, natByte r.lost,
      match r.firstFail with
      | some k => natByte k
      | none => 0xFF,
      natByte r.data.length,
      match r.entry with
      | some e => natByte e.val
      | none => 0xFF,
      match r.steps with
      | some k => natByte k
      | none => 0xFF] ++ r.data

/-! ## Watch units -/

/-- O50. WATCH CONFIGURE, QUERY, ARM and DISARM (R171, R172). -/
def Obligations.WatchRequestsAct : Prop :=
  (∀ (tag unit : Byte) (s : State), Listening s → 2 ≤ unit.toNat →
    exec (.watchQuery tag unit) s = .next (answered 0x91 tag [3] s) ∧
    exec (.watchArm tag unit) s = .next (answered 0x91 tag [3] s) ∧
    exec (.watchDisarm tag unit) s = .next (answered 0x91 tag [3] s)) ∧
  (∀ (tag : Byte) (u : Fin 2) (s armed disarmed : State), Listening s →
    armed = { s with watch := upd s.watch u fun w => { w with armed := true } } →
    disarmed = { s with watch := upd s.watch u fun w => { w with armed := false } } →
    exec (.watchQuery tag (natByte u.val)) s = .next (answered 0x91 tag (0 :: watchFields s u) s) ∧
    exec (.watchArm tag (natByte u.val)) s = .next (answered 0x91 tag (0 :: watchFields armed u) armed) ∧
    exec (.watchDisarm tag (natByte u.val)) s =
      .next (answered 0x91 tag (0 :: watchFields disarmed u) disarmed)) ∧
  (∀ (u : Fin 2) (s : State) (w : Watch), s.watch[u] = w → watchFields s u =
    [if w.armed then 1 else 0, if w.space = .mem then 0 else 1] ++ bytes3 w.address.toNat ++ bytes3 w.mask.toNat ++
      [natByte (w.reads.toNat + 2 * w.writes.toNat),
        natByte (w.fromQueue.toNat + 2 * w.fromChannel.toNat + 4 * w.fromService.toNat + 8 * w.fromMaster.toNat),
        if w.dataCompare then 1 else 0] ++
      bytes2 w.dataValue.toNat ++ bytes2 w.dataMask.toNat ++
      [natByte (w.record.toNat + 2 * w.hold.toNat), if w.oneShot then 1 else 0] ++ bytes2 w.hits ++
      [natByte s.capture.watchLost[u]]) ∧
  ∀ (tag unit : Byte) (f : WatchFields) (s : State), Listening s →
    ((2 ≤ f.space.toNat ∨ 2 ≤ f.arm.toNat ∨ 4 ≤ f.kinds.toNat ∨ 16 ≤ f.initiators.toNat ∨ 4 ≤ f.actions.toNat) →
      exec (.watchConfigure tag unit f) s = .next (answered 0x91 tag [2] s)) ∧
    (f.space.toNat < 2 → f.arm.toNat < 2 → f.kinds.toNat < 4 → f.initiators.toNat < 16 → f.actions.toNat < 4 →
      ((2 ≤ unit.toNat ∨ f.kinds = 0 ∨ f.initiators = 0 ∨
          (if f.space = 0 then 0xFFFFF else 0xFFFF) < f.address.toNat ∨
          (if f.space = 0 then 0xFFFFF else 0xFFFF) < f.mask.toNat) →
        exec (.watchConfigure tag unit f) s = .next (answered 0x91 tag [3] s)) ∧
      ∀ (u : Fin 2) (t : State), unit.toNat = u.val → f.kinds ≠ 0 → f.initiators ≠ 0 →
        f.address.toNat ≤ (if f.space = 0 then 0xFFFFF else 0xFFFF) →
        f.mask.toNat ≤ (if f.space = 0 then 0xFFFFF else 0xFFFF) →
        t = { s with watch := upd s.watch u fun old =>
          { armed := decide (f.arm = 1)
            space := if f.space = 0 then .mem else .io
            address := BitVec.ofNat 20 f.address.toNat
            mask := BitVec.ofNat 20 f.mask.toNat
            reads := f.kinds.getLsbD 0, writes := f.kinds.getLsbD 1
            fromQueue := f.initiators.getLsbD 0, fromChannel := f.initiators.getLsbD 1
            fromService := f.initiators.getLsbD 2, fromMaster := f.initiators.getLsbD 3
            dataCompare := flagByte .watchDataCompare f.dataCompare
            dataValue := f.dataValue, dataMask := f.dataMask
            record := f.actions.getLsbD 0, hold := f.actions.getLsbD 1
            oneShot := flagByte .watchOneShot f.oneShot
            hits := if flagByte .watchClearCount f.clearCount then 0 else old.hits } } →
        exec (.watchConfigure tag unit f) s = .next (answered 0x91 tag (0 :: watchFields t u) t))

/-- O51. A presented cycle and a watch unit (R43, R166 to R169): when the unit hits, and what the hit does; both units
take the presentation, in either order (log entry 3). -/
def Obligations.WatchHitActs : Prop :=
  (∀ (w : Watch) (p : Presentation), w.hits? p = true ↔
    w.armed = true ∧ w.space = p.space ∧
      (∀ k, k < 20 → w.mask.getLsbD k = true → w.address.getLsbD k = p.address.testBit k) ∧
      (if p.write then w.writes = true else w.reads = true) ∧
      (match p.initiator with
        | .queue => w.fromQueue = true
        | .channel _ => w.fromChannel = true
        | .service => w.fromService = true
        | .master => w.fromMaster = true) ∧
      (w.dataCompare = true → ∀ k, k < 16 → w.dataMask.getLsbD k = true →
        w.dataValue.getLsbD k = if k < 8 then p.data0.getLsbD k else p.data1.getLsbD (k - 8))) ∧
  (∀ (u : Fin 2) (p : Presentation) (s : State), s.watch[u].hits? p = false → presentTo u p s = s) ∧
  (∀ (u : Fin 2) (p : Presentation) (s : State) (r : Record), s.watch[u].hits? p = true →
    r = { source := .watch u, slot := p.slot,
          flags := { noRecordFlags with unclaimed := p.unclaimed, prot := p.prot, timeout := p.timeout },
          sequence := 0, time := s.timeBase, coalesced := 0, lost := 0, firstFail := none, entry := none,
          steps := none,
          data := natByte ((if p.space = .io then 1 else 0) + 2 * p.write.toNat + 4 * p.word.toNat) ::
            (bytes3 p.address ++ [p.data0, p.data1,
              match p.initiator with
              | .queue => 0
              | .channel _ => 1
              | .service => 2
              | .master => 3,
              match p.slot with
              | some n => natByte n.val
              | none => 0xFF]) } →
    Touches [.watch, .capture, .link, .bus] s (presentTo u p s) ∧
    (presentTo u p s).watch = upd s.watch u (fun w =>
      { w with hits := min 65535 (w.hits + 1), armed := w.armed && !w.oneShot }) ∧
    (presentTo u p s).capture = (if s.watch[u].record then handRecord r s else s).capture ∧
    (presentTo u p s).link = (if s.watch[u].record then handRecord r s else s).link ∧
    (presentTo u p s).bus =
      (if s.watch[u].hold = true ∧ s.bus.state = .run ∧ s.bus.holdRequest = none then
        { s.bus with holdRequest := some u } else s.bus)) ∧
  ∀ (p : Presentation) (s t : State), t = { s with choices := s.choices + 1 } →
    present p s = presentTo 1 p (presentTo 0 p t) ∨ present p s = presentTo 0 p (presentTo 1 p t)

/-! ## Image memory -/

/-- O52. IMG_WRITE, IMG_READ, IMG_FILL and FILL_STORE (R177 to R181): the checks in order, each byte stored where it
belongs and every other byte of image memory as it was, and a fill of up to 64 bytes a microsecond whose reply comes
at its end. That FILL_STORE with no fill in progress changes nothing is log entry 13 (DESIGN CHOICE). -/
def Obligations.ImageRequestsAct : Prop :=
  (∀ (tag : Byte) (offset : Word24) (count : Word16) (data : List Byte) (s : State), Listening s →
    data.length ≤ 1019 →
    (count.toNat ≠ data.length → exec (.imgWrite tag offset count data) s = .next (answered 0x93 tag [2] s)) ∧
    (count.toNat = data.length → (data = [] ∨ 1016 < data.length ∨ 0x100000 < offset.toNat + data.length ∨
        0x100000 ≤ offset.toNat) →
      exec (.imgWrite tag offset count data) s = .next (answered 0x93 tag [3] s)) ∧
    (count.toNat = data.length → data ≠ [] → data.length ≤ 1016 → offset.toNat + data.length ≤ 0x100000 →
      ∃ cells : List Host.Cell,
        exec (.imgWrite tag offset count data) s =
          .next (answered 0x93 tag [0] { s with image := { s.image with cells := cells } }) ∧
        (ImageCanonical s → ∀ x : Nat, readByte cells x =
          if offset.toNat ≤ x ∧ x < offset.toNat + data.length then data.getD (x - offset.toNat) 0
          else readByte s.image.cells x))) ∧
  (∀ (tag : Byte) (offset : Word24) (length : Word16) (s : State), Listening s →
    exec (.imgRead tag offset length) s = .next
      (if 1 ≤ length.toNat ∧ length.toNat ≤ 1016 ∧ offset.toNat + length.toNat ≤ 0x100000 then
        answered 0x94 tag (0 :: (List.range length.toNat).map fun k => readByte s.image.cells (offset.toNat + k)) s
      else answered 0x94 tag [3] s)) ∧
  (∀ (tag value : Byte) (offset length : Word24) (s : State), Listening s →
    exec (.imgFill tag offset length value) s = .next
      (if length.toNat = 0 ∨ 0x100000 < offset.toNat + length.toNat then answered 0x95 tag [3] s
       else if s.image.filling then answered 0x95 tag [5] s
       else { heard s with image := { s.image with
         filling := true, fillValue := value, fillNext := offset.toNat,
         fillEnd := offset.toNat + length.toNat - 1, fillTag := tag, replyWanted := true } })) ∧
  (∀ s : State, s.image.filling = false → exec .fillStore s = .next s) ∧
  ∀ (s : State) (k : Nat), s.image.filling = true → k = min 64 (s.image.fillEnd + 1 - s.image.fillNext) →
    ∃ t : State, exec .fillStore s = .next t ∧ Touches [.image, .link] s t ∧
      t.image = { s.image with
        cells := t.image.cells, fillNext := s.image.fillNext + k
        filling := decide (s.image.fillNext + k ≤ s.image.fillEnd) } ∧
      (ImageCanonical s → ∀ x : Nat, readByte t.image.cells x =
        if s.image.fillNext ≤ x ∧ x < s.image.fillNext + k then s.image.fillValue
        else readByte s.image.cells x) ∧
      t.link = { s.link with tx :=
        if s.image.fillEnd < s.image.fillNext + k ∧ s.image.replyWanted = true ∧ s.link.ready = true then
          s.link.tx ++ [{ kind := 0x95, tag := s.image.fillTag, payload := [0] }]
        else s.link.tx }

/-! ## Invariants -/

/-- O53. Every step keeps image memory in its canonical form (R174 gives every byte 0x00 after part reset; the form is
the model's). -/
def Obligations.StepKeepsImageCanonical : Prop := KeptByEveryStep ImageCanonical

/-- O54. Every step keeps the capture queue inside its limits, with its records in one run of sequence numbers (R149,
R152, R160, R161). -/
def Obligations.StepKeepsCaptureBounds : Prop := KeptByEveryStep CaptureInBounds

/-- O55. Every step keeps the claim entries in range and free of overlap (R6, R7). -/
def Obligations.StepKeepsClaimsDisjoint : Prop := KeptByEveryStep ClaimsDisjoint

/-- O56. Every step keeps the settings in their ranges (R191) and the counts at or below their maxima (R48, R82, R149,
R165, R186). -/
def Obligations.StepKeepsSettingsAndCounts : Prop :=
  KeptByEveryStep SettingsInRange ∧ KeptByEveryStep CountsInRange

/-- O57. Every step keeps the card side quiet while the bus is in OFF, RESETTING or DOWN (R51, R65, R80, R104, R125,
R141, R148). -/
def Obligations.StepKeepsDeadBusQuiet : Prop := KeptByEveryStep DeadBusIsQuiet

/-- O58. Every step keeps the owner slot of each RUNNING channel ATTACHED (R88, R102), and the fields of each slot
record in agreement (R26). -/
def Obligations.StepKeepsOwnersAttached : Prop :=
  KeptByEveryStep RunningOwnerAttached ∧ KeptByEveryStep SlotsConsistent

/-- O59. Every step keeps stuck line-slots out of service (R116, R118), pending on watched slots alone (R113, R124,
R125), and the fields of an idle engine clear (R131). -/
def Obligations.StepKeepsLineAndEngineStates : Prop :=
  KeptByEveryStep StuckNotServed ∧ KeptByEveryStep PendingOnlyWatched ∧ KeptByEveryStep IdleEngineClear

/-- O60. The state after part reset meets every invariant. -/
def Obligations.ResetMeetsTheInvariants : Prop :=
  ImageCanonical State.reset ∧ CaptureInBounds State.reset ∧ ClaimsDisjoint State.reset ∧
    SettingsInRange State.reset ∧ CountsInRange State.reset ∧ DeadBusIsQuiet State.reset ∧
    RunningOwnerAttached State.reset ∧ SlotsConsistent State.reset ∧ StuckNotServed State.reset ∧
    PendingOnlyWatched State.reset ∧ IdleEngineClear State.reset
end

