-- ==== Sys2Proof/Laws/Memory.lean ====
section
/-! SUPPORT. Image memory: reading after a write, and the canonical form that every write keeps (R174, R178). -/

namespace Sys2Proof.Machine

set_option Elab.async false

/-- A canonical list from a higher bound is one from a lower. -/
theorem cellsFrom_le {lo hi : Nat} (h : lo ≤ hi) : ∀ {cells : List Host.Cell}, cellsFrom hi cells = true → cellsFrom lo cells = true
  | [], _ => rfl
  | (k, v) :: rest, w => by
    simp only [cellsFrom, Bool.and_eq_true, decide_eq_true_eq] at w ⊢
    exact ⟨⟨by omega, w.1.2⟩, w.2⟩

/-- An offset below every listed one reads as an unlisted offset does. -/
theorem readByte_below : ∀ {cells : List Host.Cell} {lo a : Nat}, cellsFrom lo cells = true → a < lo →
    readByte cells a = memoryDefault
  | [], _, _, _, _ => rfl
  | (k, v) :: rest, lo, a, w, h => by
    simp only [cellsFrom, Bool.and_eq_true, decide_eq_true_eq] at w
    have hk : k ≠ a := by omega
    simp only [readByte, if_neg hk]
    exact readByte_below w.2 (by omega)

/-- The byte that was written. -/
theorem readByte_writeByte_same : ∀ (cells : List Host.Cell) {lo : Nat} (a : Nat) (b : Byte), cellsFrom lo cells = true →
    readByte (writeByte cells a b) a = b
  | [], _, a, b, _ => by
    unfold writeByte
    split
    · next h => simp [readByte, h]
    · simp [readByte]
  | (k, v) :: rest, lo, a, b, w => by
    have w' := w
    simp only [cellsFrom, Bool.and_eq_true, decide_eq_true_eq] at w'
    unfold writeByte
    split
    · next h =>
      split
      · next hb =>
        have hk : k ≠ a := by omega
        simp only [readByte, if_neg hk, hb]
        exact readByte_below w'.2 (by omega)
      · simp [readByte]
    · split
      · next h =>
        subst h
        split
        · next hb => rw [hb]; exact readByte_below w'.2 (by omega)
        · simp [readByte]
      · next h1 h2 =>
        have hk : k ≠ a := fun e => h2 e.symm
        simp only [readByte, if_neg hk]
        exact readByte_writeByte_same rest a b w'.2

/-- Every other byte. -/
theorem readByte_writeByte_other : ∀ (cells : List Host.Cell) (a c : Nat) (b : Byte), c ≠ a →
    readByte (writeByte cells a b) c = readByte cells c
  | [], a, c, b, h => by
    unfold writeByte
    split
    · rfl
    · simp [readByte, Ne.symm h]
  | (k, v) :: rest, a, c, b, h => by
    unfold writeByte
    split
    · split
      · rfl
      · simp [readByte, Ne.symm h]
    · split
      · next h1 h2 =>
        subst h2
        split
        · simp [readByte, Ne.symm h]
        · simp [readByte, Ne.symm h]
      · simp only [readByte]
        split
        · rfl
        · exact readByte_writeByte_other rest a c b h

/-- A write keeps the canonical form. -/
theorem cellsFrom_writeByte : ∀ (cells : List Host.Cell) (lo a : Nat) (b : Byte), cellsFrom lo cells = true → lo ≤ a →
    cellsFrom lo (writeByte cells a b) = true
  | [], lo, a, b, _, h => by
    unfold writeByte
    split
    · rfl
    · next hb => simp [cellsFrom, h, hb]
  | (k, v) :: rest, lo, a, b, w, h => by
    have w' := w
    simp only [cellsFrom, Bool.and_eq_true, decide_eq_true_eq] at w'
    unfold writeByte
    split
    · next hk =>
      split
      · exact w
      · next hb =>
        simp only [cellsFrom, Bool.and_eq_true, decide_eq_true_eq]
        exact ⟨⟨h, by simpa using hb⟩, ⟨by omega, w'.1.2⟩, w'.2⟩
    · split
      · next hk hk2 =>
        subst hk2
        split
        · exact cellsFrom_le (by omega) w'.2
        · next hb =>
          simp only [cellsFrom, Bool.and_eq_true, decide_eq_true_eq]
          exact ⟨⟨h, by simpa using hb⟩, w'.2⟩
      · next hk hk2 =>
        simp only [cellsFrom, Bool.and_eq_true, decide_eq_true_eq]
        exact ⟨w'.1, cellsFrom_writeByte rest (k + 1) a b w'.2 (by omega)⟩

/-- A write keeps the canonical form of the whole memory. -/
theorem wf_writeByte (cells : List Host.Cell) (a : Nat) (b : Byte) (w : Memory.wf cells = true) :
    Memory.wf (writeByte cells a b) = true := cellsFrom_writeByte cells 0 a b w (Nat.zero_le a)

/-- So does a write of several bytes. -/
theorem wf_writeBytesAt : ∀ (bs : List Byte) (cells : List Host.Cell) (a : Nat), Memory.wf cells = true →
    Memory.wf (writeBytesAt cells a bs) = true
  | [], _, _, w => w
  | b :: rest, cells, a, w => wf_writeBytesAt rest (writeByte cells a b) (a + 1) (wf_writeByte cells a b w)

/-- Bytes outside a write of several bytes. -/
theorem readByte_writeBytesAt_other : ∀ (bs : List Byte) (cells : List Host.Cell) (a c : Nat),
    c < a ∨ a + bs.length ≤ c → readByte (writeBytesAt cells a bs) c = readByte cells c
  | [], _, _, _, _ => rfl
  | b :: rest, cells, a, c, h => by
    simp only [List.length_cons] at h
    simp only [writeBytesAt]
    rw [readByte_writeBytesAt_other rest (writeByte cells a b) (a + 1) c (by omega)]
    exact readByte_writeByte_other cells a c b (by omega)

/-- The bytes of a write of several bytes. -/
theorem readByte_writeBytesAt_same : ∀ (bs : List Byte) (cells : List Host.Cell) (a k : Nat), Memory.wf cells = true →
    (h : k < bs.length) → readByte (writeBytesAt cells a bs) (a + k) = bs[k]
  | b :: rest, cells, a, 0, w, _ => by
    simp only [writeBytesAt, Nat.add_zero, List.getElem_cons_zero]
    rw [readByte_writeBytesAt_other rest (writeByte cells a b) (a + 1) a (by omega)]
    exact readByte_writeByte_same cells a b w
  | b :: rest, cells, a, k + 1, w, h => by
    simp only [writeBytesAt, List.getElem_cons_succ]
    have e : a + (k + 1) = (a + 1) + k := by omega
    rw [e]
    exact readByte_writeBytesAt_same rest (writeByte cells a b) (a + 1) k (wf_writeByte cells a b w) (by simpa using h)

/-- The memory after part reset is canonical. -/
theorem wf_reset : Memory.wf State.reset.image.cells = true := rfl

end Sys2Proof.Machine
end

