-- ==== Sys2Proof/Laws/PerInstr.lean ====
section
/-! SUPPORT. The per-command family `RequestKind`: the frame of a request row has one of the kinds of the dispatch table
(R187). -/

namespace Sys2Proof.Laws.RequestKind

open Sys2Proof

set_option Elab.async false

/-- The kind is one of the table's, 0x01 to 0x15, but for UNKNOWN_REQUEST, which carries any. -/
def Statement (i : Instr) : Prop :=
  match requestFrame i with
  | some (kind, _, _) => (1 ≤ kind.toNat ∧ kind.toNat ≤ 0x15) ∨ ∃ k t p, i = .unknownRequest k t p
  | none => True

theorem partReset (present : Byte) (straps : Byte) (supplyGood : Bool) : Statement (.partReset present straps supplyGood) := trivial
theorem linkReady : Statement .linkReady := trivial
theorem linkLoss : Statement .linkLoss := trivial
theorem frameDiscarded (kind : Byte) (tag : Byte) (length : Word16) (payload : List Byte) (check : Byte) : Statement (.frameDiscarded kind tag length payload check) := trivial
theorem receiverSilenceTimeout : Statement .receiverSilenceTimeout := trivial
theorem inPipeRead : Statement .inPipeRead := trivial
theorem unknownRequest (kind : Byte) (tag : Byte) (payload : List Byte) : Statement (.unknownRequest kind tag payload) := .inr ⟨kind, tag, payload, rfl⟩
theorem ident (tag : Byte) : Statement (.ident tag) := Or.inl (by decide)
theorem status (tag : Byte) : Statement (.status tag) := Or.inl (by decide)
theorem set (tag : Byte) (number : Byte) (value : Word16) : Statement (.set tag number value) := Or.inl (by decide)
theorem get (tag : Byte) (number : Byte) : Statement (.get tag number) := Or.inl (by decide)
theorem busRun (tag : Byte) : Statement (.busRun tag) := Or.inl (by decide)
theorem busHold (tag : Byte) : Statement (.busHold tag) := Or.inl (by decide)
theorem busStop (tag : Byte) : Statement (.busStop tag) := Or.inl (by decide)
theorem busOff (tag : Byte) : Statement (.busOff tag) := Or.inl (by decide)
theorem busReset (tag : Byte) : Statement (.busReset tag) := Or.inl (by decide)
theorem slotQuery (tag : Byte) (slot : Byte) : Statement (.slotQuery tag slot) := Or.inl (by decide)
theorem slotAttach (tag : Byte) (slot : Byte) : Statement (.slotAttach tag slot) := Or.inl (by decide)
theorem slotIsolate (tag : Byte) (slot : Byte) : Statement (.slotIsolate tag slot) := Or.inl (by decide)
theorem claimWrite (tag : Byte) (w : ClaimFields) : Statement (.claimWrite tag w) := Or.inl (by decide)
theorem claimRead (tag : Byte) (entry : Byte) : Statement (.claimRead tag entry) := Or.inl (by decide)
theorem ops (tag : Byte) (payload : List Byte) : Statement (.ops tag payload) := Or.inl (by decide)
theorem dmaMode (tag : Byte) (channel : Byte) (mode : Byte) (direction : Byte) (owner : Byte) (options : Byte) : Statement (.dmaMode tag channel mode direction owner options) := Or.inl (by decide)
theorem dmaAddr (tag : Byte) (channel : Byte) (page : Byte) (offset : Word16) (step : Byte) : Statement (.dmaAddr tag channel page offset step) := Or.inl (by decide)
theorem dmaCount (tag : Byte) (channel : Byte) (n : Word24) : Statement (.dmaCount tag channel n) := Or.inl (by decide)
theorem dmaStart (tag : Byte) (channel : Byte) : Statement (.dmaStart tag channel) := Or.inl (by decide)
theorem dmaClear (tag : Byte) (channel : Byte) : Statement (.dmaClear tag channel) := Or.inl (by decide)
theorem dmaPulse (tag : Byte) (channel : Byte) : Statement (.dmaPulse tag channel) := Or.inl (by decide)
theorem dmaQuery (tag : Byte) (channel : Byte) : Statement (.dmaQuery tag channel) := Or.inl (by decide)
theorem lineQuery (tag : Byte) (line : Byte) : Statement (.lineQuery tag line) := Or.inl (by decide)
theorem lineConfigure (tag : Byte) (line : Byte) (sense : Byte) (enabled : Byte) (group : Byte) (keepAlive : Byte) (entry : Byte) : Statement (.lineConfigure tag line sense enabled group keepAlive entry) := Or.inl (by decide)
theorem clearStuck (tag : Byte) (line : Byte) (bitmap : Byte) : Statement (.clearStuck tag line bitmap) := Or.inl (by decide)
theorem clearPending (tag : Byte) (line : Byte) (bitmap : Byte) : Statement (.clearPending tag line bitmap) := Or.inl (by decide)
theorem serviceWrite (tag : Byte) (entry : Byte) (record : Byte) (count : Byte) (steps : List Byte) : Statement (.serviceWrite tag entry record count steps) := Or.inl (by decide)
theorem serviceQuery (tag : Byte) (entry : Byte) : Statement (.serviceQuery tag entry) := Or.inl (by decide)
theorem timerQuery (tag : Byte) (timer : Byte) : Statement (.timerQuery tag timer) := Or.inl (by decide)
theorem timerStart (tag : Byte) (timer : Byte) (period : Word16) (entry : Byte) (keepAlive : Byte) : Statement (.timerStart tag timer period entry keepAlive) := Or.inl (by decide)
theorem timerStop (tag : Byte) (timer : Byte) (period : Word16) (entry : Byte) (keepAlive : Byte) : Statement (.timerStop tag timer period entry keepAlive) := Or.inl (by decide)
theorem watchQuery (tag : Byte) (unit : Byte) : Statement (.watchQuery tag unit) := Or.inl (by decide)
theorem watchConfigure (tag : Byte) (unit : Byte) (w : WatchFields) : Statement (.watchConfigure tag unit w) := Or.inl (by decide)
theorem watchArm (tag : Byte) (unit : Byte) : Statement (.watchArm tag unit) := Or.inl (by decide)
theorem watchDisarm (tag : Byte) (unit : Byte) : Statement (.watchDisarm tag unit) := Or.inl (by decide)
theorem drain (tag : Byte) (ne : Byte) : Statement (.drain tag ne) := Or.inl (by decide)
theorem drainClear (tag : Byte) (ne : Byte) : Statement (.drainClear tag ne) := Or.inl (by decide)
theorem imgWrite (tag : Byte) (offset : Word24) (count : Word16) (data : List Byte) : Statement (.imgWrite tag offset count data) := Or.inl (by decide)
theorem imgRead (tag : Byte) (offset : Word24) (length : Word16) : Statement (.imgRead tag offset length) := Or.inl (by decide)
theorem imgFill (tag : Byte) (offset : Word24) (length : Word24) (value : Byte) : Statement (.imgFill tag offset length value) := Or.inl (by decide)
theorem fillStore : Statement .fillStore := trivial
theorem presenceArrival (slot : Fin 8) : Statement (.presenceArrival slot) := trivial
theorem presenceLoss (slot : Fin 8) : Statement (.presenceLoss slot) := trivial
theorem csupgoodLow : Statement .csupgoodLow := trivial
theorem csupgoodHigh : Statement .csupgoodHigh := trivial
theorem supplyLost : Statement .supplyLost := trivial
theorem supplyRestored : Statement .supplyRestored := trivial
theorem pulseEnd : Statement .pulseEnd := trivial
theorem cycleStart (wideAck : Bool) : Statement (.cycleStart wideAck) := trivial
theorem cycleWaitEnd (waits : Nat) (lines : CardLines) : Statement (.cycleWaitEnd waits lines) := trivial
theorem readyTimeout (lines : CardLines) : Statement (.readyTimeout lines) := trivial
theorem cycleEnd : Statement .cycleEnd := trivial
theorem delayExpiry : Statement .delayExpiry := trivial
theorem pauseExpiry : Statement .pauseExpiry := trivial
theorem waitDmaTimeout : Statement .waitDmaTimeout := trivial
theorem timerExpiry (timer : Fin 4) : Statement (.timerExpiry timer) := trivial
theorem refreshIntervalExpiry : Statement .refreshIntervalExpiry := trivial
theorem refreshCycleEnd : Statement .refreshCycleEnd := trivial
theorem holdTimerExpiry : Statement .holdTimerExpiry := trivial
theorem channelRequestAssert (channel : Fin 4) (slot : Fin 8) : Statement (.channelRequestAssert channel slot) := trivial
theorem channelRequestDeassert (channel : Fin 4) (slot : Fin 8) : Statement (.channelRequestDeassert channel slot) := trivial
theorem masterStrobeAssert (space : Space) (address : BitVec 20) (write : Bool) : Statement (.masterStrobeAssert space address write) := trivial
theorem masterStrobeRelease (clocks : Nat) (data : Byte) : Statement (.masterStrobeRelease clocks data) := trivial
theorem lineAssert (line : Fin 12) (slot : Fin 8) : Statement (.lineAssert line slot) := trivial
theorem lineDeassert (line : Fin 12) (slot : Fin 8) : Statement (.lineDeassert line slot) := trivial
theorem byteTaken (b : Byte) : Statement (.byteTaken b) := trivial

end Sys2Proof.Laws.RequestKind
end

