-- ==== Sys2Proof/Laws/Vectors.lean ====
section
/-! SUPPORT. Reading a vector after one of its members, or all of them, changed. -/

namespace Sys2Proof.Machine

variable {α β : Type} {n : Nat}

/-- The member that was changed. -/
@[simp] theorem upd_self (v : Vector α n) (i : Fin n) (f : α → α) : (upd v i f)[i] = f v[i] := by
  simp [upd]

/-- Every other member is as it was. -/
theorem upd_other (v : Vector α n) (i j : Fin n) (f : α → α) (h : i ≠ j) : (upd v i f)[j] = v[j] := by
  have h' : i.val ≠ j.val := fun e => h (Fin.ext e)
  simp [upd, h']

/-- Both cases at once. -/
theorem upd_get (v : Vector α n) (i j : Fin n) (f : α → α) :
    (upd v i f)[j] = if i = j then f v[j] else v[j] := by
  split
  · next h => subst h; exact upd_self v i f
  · next h => exact upd_other v i j f h

/-- Every member changed. -/
@[simp] theorem mapAll_get (f : α → β) (v : Vector α n) (i : Fin n) : (mapAll f v)[i] = f v[i] := by
  simp [mapAll]

end Sys2Proof.Machine
end

