-- ==== Sys2Proof/Laws/State.lean ====
section
/-! SUPPORT. One lemma per field per named update of State: the updated field holds the new value, every other field
is as it was. -/

namespace Sys2Proof.Machine

section modSlot

variable (n : Fin 8) (f : Slot → Slot) (s : State)

@[simp] theorem modSlot_pending : (modSlot n f s).pending = s.pending := rfl
@[simp] theorem modSlot_bus : (modSlot n f s).bus = s.bus := rfl
@[simp] theorem modSlot_slots : (modSlot n f s).slots = upd s.slots n f := rfl
@[simp] theorem modSlot_cards : (modSlot n f s).cards = s.cards := rfl
@[simp] theorem modSlot_claims : (modSlot n f s).claims = s.claims := rfl
@[simp] theorem modSlot_planner : (modSlot n f s).planner = s.planner := rfl
@[simp] theorem modSlot_arb : (modSlot n f s).arb = s.arb := rfl
@[simp] theorem modSlot_queue : (modSlot n f s).queue = s.queue := rfl
@[simp] theorem modSlot_channels : (modSlot n f s).channels = s.channels := rfl
@[simp] theorem modSlot_lines : (modSlot n f s).lines = s.lines := rfl
@[simp] theorem modSlot_lineSlots : (modSlot n f s).lineSlots = s.lineSlots := rfl
@[simp] theorem modSlot_entries : (modSlot n f s).entries = s.entries := rfl
@[simp] theorem modSlot_engine : (modSlot n f s).engine = s.engine := rfl
@[simp] theorem modSlot_timers : (modSlot n f s).timers = s.timers := rfl
@[simp] theorem modSlot_timeBase : (modSlot n f s).timeBase = s.timeBase := rfl
@[simp] theorem modSlot_capture : (modSlot n f s).capture = s.capture := rfl
@[simp] theorem modSlot_watch : (modSlot n f s).watch = s.watch := rfl
@[simp] theorem modSlot_image : (modSlot n f s).image = s.image := rfl
@[simp] theorem modSlot_link : (modSlot n f s).link = s.link := rfl
@[simp] theorem modSlot_settings : (modSlot n f s).settings = s.settings := rfl
@[simp] theorem modSlot_choices : (modSlot n f s).choices = s.choices := rfl

end modSlot

section modChannel

variable (n : Fin 4) (f : Channel → Channel) (s : State)

@[simp] theorem modChannel_pending : (modChannel n f s).pending = s.pending := rfl
@[simp] theorem modChannel_bus : (modChannel n f s).bus = s.bus := rfl
@[simp] theorem modChannel_slots : (modChannel n f s).slots = s.slots := rfl
@[simp] theorem modChannel_cards : (modChannel n f s).cards = s.cards := rfl
@[simp] theorem modChannel_claims : (modChannel n f s).claims = s.claims := rfl
@[simp] theorem modChannel_planner : (modChannel n f s).planner = s.planner := rfl
@[simp] theorem modChannel_arb : (modChannel n f s).arb = s.arb := rfl
@[simp] theorem modChannel_queue : (modChannel n f s).queue = s.queue := rfl
@[simp] theorem modChannel_channels : (modChannel n f s).channels = upd s.channels n f := rfl
@[simp] theorem modChannel_lines : (modChannel n f s).lines = s.lines := rfl
@[simp] theorem modChannel_lineSlots : (modChannel n f s).lineSlots = s.lineSlots := rfl
@[simp] theorem modChannel_entries : (modChannel n f s).entries = s.entries := rfl
@[simp] theorem modChannel_engine : (modChannel n f s).engine = s.engine := rfl
@[simp] theorem modChannel_timers : (modChannel n f s).timers = s.timers := rfl
@[simp] theorem modChannel_timeBase : (modChannel n f s).timeBase = s.timeBase := rfl
@[simp] theorem modChannel_capture : (modChannel n f s).capture = s.capture := rfl
@[simp] theorem modChannel_watch : (modChannel n f s).watch = s.watch := rfl
@[simp] theorem modChannel_image : (modChannel n f s).image = s.image := rfl
@[simp] theorem modChannel_link : (modChannel n f s).link = s.link := rfl
@[simp] theorem modChannel_settings : (modChannel n f s).settings = s.settings := rfl
@[simp] theorem modChannel_choices : (modChannel n f s).choices = s.choices := rfl

end modChannel

section modLineSlot

variable (l : Fin 12) (n : Fin 8) (f : LineSlot → LineSlot) (s : State)

@[simp] theorem modLineSlot_pending : (modLineSlot l n f s).pending = s.pending := rfl
@[simp] theorem modLineSlot_bus : (modLineSlot l n f s).bus = s.bus := rfl
@[simp] theorem modLineSlot_slots : (modLineSlot l n f s).slots = s.slots := rfl
@[simp] theorem modLineSlot_cards : (modLineSlot l n f s).cards = s.cards := rfl
@[simp] theorem modLineSlot_claims : (modLineSlot l n f s).claims = s.claims := rfl
@[simp] theorem modLineSlot_planner : (modLineSlot l n f s).planner = s.planner := rfl
@[simp] theorem modLineSlot_arb : (modLineSlot l n f s).arb = s.arb := rfl
@[simp] theorem modLineSlot_queue : (modLineSlot l n f s).queue = s.queue := rfl
@[simp] theorem modLineSlot_channels : (modLineSlot l n f s).channels = s.channels := rfl
@[simp] theorem modLineSlot_lines : (modLineSlot l n f s).lines = s.lines := rfl
@[simp] theorem modLineSlot_lineSlots : (modLineSlot l n f s).lineSlots = upd s.lineSlots l fun row => upd row n f := rfl
@[simp] theorem modLineSlot_entries : (modLineSlot l n f s).entries = s.entries := rfl
@[simp] theorem modLineSlot_engine : (modLineSlot l n f s).engine = s.engine := rfl
@[simp] theorem modLineSlot_timers : (modLineSlot l n f s).timers = s.timers := rfl
@[simp] theorem modLineSlot_timeBase : (modLineSlot l n f s).timeBase = s.timeBase := rfl
@[simp] theorem modLineSlot_capture : (modLineSlot l n f s).capture = s.capture := rfl
@[simp] theorem modLineSlot_watch : (modLineSlot l n f s).watch = s.watch := rfl
@[simp] theorem modLineSlot_image : (modLineSlot l n f s).image = s.image := rfl
@[simp] theorem modLineSlot_link : (modLineSlot l n f s).link = s.link := rfl
@[simp] theorem modLineSlot_settings : (modLineSlot l n f s).settings = s.settings := rfl
@[simp] theorem modLineSlot_choices : (modLineSlot l n f s).choices = s.choices := rfl

end modLineSlot

section modTimer

variable (n : Fin 4) (f : Timer → Timer) (s : State)

@[simp] theorem modTimer_pending : (modTimer n f s).pending = s.pending := rfl
@[simp] theorem modTimer_bus : (modTimer n f s).bus = s.bus := rfl
@[simp] theorem modTimer_slots : (modTimer n f s).slots = s.slots := rfl
@[simp] theorem modTimer_cards : (modTimer n f s).cards = s.cards := rfl
@[simp] theorem modTimer_claims : (modTimer n f s).claims = s.claims := rfl
@[simp] theorem modTimer_planner : (modTimer n f s).planner = s.planner := rfl
@[simp] theorem modTimer_arb : (modTimer n f s).arb = s.arb := rfl
@[simp] theorem modTimer_queue : (modTimer n f s).queue = s.queue := rfl
@[simp] theorem modTimer_channels : (modTimer n f s).channels = s.channels := rfl
@[simp] theorem modTimer_lines : (modTimer n f s).lines = s.lines := rfl
@[simp] theorem modTimer_lineSlots : (modTimer n f s).lineSlots = s.lineSlots := rfl
@[simp] theorem modTimer_entries : (modTimer n f s).entries = s.entries := rfl
@[simp] theorem modTimer_engine : (modTimer n f s).engine = s.engine := rfl
@[simp] theorem modTimer_timers : (modTimer n f s).timers = upd s.timers n f := rfl
@[simp] theorem modTimer_timeBase : (modTimer n f s).timeBase = s.timeBase := rfl
@[simp] theorem modTimer_capture : (modTimer n f s).capture = s.capture := rfl
@[simp] theorem modTimer_watch : (modTimer n f s).watch = s.watch := rfl
@[simp] theorem modTimer_image : (modTimer n f s).image = s.image := rfl
@[simp] theorem modTimer_link : (modTimer n f s).link = s.link := rfl
@[simp] theorem modTimer_settings : (modTimer n f s).settings = s.settings := rfl
@[simp] theorem modTimer_choices : (modTimer n f s).choices = s.choices := rfl

end modTimer

section modArb

variable (f : Arbiter → Arbiter) (s : State)

@[simp] theorem modArb_pending : (modArb f s).pending = s.pending := rfl
@[simp] theorem modArb_bus : (modArb f s).bus = s.bus := rfl
@[simp] theorem modArb_slots : (modArb f s).slots = s.slots := rfl
@[simp] theorem modArb_cards : (modArb f s).cards = s.cards := rfl
@[simp] theorem modArb_claims : (modArb f s).claims = s.claims := rfl
@[simp] theorem modArb_planner : (modArb f s).planner = s.planner := rfl
@[simp] theorem modArb_arb : (modArb f s).arb = f s.arb := rfl
@[simp] theorem modArb_queue : (modArb f s).queue = s.queue := rfl
@[simp] theorem modArb_channels : (modArb f s).channels = s.channels := rfl
@[simp] theorem modArb_lines : (modArb f s).lines = s.lines := rfl
@[simp] theorem modArb_lineSlots : (modArb f s).lineSlots = s.lineSlots := rfl
@[simp] theorem modArb_entries : (modArb f s).entries = s.entries := rfl
@[simp] theorem modArb_engine : (modArb f s).engine = s.engine := rfl
@[simp] theorem modArb_timers : (modArb f s).timers = s.timers := rfl
@[simp] theorem modArb_timeBase : (modArb f s).timeBase = s.timeBase := rfl
@[simp] theorem modArb_capture : (modArb f s).capture = s.capture := rfl
@[simp] theorem modArb_watch : (modArb f s).watch = s.watch := rfl
@[simp] theorem modArb_image : (modArb f s).image = s.image := rfl
@[simp] theorem modArb_link : (modArb f s).link = s.link := rfl
@[simp] theorem modArb_settings : (modArb f s).settings = s.settings := rfl
@[simp] theorem modArb_choices : (modArb f s).choices = s.choices := rfl

end modArb

section modEngine

variable (f : Engine → Engine) (s : State)

@[simp] theorem modEngine_pending : (modEngine f s).pending = s.pending := rfl
@[simp] theorem modEngine_bus : (modEngine f s).bus = s.bus := rfl
@[simp] theorem modEngine_slots : (modEngine f s).slots = s.slots := rfl
@[simp] theorem modEngine_cards : (modEngine f s).cards = s.cards := rfl
@[simp] theorem modEngine_claims : (modEngine f s).claims = s.claims := rfl
@[simp] theorem modEngine_planner : (modEngine f s).planner = s.planner := rfl
@[simp] theorem modEngine_arb : (modEngine f s).arb = s.arb := rfl
@[simp] theorem modEngine_queue : (modEngine f s).queue = s.queue := rfl
@[simp] theorem modEngine_channels : (modEngine f s).channels = s.channels := rfl
@[simp] theorem modEngine_lines : (modEngine f s).lines = s.lines := rfl
@[simp] theorem modEngine_lineSlots : (modEngine f s).lineSlots = s.lineSlots := rfl
@[simp] theorem modEngine_entries : (modEngine f s).entries = s.entries := rfl
@[simp] theorem modEngine_engine : (modEngine f s).engine = f s.engine := rfl
@[simp] theorem modEngine_timers : (modEngine f s).timers = s.timers := rfl
@[simp] theorem modEngine_timeBase : (modEngine f s).timeBase = s.timeBase := rfl
@[simp] theorem modEngine_capture : (modEngine f s).capture = s.capture := rfl
@[simp] theorem modEngine_watch : (modEngine f s).watch = s.watch := rfl
@[simp] theorem modEngine_image : (modEngine f s).image = s.image := rfl
@[simp] theorem modEngine_link : (modEngine f s).link = s.link := rfl
@[simp] theorem modEngine_settings : (modEngine f s).settings = s.settings := rfl
@[simp] theorem modEngine_choices : (modEngine f s).choices = s.choices := rfl

end modEngine

section modQueue

variable (f : OpQueue → OpQueue) (s : State)

@[simp] theorem modQueue_pending : (modQueue f s).pending = s.pending := rfl
@[simp] theorem modQueue_bus : (modQueue f s).bus = s.bus := rfl
@[simp] theorem modQueue_slots : (modQueue f s).slots = s.slots := rfl
@[simp] theorem modQueue_cards : (modQueue f s).cards = s.cards := rfl
@[simp] theorem modQueue_claims : (modQueue f s).claims = s.claims := rfl
@[simp] theorem modQueue_planner : (modQueue f s).planner = s.planner := rfl
@[simp] theorem modQueue_arb : (modQueue f s).arb = s.arb := rfl
@[simp] theorem modQueue_queue : (modQueue f s).queue = f s.queue := rfl
@[simp] theorem modQueue_channels : (modQueue f s).channels = s.channels := rfl
@[simp] theorem modQueue_lines : (modQueue f s).lines = s.lines := rfl
@[simp] theorem modQueue_lineSlots : (modQueue f s).lineSlots = s.lineSlots := rfl
@[simp] theorem modQueue_entries : (modQueue f s).entries = s.entries := rfl
@[simp] theorem modQueue_engine : (modQueue f s).engine = s.engine := rfl
@[simp] theorem modQueue_timers : (modQueue f s).timers = s.timers := rfl
@[simp] theorem modQueue_timeBase : (modQueue f s).timeBase = s.timeBase := rfl
@[simp] theorem modQueue_capture : (modQueue f s).capture = s.capture := rfl
@[simp] theorem modQueue_watch : (modQueue f s).watch = s.watch := rfl
@[simp] theorem modQueue_image : (modQueue f s).image = s.image := rfl
@[simp] theorem modQueue_link : (modQueue f s).link = s.link := rfl
@[simp] theorem modQueue_settings : (modQueue f s).settings = s.settings := rfl
@[simp] theorem modQueue_choices : (modQueue f s).choices = s.choices := rfl

end modQueue

section modPlanner

variable (f : Planner → Planner) (s : State)

@[simp] theorem modPlanner_pending : (modPlanner f s).pending = s.pending := rfl
@[simp] theorem modPlanner_bus : (modPlanner f s).bus = s.bus := rfl
@[simp] theorem modPlanner_slots : (modPlanner f s).slots = s.slots := rfl
@[simp] theorem modPlanner_cards : (modPlanner f s).cards = s.cards := rfl
@[simp] theorem modPlanner_claims : (modPlanner f s).claims = s.claims := rfl
@[simp] theorem modPlanner_planner : (modPlanner f s).planner = f s.planner := rfl
@[simp] theorem modPlanner_arb : (modPlanner f s).arb = s.arb := rfl
@[simp] theorem modPlanner_queue : (modPlanner f s).queue = s.queue := rfl
@[simp] theorem modPlanner_channels : (modPlanner f s).channels = s.channels := rfl
@[simp] theorem modPlanner_lines : (modPlanner f s).lines = s.lines := rfl
@[simp] theorem modPlanner_lineSlots : (modPlanner f s).lineSlots = s.lineSlots := rfl
@[simp] theorem modPlanner_entries : (modPlanner f s).entries = s.entries := rfl
@[simp] theorem modPlanner_engine : (modPlanner f s).engine = s.engine := rfl
@[simp] theorem modPlanner_timers : (modPlanner f s).timers = s.timers := rfl
@[simp] theorem modPlanner_timeBase : (modPlanner f s).timeBase = s.timeBase := rfl
@[simp] theorem modPlanner_capture : (modPlanner f s).capture = s.capture := rfl
@[simp] theorem modPlanner_watch : (modPlanner f s).watch = s.watch := rfl
@[simp] theorem modPlanner_image : (modPlanner f s).image = s.image := rfl
@[simp] theorem modPlanner_link : (modPlanner f s).link = s.link := rfl
@[simp] theorem modPlanner_settings : (modPlanner f s).settings = s.settings := rfl
@[simp] theorem modPlanner_choices : (modPlanner f s).choices = s.choices := rfl

end modPlanner

section modBus

variable (f : Bus → Bus) (s : State)

@[simp] theorem modBus_pending : (modBus f s).pending = s.pending := rfl
@[simp] theorem modBus_bus : (modBus f s).bus = f s.bus := rfl
@[simp] theorem modBus_slots : (modBus f s).slots = s.slots := rfl
@[simp] theorem modBus_cards : (modBus f s).cards = s.cards := rfl
@[simp] theorem modBus_claims : (modBus f s).claims = s.claims := rfl
@[simp] theorem modBus_planner : (modBus f s).planner = s.planner := rfl
@[simp] theorem modBus_arb : (modBus f s).arb = s.arb := rfl
@[simp] theorem modBus_queue : (modBus f s).queue = s.queue := rfl
@[simp] theorem modBus_channels : (modBus f s).channels = s.channels := rfl
@[simp] theorem modBus_lines : (modBus f s).lines = s.lines := rfl
@[simp] theorem modBus_lineSlots : (modBus f s).lineSlots = s.lineSlots := rfl
@[simp] theorem modBus_entries : (modBus f s).entries = s.entries := rfl
@[simp] theorem modBus_engine : (modBus f s).engine = s.engine := rfl
@[simp] theorem modBus_timers : (modBus f s).timers = s.timers := rfl
@[simp] theorem modBus_timeBase : (modBus f s).timeBase = s.timeBase := rfl
@[simp] theorem modBus_capture : (modBus f s).capture = s.capture := rfl
@[simp] theorem modBus_watch : (modBus f s).watch = s.watch := rfl
@[simp] theorem modBus_image : (modBus f s).image = s.image := rfl
@[simp] theorem modBus_link : (modBus f s).link = s.link := rfl
@[simp] theorem modBus_settings : (modBus f s).settings = s.settings := rfl
@[simp] theorem modBus_choices : (modBus f s).choices = s.choices := rfl

end modBus

section modLink

variable (f : Link → Link) (s : State)

@[simp] theorem modLink_pending : (modLink f s).pending = s.pending := rfl
@[simp] theorem modLink_bus : (modLink f s).bus = s.bus := rfl
@[simp] theorem modLink_slots : (modLink f s).slots = s.slots := rfl
@[simp] theorem modLink_cards : (modLink f s).cards = s.cards := rfl
@[simp] theorem modLink_claims : (modLink f s).claims = s.claims := rfl
@[simp] theorem modLink_planner : (modLink f s).planner = s.planner := rfl
@[simp] theorem modLink_arb : (modLink f s).arb = s.arb := rfl
@[simp] theorem modLink_queue : (modLink f s).queue = s.queue := rfl
@[simp] theorem modLink_channels : (modLink f s).channels = s.channels := rfl
@[simp] theorem modLink_lines : (modLink f s).lines = s.lines := rfl
@[simp] theorem modLink_lineSlots : (modLink f s).lineSlots = s.lineSlots := rfl
@[simp] theorem modLink_entries : (modLink f s).entries = s.entries := rfl
@[simp] theorem modLink_engine : (modLink f s).engine = s.engine := rfl
@[simp] theorem modLink_timers : (modLink f s).timers = s.timers := rfl
@[simp] theorem modLink_timeBase : (modLink f s).timeBase = s.timeBase := rfl
@[simp] theorem modLink_capture : (modLink f s).capture = s.capture := rfl
@[simp] theorem modLink_watch : (modLink f s).watch = s.watch := rfl
@[simp] theorem modLink_image : (modLink f s).image = s.image := rfl
@[simp] theorem modLink_link : (modLink f s).link = f s.link := rfl
@[simp] theorem modLink_settings : (modLink f s).settings = s.settings := rfl
@[simp] theorem modLink_choices : (modLink f s).choices = s.choices := rfl

end modLink

section modWatch

variable (u : Fin 2) (f : Watch → Watch) (s : State)

@[simp] theorem modWatch_pending : (modWatch u f s).pending = s.pending := rfl
@[simp] theorem modWatch_bus : (modWatch u f s).bus = s.bus := rfl
@[simp] theorem modWatch_slots : (modWatch u f s).slots = s.slots := rfl
@[simp] theorem modWatch_cards : (modWatch u f s).cards = s.cards := rfl
@[simp] theorem modWatch_claims : (modWatch u f s).claims = s.claims := rfl
@[simp] theorem modWatch_planner : (modWatch u f s).planner = s.planner := rfl
@[simp] theorem modWatch_arb : (modWatch u f s).arb = s.arb := rfl
@[simp] theorem modWatch_queue : (modWatch u f s).queue = s.queue := rfl
@[simp] theorem modWatch_channels : (modWatch u f s).channels = s.channels := rfl
@[simp] theorem modWatch_lines : (modWatch u f s).lines = s.lines := rfl
@[simp] theorem modWatch_lineSlots : (modWatch u f s).lineSlots = s.lineSlots := rfl
@[simp] theorem modWatch_entries : (modWatch u f s).entries = s.entries := rfl
@[simp] theorem modWatch_engine : (modWatch u f s).engine = s.engine := rfl
@[simp] theorem modWatch_timers : (modWatch u f s).timers = s.timers := rfl
@[simp] theorem modWatch_timeBase : (modWatch u f s).timeBase = s.timeBase := rfl
@[simp] theorem modWatch_capture : (modWatch u f s).capture = s.capture := rfl
@[simp] theorem modWatch_watch : (modWatch u f s).watch = upd s.watch u f := rfl
@[simp] theorem modWatch_image : (modWatch u f s).image = s.image := rfl
@[simp] theorem modWatch_link : (modWatch u f s).link = s.link := rfl
@[simp] theorem modWatch_settings : (modWatch u f s).settings = s.settings := rfl
@[simp] theorem modWatch_choices : (modWatch u f s).choices = s.choices := rfl

end modWatch

section usedChoice

variable (s : State)

@[simp] theorem usedChoice_pending : (usedChoice s).pending = s.pending := rfl
@[simp] theorem usedChoice_bus : (usedChoice s).bus = s.bus := rfl
@[simp] theorem usedChoice_slots : (usedChoice s).slots = s.slots := rfl
@[simp] theorem usedChoice_cards : (usedChoice s).cards = s.cards := rfl
@[simp] theorem usedChoice_claims : (usedChoice s).claims = s.claims := rfl
@[simp] theorem usedChoice_planner : (usedChoice s).planner = s.planner := rfl
@[simp] theorem usedChoice_arb : (usedChoice s).arb = s.arb := rfl
@[simp] theorem usedChoice_queue : (usedChoice s).queue = s.queue := rfl
@[simp] theorem usedChoice_channels : (usedChoice s).channels = s.channels := rfl
@[simp] theorem usedChoice_lines : (usedChoice s).lines = s.lines := rfl
@[simp] theorem usedChoice_lineSlots : (usedChoice s).lineSlots = s.lineSlots := rfl
@[simp] theorem usedChoice_entries : (usedChoice s).entries = s.entries := rfl
@[simp] theorem usedChoice_engine : (usedChoice s).engine = s.engine := rfl
@[simp] theorem usedChoice_timers : (usedChoice s).timers = s.timers := rfl
@[simp] theorem usedChoice_timeBase : (usedChoice s).timeBase = s.timeBase := rfl
@[simp] theorem usedChoice_capture : (usedChoice s).capture = s.capture := rfl
@[simp] theorem usedChoice_watch : (usedChoice s).watch = s.watch := rfl
@[simp] theorem usedChoice_image : (usedChoice s).image = s.image := rfl
@[simp] theorem usedChoice_link : (usedChoice s).link = s.link := rfl
@[simp] theorem usedChoice_settings : (usedChoice s).settings = s.settings := rfl
@[simp] theorem usedChoice_choices : (usedChoice s).choices = s.choices + 1 := rfl

end usedChoice

section hunt

variable (s : State)

@[simp] theorem hunt_pending : (hunt s).pending = s.pending := rfl
@[simp] theorem hunt_bus : (hunt s).bus = s.bus := rfl
@[simp] theorem hunt_slots : (hunt s).slots = s.slots := rfl
@[simp] theorem hunt_cards : (hunt s).cards = s.cards := rfl
@[simp] theorem hunt_claims : (hunt s).claims = s.claims := rfl
@[simp] theorem hunt_planner : (hunt s).planner = s.planner := rfl
@[simp] theorem hunt_arb : (hunt s).arb = s.arb := rfl
@[simp] theorem hunt_queue : (hunt s).queue = s.queue := rfl
@[simp] theorem hunt_channels : (hunt s).channels = s.channels := rfl
@[simp] theorem hunt_lines : (hunt s).lines = s.lines := rfl
@[simp] theorem hunt_lineSlots : (hunt s).lineSlots = s.lineSlots := rfl
@[simp] theorem hunt_entries : (hunt s).entries = s.entries := rfl
@[simp] theorem hunt_engine : (hunt s).engine = s.engine := rfl
@[simp] theorem hunt_timers : (hunt s).timers = s.timers := rfl
@[simp] theorem hunt_timeBase : (hunt s).timeBase = s.timeBase := rfl
@[simp] theorem hunt_capture : (hunt s).capture = s.capture := rfl
@[simp] theorem hunt_watch : (hunt s).watch = s.watch := rfl
@[simp] theorem hunt_image : (hunt s).image = s.image := rfl
@[simp] theorem hunt_link : (hunt s).link = { s.link with rx := resetReceiver, silence := 0 } := rfl
@[simp] theorem hunt_settings : (hunt s).settings = s.settings := rfl
@[simp] theorem hunt_choices : (hunt s).choices = s.choices := rfl

end hunt

end Sys2Proof.Machine
end

