-- ==== Sys2Proof/Laws/Touches.lean ====
section
/-! SUPPORT. Frames: for each shared operation, one lemma that names the fields of State it may change. -/

namespace Sys2Proof.Machine

set_option Elab.async false

/-- A state agrees with itself. -/
theorem Touches.refl (l : List Field) (s : State) : Touches l s s := by
  intro f _; cases f <;> rfl

/-- A field's agreement carries over two steps. -/
theorem Field.same_trans (f : Field) {s t u : State} (h : f.same s t) (k : f.same t u) : f.same s u := by
  cases f <;> exact Eq.trans k h

/-- Two steps that touch the same fields. -/
theorem Touches.trans {l : List Field} {s t u : State} (h : Touches l s t) (k : Touches l t u) : Touches l s u :=
  fun f hf => f.same_trans (h f hf) (k f hf)

/-- A longer list says less. -/
theorem Touches.mono {l m : List Field} {s t : State} (h : Touches l s t) (w : l ⊆ m := by decide) : Touches m s t :=
  fun f hf => h f fun hl => hf (w hl)

/-- One step after another, within a list that holds what both touch. -/
theorem Touches.then {a b l : List Field} {s t u : State} (h : Touches a s t) (k : Touches b t u)
    (wa : a ⊆ l := by decide) (wb : b ⊆ l := by decide) : Touches l s u :=
  (h.mono wa).trans (k.mono wb)

/-- Either of two steps. -/
theorem Touches.ite {l : List Field} {c : Prop} [Decidable c] {s t u : State} (h : Touches l s t)
    (k : Touches l s u) : Touches l s (if c then t else u) := by
  split
  · exact h
  · exact k

/-- A fold whose every round touches the same fields. -/
theorem touches_foldl {α : Type} {l : List Field} (g : State → α → State) (h : ∀ s a, Touches l s (g s a)) :
    ∀ (as : List α) (s : State), Touches l s (as.foldl g s)
  | [], s => .refl l s
  | a :: as, s => (h s a).trans (touches_foldl g h as (g s a))

/-! ## One field set -/

theorem touches_pending {l : List Field} (s : State) (x : List Instr) (h : Field.pending ∈ l := by decide) :
    Touches l s { s with pending := x } := by
  intro f hf; cases f <;> first | rfl | exact absurd h hf

theorem touches_bus {l : List Field} (s : State) (x : Bus) (h : Field.bus ∈ l := by decide) :
    Touches l s { s with bus := x } := by
  intro f hf; cases f <;> first | rfl | exact absurd h hf

theorem touches_slots {l : List Field} (s : State) (x : Vector Slot 8) (h : Field.slots ∈ l := by decide) :
    Touches l s { s with slots := x } := by
  intro f hf; cases f <;> first | rfl | exact absurd h hf

theorem touches_cards {l : List Field} (s : State) (x : Vector Card 8) (h : Field.cards ∈ l := by decide) :
    Touches l s { s with cards := x } := by
  intro f hf; cases f <;> first | rfl | exact absurd h hf

theorem touches_claims {l : List Field} (s : State) (x : Vector Claim 24) (h : Field.claims ∈ l := by decide) :
    Touches l s { s with claims := x } := by
  intro f hf; cases f <;> first | rfl | exact absurd h hf

theorem touches_planner {l : List Field} (s : State) (x : Planner) (h : Field.planner ∈ l := by decide) :
    Touches l s { s with planner := x } := by
  intro f hf; cases f <;> first | rfl | exact absurd h hf

theorem touches_arb {l : List Field} (s : State) (x : Arbiter) (h : Field.arb ∈ l := by decide) :
    Touches l s { s with arb := x } := by
  intro f hf; cases f <;> first | rfl | exact absurd h hf

theorem touches_queue {l : List Field} (s : State) (x : OpQueue) (h : Field.queue ∈ l := by decide) :
    Touches l s { s with queue := x } := by
  intro f hf; cases f <;> first | rfl | exact absurd h hf

theorem touches_channels {l : List Field} (s : State) (x : Vector Channel 4) (h : Field.channels ∈ l := by decide) :
    Touches l s { s with channels := x } := by
  intro f hf; cases f <;> first | rfl | exact absurd h hf

theorem touches_lines {l : List Field} (s : State) (x : Vector LineConfig 12) (h : Field.lines ∈ l := by decide) :
    Touches l s { s with lines := x } := by
  intro f hf; cases f <;> first | rfl | exact absurd h hf

theorem touches_lineSlots {l : List Field} (s : State) (x : Vector (Vector LineSlot 8) 12) (h : Field.lineSlots ∈ l := by decide) :
    Touches l s { s with lineSlots := x } := by
  intro f hf; cases f <;> first | rfl | exact absurd h hf

theorem touches_entries {l : List Field} (s : State) (x : Vector ServiceEntry 24) (h : Field.entries ∈ l := by decide) :
    Touches l s { s with entries := x } := by
  intro f hf; cases f <;> first | rfl | exact absurd h hf

theorem touches_engine {l : List Field} (s : State) (x : Engine) (h : Field.engine ∈ l := by decide) :
    Touches l s { s with engine := x } := by
  intro f hf; cases f <;> first | rfl | exact absurd h hf

theorem touches_timers {l : List Field} (s : State) (x : Vector Timer 4) (h : Field.timers ∈ l := by decide) :
    Touches l s { s with timers := x } := by
  intro f hf; cases f <;> first | rfl | exact absurd h hf

theorem touches_timeBase {l : List Field} (s : State) (x : Time) (h : Field.timeBase ∈ l := by decide) :
    Touches l s { s with timeBase := x } := by
  intro f hf; cases f <;> first | rfl | exact absurd h hf

theorem touches_capture {l : List Field} (s : State) (x : Capture) (h : Field.capture ∈ l := by decide) :
    Touches l s { s with capture := x } := by
  intro f hf; cases f <;> first | rfl | exact absurd h hf

theorem touches_watch {l : List Field} (s : State) (x : Vector Watch 2) (h : Field.watch ∈ l := by decide) :
    Touches l s { s with watch := x } := by
  intro f hf; cases f <;> first | rfl | exact absurd h hf

theorem touches_image {l : List Field} (s : State) (x : Image) (h : Field.image ∈ l := by decide) :
    Touches l s { s with image := x } := by
  intro f hf; cases f <;> first | rfl | exact absurd h hf

theorem touches_link {l : List Field} (s : State) (x : Link) (h : Field.link ∈ l := by decide) :
    Touches l s { s with link := x } := by
  intro f hf; cases f <;> first | rfl | exact absurd h hf

theorem touches_settings {l : List Field} (s : State) (x : Settings) (h : Field.settings ∈ l := by decide) :
    Touches l s { s with settings := x } := by
  intro f hf; cases f <;> first | rfl | exact absurd h hf

theorem touches_choices {l : List Field} (s : State) (x : Nat) (h : Field.choices ∈ l := by decide) :
    Touches l s { s with choices := x } := by
  intro f hf; cases f <;> first | rfl | exact absurd h hf

/-! ## Link and choices -/

theorem send_touches (f : Frame) (s : State) : Touches [.link] s (send f s) := by
  unfold send; exact .ite (touches_link _ _) (.refl _ _)

theorem reply_touches (kind tag : Byte) (st : Status) (fields : List Byte) (s : State) :
    Touches [.link] s (reply kind tag st fields s) := send_touches _ _

theorem replyLater_touches (kind : Byte) (w : Waiting) (st : Status) (fields : List Byte) (s : State) :
    Touches [.link] s (replyLater kind w st fields s) := by
  unfold replyLater; exact .ite (reply_touches _ _ _ _ _) (.refl _ _)

theorem refuse_touches (kind tag : Byte) (st : Status) (s : State) : Touches [.link] s (refuse kind tag st s) :=
  reply_touches _ _ _ _ _

theorem notice_touches (kind : Nat) (fields : List Byte) (s : State) : Touches [.link] s (notice kind fields s) := by
  unfold notice
  exact .ite (.ite (send_touches _ _) (touches_link _ _)) (.refl _ _)

theorem eitherOrder_touches {l : List Field} {f g : State → State} (hf : ∀ s, Touches l s (f s))
    (hg : ∀ s, Touches l s (g s)) (s : State) (hc : Field.choices ∈ l) : Touches l s (eitherOrder f g s) := by
  unfold eitherOrder
  exact .ite (((touches_choices s _ hc).trans (hf _)).trans (hg _)) (((touches_choices s _ hc).trans (hg _)).trans (hf _))

/-! ## Capture queue -/

theorem raiseCoalesced_touches (src : Source) (s : State) : Touches [.capture] s (raiseCoalesced src s) :=
  touches_capture _ _

theorem noticeQueueHigh_touches (s : State) : Touches [.link] s (noticeQueueHigh s) := notice_touches _ _ _

theorem testHighAfterStore_touches (s : State) : Touches [.capture, .link] s (testHighAfterStore s) := by
  unfold testHighAfterStore
  exact .ite ((touches_capture (l := [.capture]) _ _).then (noticeQueueHigh_touches _)) (.refl _ _)

theorem testHigh_touches (s : State) : Touches [.capture, .link] s (testHigh s) := by
  unfold testHigh
  exact .ite (.ite (.refl _ _) ((touches_capture (l := [.capture]) _ _).then (noticeQueueHigh_touches _)))
    (touches_capture _ _)

theorem handRecord_touches (r : Record) (s : State) : Touches [.capture, .link] s (handRecord r s) := by
  unfold handRecord storeRecord dropRecord
  exact .ite ((touches_capture (l := [.capture]) _ _).then (testHighAfterStore_touches _)) (touches_capture _ _)

theorem drainReply_touches (tag : Byte) (rs : List Record) (k : Nat) (s : State) :
    Touches [.link] s (drainReply tag rs k s) := reply_touches _ _ _ _ _

theorem drainRecords_touches (tag ne : Byte) (s : State) : Touches [.capture, .link] s (drainRecords tag ne s) := by
  unfold drainRecords
  refine .ite ((reply_touches _ _ _ _ _).mono) ?_
  refine Touches.then (a := [.capture, .link]) ?_ (drainReply_touches _ _ _ _)
  exact .ite (touches_capture _ _) ((touches_capture (l := [.capture]) _ _).then (testHigh_touches _))

theorem drainAndClear_touches (tag ne : Byte) (s : State) : Touches [.capture, .link] s (drainAndClear tag ne s) := by
  unfold drainAndClear
  exact .ite ((reply_touches _ _ _ _ _).mono) ((touches_capture (l := [.capture]) _ _).then (drainReply_touches _ _ _ _))

/-! ## Interrupt unit -/

theorem evaluate_touches (l : Fin 12) (n : Fin 8) (s : State) : Touches [.lineSlots] s (evaluate l n s) := by
  unfold evaluate; exact .ite (touches_lineSlots _ _) (.refl _ _)

theorem risingEdge_touches (l : Fin 12) (n : Fin 8) (s : State) :
    Touches [.lineSlots, .capture] s (risingEdge l n s) := by
  unfold risingEdge
  exact .ite (.refl _ _) (.ite ((raiseCoalesced_touches _ _).mono) (touches_lineSlots _ _))

theorem takeReferences_touches (n : Fin 8) (s : State) : Touches [.lineSlots] s (takeReferences n s) :=
  touches_foldl _ (fun _ _ => touches_lineSlots _ _) _ _

theorem evaluateSlot_touches (n : Fin 8) (s : State) : Touches [.lineSlots] s (evaluateSlot n s) :=
  touches_foldl _ (fun _ _ => evaluate_touches _ _ _) _ _

theorem startWatching_touches (n : Fin 8) (s : State) : Touches [.lineSlots] s (startWatching n s) := by
  unfold startWatching
  exact .ite ((takeReferences_touches _ _).trans (evaluateSlot_touches _ _)) (.refl _ _)

theorem sampleLine_touches (l : Fin 12) (n : Fin 8) (s : State) :
    Touches [.lineSlots, .link] s (sampleLine l n s) := by
  unfold sampleLine
  refine .ite (.ite ?_ ?_) ?_
  · exact (touches_lineSlots (l := [.lineSlots]) _ _).then (evaluate_touches _ _ _)
  · exact Touches.then (a := [.lineSlots]) ((touches_lineSlots _ _).trans (touches_lineSlots _ _)) (notice_touches _ _ _)
  · exact (touches_lineSlots (l := [.lineSlots]) _ _).then (evaluate_touches _ _ _)

theorem endLineService_touches (l : Fin 12) (n : Fin 8) (s : State) :
    Touches [.lineSlots, .link] s (endLineService l n s) := by
  unfold endLineService
  refine .ite ?_ (.refl _ _)
  exact .ite ((touches_lineSlots (l := [.lineSlots]) _ _).then (sampleLine_touches _ _ _)) (touches_lineSlots _ _)

theorem dropSlotLines_touches (n : Fin 8) (s : State) : Touches [.lineSlots] s (dropSlotLines n s) :=
  touches_lineSlots _ _

theorem dropAllLines_touches (s : State) : Touches [.lineSlots] s (dropAllLines s) := touches_lineSlots _ _

theorem forBitmap_touches {l : List Field} (b : Byte) {f : Fin 8 → State → State} (h : ∀ n s, Touches l s (f n s))
    (s : State) : Touches l s (forBitmap b f s) :=
  touches_foldl _ (fun _ _ => .ite (h _ _) (.refl _ _)) _ _

theorem configureLine_touches (l : Fin 12) (c : LineConfig) (s : State) :
    Touches [.lines, .lineSlots] s (configureLine l c s) := by
  unfold configureLine
  have h1 : Touches [.lines, .lineSlots] s { s with lines := upd s.lines l fun _ => c } := touches_lines _ _
  refine .ite ?_ h1
  refine .ite ?_ (h1.trans (touches_lineSlots _ _))
  exact (h1.trans (touches_lineSlots _ _)).trans (touches_foldl _ (fun _ _ => (evaluate_touches _ _ _).mono) _ _)

theorem clearStuckAt_touches (l : Fin 12) (n : Fin 8) (s : State) : Touches [.lineSlots] s (clearStuckAt l n s) :=
  Touches.trans (touches_lineSlots _ _) (evaluate_touches _ _ _)

theorem clearPendingAt_touches (l : Fin 12) (n : Fin 8) (s : State) : Touches [.lineSlots] s (clearPendingAt l n s) :=
  touches_lineSlots _ _

/-! ## Service engine -/

/-- What the service engine may change. -/
abbrev serviceFieldsList : List Field := [.engine, .lineSlots, .timers, .capture, .link]

theorem takeSource_touches (src : Source) (s : State) : Touches [.lineSlots, .timers] s (takeSource src s) := by
  cases src
  · exact touches_lineSlots _ _
  · exact touches_timers _ _
  · exact .refl _ _
  · exact .refl _ _

theorem beginStep_touches (s : State) : Touches [.engine] s (beginStep s) := by
  unfold beginStep; split
  · exact touches_engine _ _
  · exact .refl _ _

theorem beginService_touches (src : Source) (s : State) :
    Touches [.engine, .lineSlots, .timers] s (beginService src s) :=
  (takeSource_touches src s).then (touches_engine (l := [.engine]) _ _)

theorem releaseSource_touches (src : Source) (s : State) :
    Touches [.lineSlots, .timers, .link] s (releaseSource src s) := by
  cases src
  · exact (endLineService_touches _ _ _).mono
  · exact touches_timers _ _
  · exact .refl _ _
  · exact .refl _ _

theorem finishService_touches (s : State) : Touches serviceFieldsList s (finishService s) := by
  unfold finishService; split
  · next src entry _ _ =>
    refine Touches.trans ?_ (touches_engine _ _)
    have h1 := (releaseSource_touches src s).mono (m := serviceFieldsList)
    exact .ite (h1.trans ((handRecord_touches _ _).mono)) h1
  · exact touches_engine _ _

theorem selectServices_touches : ∀ (k : Nat) (s : State), Touches serviceFieldsList s (selectServices k s)
  | 0, s => .refl _ s
  | k + 1, s => by
    unfold selectServices
    refine .ite ?_ (.refl _ _)
    split
    · next src _ =>
      have h1 := (beginService_touches src s).mono (m := serviceFieldsList)
      exact .ite ((h1.trans (finishService_touches _)).trans (selectServices_touches k _))
        (h1.trans ((beginStep_touches _).mono))
    · exact .refl _ _

theorem serviceSelect_touches (s : State) : Touches serviceFieldsList s (serviceSelect s) := selectServices_touches _ _

theorem endService_touches (s : State) : Touches serviceFieldsList s (endService s) :=
  (finishService_touches s).trans (serviceSelect_touches _)

theorem stepBoundary_touches (s : State) : Touches serviceFieldsList s (stepBoundary s) := by
  unfold stepBoundary; split
  · refine .ite ?_ (endService_touches s)
    exact .ite (Touches.trans (touches_engine _ _) (touches_engine _ _))
      (Touches.trans (touches_engine _ _) ((beginStep_touches _).mono))
  · exact endService_touches s

theorem serviceAccessDone_touches (a : Access) (s : State) : Touches serviceFieldsList s (serviceAccessDone a s) := by
  unfold serviceAccessDone; split
  · refine .ite (.ite (touches_engine _ _) ?_) ?_
    · exact Touches.trans (touches_engine _ _) (stepBoundary_touches _)
    · exact Touches.trans (Touches.trans (touches_engine _ _) (touches_engine _ _)) (stepBoundary_touches _)
  · exact touches_engine _ _

theorem markHeld_touches (s : State) : Touches [.engine] s (markHeld s) := by
  unfold markHeld; exact .ite (.refl _ _) (touches_engine _ _)

theorem resumeService_touches (s : State) : Touches [.engine] s (resumeService s) := by
  unfold resumeService; exact .ite (Touches.trans (touches_engine _ _) (beginStep_touches _)) (.refl _ _)

theorem abortService_touches (s : State) : Touches [.engine, .timers] s (abortService s) :=
  (touches_engine (l := [.engine]) s resetEngine).then
    (touches_timers (l := [.timers]) { s with engine := resetEngine } _)

/-! ## Operation queue -/

theorem buildReply_touches (s : State) (f : OpenFrame) : Touches [.link] s (buildReply s f) := by
  unfold buildReply; exact .ite (reply_touches _ _ _ _ _) (.refl _ _)

theorem closeFrames_touches (s : State) : Touches [.queue, .link] s (closeFrames s) :=
  Touches.trans (touches_queue _ _) (touches_foldl _ (fun _ _ => (buildReply_touches _ _).mono) _ _)

theorem endOp_touches (st : OpStatus) (s : State) : Touches [.queue, .link] s (endOp st s) := by
  unfold endOp; split
  · exact .refl _ _
  · exact Touches.trans (touches_queue _ _) (closeFrames_touches _)

theorem startRounds_touches : ∀ (k : Nat) (s : State), Touches [.queue, .link] s (startRounds k s)
  | 0, s => .refl _ s
  | k + 1, s => by
    unfold startRounds
    refine .ite ?_ (.refl _ _)
    split
    · exact .refl _ _
    · split
      · exact touches_queue _ _
      · exact touches_queue _ _
      · exact touches_queue _ _
      · exact .ite ((endOp_touches _ _).trans (startRounds_touches k _)) (touches_queue _ _)

theorem startOps_touches (s : State) : Touches [.queue, .link] s (startOps s) := startRounds_touches _ _

theorem endWaitDma_touches (s : State) : Touches [.queue, .link] s (endWaitDma s) :=
  Touches.trans (touches_queue _ _) (endOp_touches _ _)

theorem tellQueue_touches (n : Fin 4) (s : State) : Touches [.queue, .link] s (tellQueue n s) := by
  unfold tellQueue; split
  · split
    · exact .ite (endWaitDma_touches _) (.refl _ _)
    · exact .refl _ _
    · exact .refl _ _
    · exact .refl _ _
  · exact .refl _ _

theorem queueAccessDone_touches (a : Access) (s : State) : Touches [.queue, .link] s (queueAccessDone a s) := by
  unfold queueAccessDone; split
  · exact touches_queue _ _
  · dsimp only
    split
    · exact .ite (touches_queue _ _) (Touches.trans (touches_queue _ _) (endOp_touches _ _))
    · exact Touches.trans (touches_queue _ _) (endOp_touches _ _)
    · exact Touches.trans (touches_queue _ _) (endOp_touches _ _)

theorem probeDone_touches (bs : List Byte) (b : Byte) (t : Bool) (k : Nat) (s : State) :
    Touches [.queue, .link] s (probeDone bs b t k s) := by
  unfold probeDone; split
  · exact .refl _ _
  · exact Touches.trans (touches_queue _ _) (endOp_touches _ _)

theorem flushQueue_touches (s : State) : Touches [.queue, .link] s (flushQueue s) :=
  Touches.trans (touches_queue _ _) (touches_foldl _ (fun _ _ => (buildReply_touches _ _).mono) _ _)

theorem acceptOps_touches (tag : Byte) (stop : Bool) (ops : List RawOp) (s : State) :
    Touches [.queue] s (acceptOps tag stop ops s) := touches_queue _ _

/-! ## Arbiter -/

theorem grantChannel_touches (n : Fin 4) (s : State) : Touches [.arb] s (grantChannel n s) := by
  unfold grantChannel; split
  · exact touches_arb _ _
  · exact touches_arb _ _
  · exact .ite (touches_arb _ _) (touches_arb _ _)
  · exact .ite (touches_arb _ _) (touches_arb _ _)

theorem arbDecide_touches (s : State) : Touches [.arb] s (arbDecide s) := by
  unfold arbDecide
  refine .ite ?_ (.refl _ _)
  split
  · exact grantChannel_touches _ _
  · exact touches_arb _ _
  · exact touches_arb _ _
  · exact touches_arb _ _
  · exact .refl _ _
  · exact .refl _ _

/-- What letting work go on may change. -/
abbrev settleFields : List Field := [.queue, .link, .engine, .lineSlots, .timers, .capture, .arb]

theorem settle_touches (s : State) : Touches settleFields s (settle s) :=
  ((startOps_touches s).then (serviceSelect_touches _) : Touches settleFields _ _).trans ((arbDecide_touches _).mono)

theorem holdBoundary_touches (o : Owner) (s : State) : Touches [.arb] s (holdBoundary o s) := by
  unfold holdBoundary; split
  · exact .ite (touches_arb _ _) (.ite (touches_arb _ _) (touches_arb _ _))
  · exact .refl _ _

theorem markHoldEnding_touches (s : State) : Touches [.arb] s (markHoldEnding s) := by
  unfold markHoldEnding; exact .ite (touches_arb _ _) (.refl _ _)

theorem releaseHold_touches (n : Fin 4) (s : State) : Touches [.arb] s (releaseHold n s) := by
  unfold releaseHold
  exact .ite (.ite (touches_arb _ _) (touches_arb _ _)) (.ite (touches_arb _ _) (.refl _ _))

theorem dropUnstartedGrant_touches (n : Fin 4) (s : State) : Touches [.arb] s (dropUnstartedGrant n s) := by
  unfold dropUnstartedGrant; exact .ite (touches_arb _ _) (.refl _ _)

theorem endCascade_touches (n : Fin 4) (s : State) : Touches [.arb] s (endCascade n s) := by
  unfold endCascade
  have h : Touches [.arb] s (if s.arb.timerChannel = some n then modArb stopHoldTimer s else s) :=
    .ite (touches_arb _ _) (.refl _ _)
  exact .ite (.ite (h.trans (touches_arb _ _)) (h.trans (touches_arb _ _))) h

theorem withdrawCascade_touches (s : State) : Touches [.arb] s (withdrawCascade s) := by
  unfold withdrawCascade; exact .ite (touches_arb _ _) (.refl _ _)

theorem applySettings_touches (s : State) : Touches [.bus, .arb] s (applySettings s) := by
  unfold applySettings applyInterval
  have h : Touches [.bus, .arb] s (applyClock s) := touches_bus _ _
  exact .ite (h.trans (touches_arb _ _)) h

theorem masterGone_touches (s : State) : Touches [.planner, .arb, .bus] s (masterGone s) := by
  unfold masterGone
  refine Touches.trans ?_ ((applySettings_touches _).mono)
  exact .ite (Touches.trans (touches_planner _ _) (touches_arb _ _)) (touches_planner _ _)

theorem cutMaster_touches (n : Fin 8) (s : State) : Touches [.planner, .arb, .bus] s (cutMaster n s) := by
  unfold cutMaster; split
  · exact .ite (masterGone_touches _) (.refl _ _)
  · exact .refl _ _

theorem refreshDue_touches (s : State) : Touches [.arb, .link] s (refreshDue s) := by
  unfold refreshDue
  refine .ite ?_ (touches_arb _ _)
  exact .ite (Touches.then (a := [.arb]) (Touches.trans (touches_arb _ _) (touches_arb _ _)) (notice_touches _ _ _))
    (touches_arb _ _)

/-! ## DMA unit -/

theorem leaveRunning_touches (n : Fin 4) (d : DmaState) (s : State) :
    Touches [.channels, .arb] s (leaveRunning n d s) :=
  ((touches_channels (l := [.channels, .arb]) s _).trans ((releaseHold_touches n _).mono)).trans
    ((endCascade_touches n _).mono)

theorem noticeDmaFault_touches (n : Fin 4) (s : State) : Touches [.link] s (noticeDmaFault n s) := notice_touches _ _ _

/-- What a fault, or a CLEAR, may change. -/
abbrev leaveFields : List Field := [.channels, .arb, .link, .queue]

theorem faultChannel_touches (n : Fin 4) (c : DmaCause) (s : State) : Touches leaveFields s (faultChannel n c s) := by
  unfold faultChannel
  refine .ite ?_ (.refl _ _)
  have h : Touches leaveFields s (leaveRunning n .faulted (modChannel n (fun x => { x with cause := c }) s)) :=
    Touches.trans (touches_channels _ _) ((leaveRunning_touches _ _ _).mono)
  exact (h.trans ((noticeDmaFault_touches n _).mono)).trans ((tellQueue_touches n _).mono)

theorem clearChannel_touches (n : Fin 4) (s : State) : Touches leaveFields s (clearChannel n s) := by
  unfold clearChannel
  have h : Touches leaveFields s (leaveRunning n .idle (modChannel n (fun c => { c with finished := false }) s)) :=
    Touches.trans (touches_channels _ _) ((leaveRunning_touches _ _ _).mono)
  exact .ite (h.trans ((tellQueue_touches n _).mono)) h

theorem answerClears_touches (n : Fin 4) (s : State) : Touches [.channels, .link] s (answerClears n s) :=
  Touches.trans (touches_channels _ _) (touches_foldl _ (fun _ _ => (replyLater_touches _ _ _ _ _).mono) _ _)

theorem finishClears_touches (n : Fin 4) (s : State) : Touches leaveFields s (finishClears n s) := by
  unfold finishClears
  exact .ite (.refl _ _) ((clearChannel_touches n s).then (answerClears_touches n _))

theorem clearsOver_touches (n : Fin 4) (s : State) : Touches leaveFields s (clearsOver n s) := by
  unfold clearsOver; exact .ite (.refl _ _) (finishClears_touches n s)

theorem loseOwner_touches (n : Fin 4) (s : State) : Touches leaveFields s (loseOwner n s) :=
  (faultChannel_touches n _ s).trans (clearsOver_touches n _)

theorem ownerLost_touches (n : Fin 8) (s : State) : Touches leaveFields s (ownerLost n s) :=
  touches_foldl _ (fun _ _ => .ite (loseOwner_touches _ _) (.refl _ _)) _ _

theorem abortChannel_touches (n : Fin 4) (s : State) : Touches leaveFields s (abortChannel n s) := by
  unfold abortChannel
  exact .ite ((touches_channels (l := [.channels]) _ _).then (answerClears_touches n _)) (finishClears_touches n s)

theorem abortChannels_touches (s : State) : Touches leaveFields s (abortChannels s) :=
  touches_foldl _ (fun _ _ => abortChannel_touches _ _) _ _

/-- What the end of a transfer may change. -/
abbrev transferFields : List Field := [.channels, .arb, .link, .queue, .capture]

theorem noticeDmaDone_touches (n : Fin 4) (s : State) : Touches [.link] s (noticeDmaDone n s) := notice_touches _ _ _

theorem terminalCount_touches (n : Fin 4) (s : State) : Touches transferFields s (terminalCount n s) := by
  unfold terminalCount
  have h1 : Touches transferFields s (modChannel n (fun c => { c with finished := true }) s) := touches_channels _ _
  generalize modChannel n (fun c => { c with finished := true }) s = s1 at h1 ⊢
  have h2 : Touches transferFields s (if s1.channels[n].recordEnd then handRecord (dmaEndRecord n s1) s1 else s1) :=
    .ite (h1.trans ((handRecord_touches _ _).mono)) h1
  dsimp only
  generalize (if s1.channels[n].recordEnd then handRecord (dmaEndRecord n s1) s1 else s1) = s2 at h2 ⊢
  have h3 := (h2.trans ((noticeDmaDone_touches n s2).mono)).trans ((tellQueue_touches n _).mono)
  exact .ite (h3.trans (touches_channels _ _))
    ((h3.trans ((leaveRunning_touches n .done _).mono)).trans ((tellQueue_touches n _).mono))

theorem holdAfterTransfer_touches (n : Fin 4) (t : Bool) (s : State) : Touches [.arb] s (holdAfterTransfer n t s) := by
  unfold holdAfterTransfer; split
  · exact .ite (touches_arb _ _) (.refl _ _)
  · exact .ite (touches_arb _ _) (.refl _ _)
  · exact .refl _ _
  · exact .refl _ _

theorem completeTransfer_touches (n : Fin 4) (a : Access) (s : State) :
    Touches transferFields s (completeTransfer n a s) := by
  have h : Touches transferFields s (modChannel n (fun c =>
      { c with
        offset := stepOffset n c
        count := c.count + 1
        runFlags := c.runFlags.join a.flags
        pulse := c.pulse && !a.pulsed
        access := none }) (holdAfterTransfer n a.terminal s)) :=
    ((holdAfterTransfer_touches n _ s).mono).trans (touches_channels _ _)
  exact .ite (h.trans (terminalCount_touches n _)) h

theorem transferDone_touches (n : Fin 4) (a : Access) (s : State) : Touches transferFields s (transferDone n a s) := by
  unfold transferDone; split
  · exact completeTransfer_touches n a s
  · exact (faultChannel_touches n _ s).mono
  · exact (faultChannel_touches n _ s).mono

/-! ## Slot controller -/

theorem noticeSlotChange_touches (n : Fin 8) (a b : SlotState) (c : SlotCause) (s : State) :
    Touches [.link] s (noticeSlotChange n a b c s) := notice_touches _ _ _

theorem replySlot_touches (tag : Byte) (st : Status) (n : Fin 8) (s : State) :
    Touches [.link] s (replySlot tag st n s) := reply_touches _ _ _ _ _

theorem answerWaiting_touches (n : Fin 8) (st : Status) (s : State) :
    Touches [.slots, .link] s (answerWaiting n st s) :=
  Touches.trans (touches_slots _ _) (touches_foldl _ (fun _ _ => (replyLater_touches _ _ _ _ _).mono) _ _)

/-- What a departure from ATTACHED may change. -/
abbrev departFields : List Field := [.slots, .planner, .arb, .bus, .link, .lineSlots, .channels, .queue]

theorem reportDeparture_touches (n : Fin 8) (s : State) :
    Touches [.lineSlots, .channels, .arb, .link, .queue] s (reportDeparture n s) :=
  (dropSlotLines_touches n s).then (ownerLost_touches n _)

theorem loseTarget_touches (n : Fin 8) (s : State) : Touches [.planner] s (loseTarget n s) := touches_planner _ _

theorem isolateNow_touches (n : Fin 8) (c : SlotCause) (s : State) : Touches departFields s (isolateNow n c s) := by
  have h1 : Touches departFields s (cutMaster n (modSlot n (fun x => { x with state := .isolated, fault := .none }) s)) :=
    Touches.trans (touches_slots _ _) ((cutMaster_touches _ _).mono)
  exact ((h1.trans ((noticeSlotChange_touches n _ _ _ _).mono)).trans ((reportDeparture_touches n _).mono)).trans
    ((answerWaiting_touches n _ _).mono)

theorem isolateFaulted_touches (n : Fin 8) (s : State) : Touches [.slots, .link] s (isolateFaulted n s) :=
  Touches.trans (Touches.trans (touches_slots _ _) ((noticeSlotChange_touches n _ _ _ _).mono))
    (answerWaiting_touches n _ _)

theorem isolatePending_touches (n : Fin 8) (s : State) : Touches departFields s (isolatePending n s) := by
  unfold isolatePending; split
  · exact isolateNow_touches n _ s
  · exact (isolateFaulted_touches n s).mono
  · exact (answerWaiting_touches n _ s).mono
  · exact (answerWaiting_touches n _ s).mono

theorem attachNow_touches (n : Fin 8) (s : State) : Touches [.slots, .link, .lineSlots] s (attachNow n s) :=
  Touches.trans (Touches.trans (touches_slots _ _) ((noticeSlotChange_touches n _ _ _ _).mono))
    ((startWatching_touches n _).mono)

theorem changeDue_touches (n : Fin 8) (s : State) : Touches departFields s (changeDue n s) := by
  unfold changeDue; split
  · exact .refl _ _
  · exact .ite (.refl _ _) (isolatePending_touches n s)
  · exact .ite ((attachNow_touches n s).then (answerWaiting_touches n _ _)) ((answerWaiting_touches n _ s).mono)

theorem changesDue_touches (s : State) : Touches departFields s (changesDue s) :=
  touches_foldl _ (fun _ _ => changeDue_touches _ _) _ _

theorem emptySlot_touches (n : Fin 8) (s : State) : Touches departFields s (emptySlot n s) := by
  unfold emptySlot
  have h1 : Touches departFields s (loseTarget n (cutMaster n
      (modSlot n (fun x => { x with state := .empty, present := false, fault := .none }) s))) :=
    (Touches.trans (touches_slots _ _) ((cutMaster_touches _ _).mono)).trans ((loseTarget_touches _ _).mono)
  have h3 := (h1.trans ((answerWaiting_touches n (if s.slots[n].change = .attach then .badState else .ok) _).mono)).trans
    ((noticeSlotChange_touches n s.slots[n].state .empty .presence _).mono)
  exact .ite (h3.trans ((reportDeparture_touches n _).mono)) h3

theorem faultSlot_touches (n : Fin 8) (s : State) : Touches departFields s (faultSlot n s) := by
  unfold faultSlot
  refine .ite ?_ (.refl _ _)
  have h1 : Touches departFields s (loseTarget n (cutMaster n
      (modSlot n (fun x => { x with state := .faulted, fault := .holdLimit }) s))) :=
    (Touches.trans (touches_slots _ _) ((cutMaster_touches _ _).mono)).trans ((loseTarget_touches _ _).mono)
  have h2 := (h1.trans ((noticeSlotChange_touches n .attached .faulted .holdLimit _).mono)).trans
    ((reportDeparture_touches n _).mono)
  exact .ite h2 (h2.trans (changeDue_touches n _))

theorem isolateForBus_touches (n : Fin 8) (s : State) : Touches departFields s (isolateForBus n s) := by
  unfold isolateForBus
  refine .ite (isolateNow_touches n _ s) ?_
  split
  · exact .refl _ _
  · exact isolatePending_touches n s
  · exact (answerWaiting_touches n _ s).mono

theorem isolateAll_touches (s : State) : Touches departFields s (isolateAll s) :=
  touches_foldl _ (fun _ _ => isolateForBus_touches _ _) _ _

theorem changeCut_touches (n : Fin 8) (s : State) : Touches departFields s (changeCut n s) := by
  unfold changeCut; split
  · exact .refl _ _
  · exact isolatePending_touches n s
  · exact (answerWaiting_touches n _ s).mono

theorem changesCut_touches (s : State) : Touches departFields s (changesCut s) :=
  touches_foldl _ (fun _ _ => changeCut_touches _ _) _ _

/-! ## Bus controller -/

theorem changeBus_touches (b : BusState) (c : BusCause) (s : State) : Touches [.bus, .link] s (changeBus b c s) :=
  (touches_bus (l := [.bus]) s _).then (notice_touches _ _ _)

/-- What a move among RUN, HOLD and STOP may change. -/
abbrev moveFields : List Field := [.bus, .link, .arb, .engine]

theorem moveLive_touches (b : BusState) (c : BusCause) (s : State) : Touches moveFields s (moveLive b c s) := by
  unfold moveLive
  have h1 := (changeBus_touches b c s).mono (m := moveFields)
  have h2 : Touches moveFields s (if s.bus.state = .run then leaveRun (changeBus b c s) else changeBus b c s) :=
    .ite (h1.trans (((markHoldEnding_touches _).trans (withdrawCascade_touches _)).mono)) h1
  have h3 := Touches.ite (c := b = BusState.hold) (h2.trans ((markHeld_touches _).mono)) h2
  exact .ite (h3.trans ((resumeService_touches _).mono)) h3

theorem takeWatchHold_touches (s : State) : Touches moveFields s (takeWatchHold s) := by
  unfold takeWatchHold; split
  · exact .ite (moveLive_touches _ _ s) (.refl _ _)
  · exact .refl _ _

/-- What entry to RESETTING, OFF or DOWN may change. -/
abbrev deadFields : List Field :=
  [.bus, .slots, .planner, .arb, .link, .lineSlots, .channels, .queue, .engine, .timers]

theorem closeWork_touches (b : BusState) (s : State) : Touches deadFields s (closeWork b s) := by
  unfold closeWork
  have h1 : Touches deadFields s (abortChannels (applySettings (modArb clearArbiter s))) :=
    (Touches.trans (touches_arb _ _) ((applySettings_touches _).mono)).trans ((abortChannels_touches _).mono)
  have h2 := Touches.ite (c := b = BusState.resetting) (h1.trans ((changesCut_touches _).mono))
    (h1.trans ((isolateAll_touches _).mono))
  exact (h2.trans ((dropAllLines_touches _).mono)).trans ((abortService_touches _).mono)

theorem enterDead_touches (b : BusState) (c : BusCause) (s : State) : Touches deadFields s (enterDead b c s) :=
  ((Touches.trans (touches_bus s _) (touches_planner _ _)).trans ((notice_touches _ _ _).mono)).trans
    (closeWork_touches b _)

theorem replyBus_touches (tag : Byte) (st : Status) (s : State) : Touches [.link] s (replyBus tag st s) :=
  reply_touches _ _ _ _ _

theorem flushAndReply_touches (tag : Byte) (s : State) :
    Touches [.queue, .link, .choices] s (flushAndReply tag s) :=
  eitherOrder_touches (fun s => (flushQueue_touches s).mono) (fun s => (replyBus_touches _ _ s).mono) s (by decide)

theorem endPulse_touches (s : State) : Touches [.bus, .link, .lineSlots] s (endPulse s) :=
  Touches.trans ((changeBus_touches _ _ s).mono) (touches_foldl _ (fun _ _ => (startWatching_touches _ _).mono) _ _)

theorem busMove_touches (b : BusState) (tag : Byte) (s : State) :
    Touches (.bus :: settleFields) s (busMove b tag s) := by
  unfold busMove
  refine .ite (.ite ((replyBus_touches _ _ _).mono) ?_) ((replyBus_touches _ _ _).mono)
  exact (((moveLive_touches _ _ s).mono (m := .bus :: settleFields)).trans ((replyBus_touches _ _ _).mono)).trans
    ((settle_touches _).mono)

/-! ## Watch units -/

theorem presentTo_touches (u : Fin 2) (p : Presentation) (s : State) :
    Touches [.watch, .capture, .link, .bus] s (presentTo u p s) := by
  unfold presentTo
  refine .ite ?_ (.refl _ _)
  unfold watchHit
  have h1 : Touches [.watch, .capture, .link, .bus] s { s with watch := upd s.watch u fun x =>
      { x with hits := min 65535 (x.hits + 1), armed := x.armed && !x.oneShot } } := touches_watch _ _
  have h2 : Touches [.watch, .capture, .link, .bus] s (if s.watch[u].record then
      handRecord (watchRecord u p { s with watch := upd s.watch u fun x =>
        { x with hits := min 65535 (x.hits + 1), armed := x.armed && !x.oneShot } })
        { s with watch := upd s.watch u fun x =>
          { x with hits := min 65535 (x.hits + 1), armed := x.armed && !x.oneShot } }
      else { s with watch := upd s.watch u fun x =>
        { x with hits := min 65535 (x.hits + 1), armed := x.armed && !x.oneShot } }) :=
    .ite (h1.trans ((handRecord_touches _ _).mono)) h1
  refine .ite (h2.trans ?_) h2
  unfold requestHold
  exact .ite (touches_bus _ _) (.refl _ _)

theorem present_touches (p : Presentation) (s : State) :
    Touches [.watch, .capture, .link, .bus, .choices] s (present p s) :=
  eitherOrder_touches (fun s => (presentTo_touches _ _ s).mono) (fun s => (presentTo_touches _ _ s).mono) s (by decide)

/-! ## Cycle planner -/

theorem putAccess_touches (i : Initiator) (a : Option Access) (s : State) :
    Touches [.queue, .channels, .engine] s (putAccess i a s) := by
  cases i
  · exact touches_queue _ _
  · exact touches_channels _ _
  · exact touches_engine _ _
  · exact .refl _ _

/-- What the end of an access may change. -/
abbrev accessFields : List Field := [.queue, .link, .channels, .arb, .capture, .engine, .lineSlots, .timers]

theorem accessDone_touches (i : Initiator) (a : Access) (s : State) : Touches accessFields s (accessDone i a s) := by
  cases i
  · exact (queueAccessDone_touches a s).mono
  · exact (transferDone_touches _ a s).mono
  · exact (serviceAccessDone_touches a s).mono
  · exact .refl _ _

theorem accessGoesOn_touches (i : Initiator) (a : Access) (s : State) :
    Touches accessFields s (accessGoesOn i a s) := by
  unfold accessGoesOn
  exact .ite (((putAccess_touches i none s).mono (m := accessFields)).trans (accessDone_touches i a _))
    ((putAccess_touches i _ s).mono)

theorem clearsAfter_touches (i : Initiator) (s : State) : Touches leaveFields s (clearsAfter i s) := by
  cases i
  · exact .refl _ _
  · exact clearsOver_touches _ s
  · exact .refl _ _
  · exact .refl _ _

theorem isolateAfter_touches (i : Initiator) (s : State) : Touches departFields s (isolateAfter i s) := by
  cases i
  · exact .refl _ _
  · exact changeDue_touches _ s
  · exact .refl _ _
  · exact .refl _ _

theorem grantUnused_touches (o : Owner) (s : State) : Touches settleFields s (grantUnused o s) :=
  ((holdBoundary_touches o s).mono (m := settleFields)).trans (settle_touches _)

theorem driveCycle_touches (c : Cycle) (s : State) : Touches [.planner] s (driveCycle c s) := touches_planner _ _

/-- What the start of a cycle may change. -/
abbrev startFields : List Field :=
  [.planner, .bus, .slots, .queue, .link, .channels, .arb, .capture, .engine, .lineSlots, .timers]

theorem startAccess_touches (i : Initiator) (a : Access) (w : Bool) (s : State) :
    Touches startFields s (startAccess i a w s) := by
  unfold startAccess; split
  · exact ((((touches_arb (l := startFields) s _).trans ((accessGoesOn_touches i _ _).mono)).trans
      ((clearsAfter_touches i _).mono)).trans ((isolateAfter_touches i _).mono)).trans ((grantUnused_touches _ _).mono)
  · exact ((putAccess_touches i _ s).mono (m := startFields)).trans ((driveCycle_touches _ _).mono)

theorem startProbe_touches (p : Nat) (s : State) : Touches startFields s (startProbe p s) := by
  unfold startProbe
  refine .ite ?_ ((driveCycle_touches _ _).mono)
  exact ((touches_arb (l := startFields) s _).trans ((probeDone_touches _ _ _ _ _).mono)).trans
    ((grantUnused_touches _ _).mono)

theorem startCycle_touches (w : Bool) (s : State) : Touches startFields s (startCycle w s) := by
  unfold startCycle
  refine .ite (.refl _ _) ?_
  split
  · exact (driveCycle_touches _ _).mono
  · split
    · exact startAccess_touches _ _ _ _
    · exact startAccess_touches _ _ _ _
  · split
    · exact startAccess_touches _ _ _ _
    · exact startAccess_touches _ _ _ _
    · exact .refl _ _
  · split
    · exact startProbe_touches _ _
    · exact startAccess_touches _ _ _ _
    · exact startAccess_touches _ _ _ _
    · exact .refl _ _
  · exact .refl _ _
  · exact .refl _ _

/-- What the end of STROBE and WAIT may change. -/
abbrev strobeFields : List Field := [.planner, .image, .watch, .capture, .link, .bus, .choices]

theorem storeCycle_touches (c : Cycle) (b : Byte × Byte) (s : State) : Touches [.image] s (storeCycle c b s) := by
  unfold storeCycle; exact .ite (touches_image _ _) (.refl _ _)

theorem finishStrobe_touches (c : Cycle) (w : Nat) (t : Bool) (lines : CardLines) (s : State) :
    Touches strobeFields s (finishStrobe c w t lines s) := by
  unfold finishStrobe
  dsimp only
  exact Touches.trans (Touches.trans (t := modPlanner _ s) (touches_planner s _) ((storeCycle_touches _ _ _).mono))
    ((present_touches _ _).mono)

theorem endWait_touches (w : Nat) (lines : CardLines) (s : State) : Touches strobeFields s (endWait w lines s) := by
  unfold endWait; split
  · exact .ite (finishStrobe_touches _ _ _ _ _) (.refl _ _)
  · exact .refl _ _

theorem timeOut_touches (lines : CardLines) (s : State) : Touches strobeFields s (timeOut lines s) := by
  unfold timeOut; split
  · exact .ite (finishStrobe_touches _ _ _ _ _) (.refl _ _)
  · exact .refl _ _

theorem takeResult_touches (c : Cycle) (s : State) : Touches accessFields s (takeResult c s) := by
  unfold takeResult; split
  · exact touches_arb _ _
  · exact (probeDone_touches _ _ _ _ _).mono
  · split
    · exact (accessGoesOn_touches _ _ s).trans ((clearsAfter_touches _ _).mono)
    · exact (clearsAfter_touches _ _).mono

/-- What a cycle boundary may change. -/
abbrev boundaryFields : List Field :=
  [.planner, .bus, .slots, .queue, .link, .channels, .arb, .capture, .engine, .lineSlots, .timers]

theorem boundaryEffects_touches (c : Cycle) (s : State) : Touches boundaryFields s (boundaryEffects c s) :=
  ((((takeWatchHold_touches s).mono (m := boundaryFields)).trans ((takeResult_touches c _).mono)).trans
    ((changesDue_touches _).mono)).trans ((applySettings_touches _).mono)

theorem boundary_touches (c : Cycle) (s : State) : Touches boundaryFields s (boundary c s) := by
  unfold boundary
  have h1 : Touches boundaryFields s (modArb (fun x => { x with owner := .none })
      (modPlanner (fun p => { p with cycle := none, lastClocks := c.length }) s)) :=
    Touches.trans (touches_planner _ _) (touches_arb _ _)
  exact ((h1.trans (boundaryEffects_touches c _)).trans ((holdBoundary_touches _ _).mono)).trans
    ((settle_touches _).mono)

theorem endCycle_touches (s : State) : Touches boundaryFields s (endCycle s) := by
  unfold endCycle; split
  · exact .ite (boundary_touches _ s) (.refl _ _)
  · exact .refl _ _

theorem endRefresh_touches (s : State) : Touches boundaryFields s (endRefresh s) := by
  unfold endRefresh; split
  · exact .ite (boundary_touches _ s) (.refl _ _)
  · exact .refl _ _

theorem assertStrobe_touches (sp : Space) (a : BitVec 20) (w : Bool) (s : State) :
    Touches [.planner] s (assertStrobe sp a w s) := by
  unfold assertStrobe; split
  · exact touches_planner _ _
  · exact .refl _ _

/-- What a master's release of its strobe may change. -/
abbrev masterFields : List Field :=
  [.planner, .image, .watch, .capture, .link, .bus, .choices, .arb, .engine, .queue, .lineSlots, .timers]

theorem releaseStrobe_touches (k : Nat) (b : Byte) (s : State) : Touches masterFields s (releaseStrobe k b s) := by
  unfold releaseStrobe; split
  · next m _ =>
    have h1 : Touches masterFields s (storeMaster m (masterByte m k b) s) := by
      unfold storeMaster; exact .ite (touches_image _ _) (.refl _ _)
    exact (((h1.trans ((present_touches _ _).mono)).trans ((masterGone_touches _).mono)).trans
      ((takeWatchHold_touches _).mono)).trans ((settle_touches _).mono)
  · exact .refl _ _

/-- What a hold timer expiry may change. -/
abbrev expiryFields : List Field :=
  [.slots, .planner, .arb, .bus, .link, .lineSlots, .channels, .queue, .engine, .timers, .capture]

theorem holdExpired_touches (s : State) : Touches expiryFields s (holdExpired s) := by
  unfold holdExpired; split
  · refine .ite (.refl _ _) ?_
    exact (((Touches.trans (touches_arb _ _) ((faultChannel_touches _ _ _).mono)).trans
      ((faultSlot_touches _ _).mono)).trans (touches_arb _ _)).trans ((settle_touches _).mono)
  · exact .refl _ _

end Sys2Proof.Machine
end

