-- ==== Sys2Proof/Laws/Selection.lean ====
section
/-! SUPPORT. Selections at one instant: how many can follow one another, and that the bound of `serviceSelect` covers
them (R132, R134; log entry 27). -/

namespace Sys2Proof.Machine

/-- The most services of no steps that a line-slot can still have at one instant (R116): one for each still-asserted
count that it has not reached. -/
def lineWork (x : LineSlot) : Nat := if x.pending && !x.stuck then 4 - min x.stillAsserted 3 else 0

/-- The same for a timer: one. -/
def timerWork (t : Timer) : Nat := if t.pending then 1 else 0

/-- The most selections that can follow one another at one instant. -/
def selectionsLeft (s : State) : Nat :=
  (∑ p : Fin 12 × Fin 8, lineWork (lineSlotOf s p.1 p.2)) + ∑ n : Fin 4, timerWork s.timers[n]

theorem lineWork_le (x : LineSlot) : lineWork x ≤ 4 := by unfold lineWork; split <;> omega

theorem timerWork_le (t : Timer) : timerWork t ≤ 1 := by unfold timerWork; split <;> decide

/-- A sum over the line-slots, of four at most each. -/
theorem sum_lines_le (f : Fin 12 × Fin 8 → Nat) (h : ∀ p, f p ≤ 4) : ∑ p, f p ≤ 384 :=
  (Finset.sum_le_card_nsmul _ f 4 fun p _ => h p).trans
    (by rw [Finset.card_univ, Fintype.card_prod, Fintype.card_fin, Fintype.card_fin, smul_eq_mul])

/-- A sum over the timers, of one at most each. -/
theorem sum_timers_le (f : Fin 4 → Nat) (h : ∀ n, f n ≤ 1) : ∑ n, f n ≤ 4 :=
  (Finset.sum_le_card_nsmul _ f 1 fun n _ => h n).trans (by rw [Finset.card_univ, Fintype.card_fin, smul_eq_mul])

/-- 96 line-slots of four services each, and four timers. -/
theorem selectionsLeft_le (s : State) : selectionsLeft s ≤ 388 :=
  Nat.add_le_add (sum_lines_le _ fun _ => lineWork_le _) (sum_timers_le _ fun _ => timerWork_le _)

/-! ## What the end of a service leaves of its line-slot -/

/-- Reading a line-slot after one was changed. -/
theorem lineSlotOf_mod (l l' : Fin 12) (n n' : Fin 8) (f : LineSlot → LineSlot) (s : State) :
    lineSlotOf (modLineSlot l n f s) l' n' =
      if l = l' ∧ n = n' then f (lineSlotOf s l' n') else lineSlotOf s l' n' := by
  show (upd s.lineSlots l fun row => upd row n f)[l'][n'] = _
  by_cases h : l = l'
  · subst h
    rw [upd_self, upd_get]
    simp [lineSlotOf]
  · rw [upd_other _ _ _ _ h]
    simp [h, lineSlotOf]

theorem lineSlotOf_mod_self (l : Fin 12) (n : Fin 8) (f : LineSlot → LineSlot) (s : State) :
    lineSlotOf (modLineSlot l n f s) l n = f (lineSlotOf s l n) := by
  rw [lineSlotOf_mod, if_pos ⟨rfl, rfl⟩]

theorem lineSlotOf_mod_other {l l' : Fin 12} {n n' : Fin 8} (h : ¬ (l = l' ∧ n = n')) (f : LineSlot → LineSlot)
    (s : State) : lineSlotOf (modLineSlot l n f s) l' n' = lineSlotOf s l' n' := by
  rw [lineSlotOf_mod, if_neg h]

/-- Two states whose line-slots agree. -/
theorem lineSlotOf_same {s t : State} (h : t.lineSlots = s.lineSlots) (l : Fin 12) (n : Fin 8) :
    lineSlotOf t l n = lineSlotOf s l n := by
  unfold lineSlotOf; rw [h]

theorem lineSlotOf_stuckNotice (l l' : Fin 12) (n n' : Fin 8) (s : State) :
    lineSlotOf (noticeLineStuck l n s) l' n' = lineSlotOf s l' n' :=
  lineSlotOf_same (notice_touches _ _ _ .lineSlots (by decide)) _ _

/-- An evaluation leaves every other line-slot. -/
theorem evaluate_other {l l' : Fin 12} {n n' : Fin 8} (h : ¬ (l = l' ∧ n = n')) (s : State) :
    lineSlotOf (evaluate l n s) l' n' = lineSlotOf s l' n' := by
  unfold evaluate
  split
  · exact lineSlotOf_mod_other h _ _
  · rfl

/-- An evaluation may set pending, and that alone. -/
theorem evaluate_self (l : Fin 12) (n : Fin 8) (s : State) :
    ∃ p : Bool, lineSlotOf (evaluate l n s) l n = { lineSlotOf s l n with pending := p } ∧
      (asserted s l n = false → p = (lineSlotOf s l n).pending) := by
  unfold evaluate
  split
  · next h =>
    refine ⟨true, lineSlotOf_mod_self _ _ _ _, fun k => ?_⟩
    simp [k] at h
  · exact ⟨_, rfl, fun _ => rfl⟩

/-- The end of a service changes its own line-slot alone. -/
theorem endLineService_other {l l' : Fin 12} {n n' : Fin 8} (h : ¬ (l = l' ∧ n = n')) (s : State) :
    lineSlotOf (endLineService l n s) l' n' = lineSlotOf s l' n' := by
  unfold endLineService sampleLine
  split
  · dsimp only
    split
    · split
      · split
        · rw [evaluate_other h, lineSlotOf_mod_other h, lineSlotOf_mod_other h]
        · rw [lineSlotOf_stuckNotice, lineSlotOf_mod_other h, lineSlotOf_mod_other h, lineSlotOf_mod_other h]
      · rw [evaluate_other h, lineSlotOf_mod_other h, lineSlotOf_mod_other h]
    · exact lineSlotOf_mod_other h _ _
  · rfl

/-- The end of a service that took its line-slot leaves less work there than the pending it took. -/
theorem endLineService_work (l : Fin 12) (n : Fin 8) (s : State) (x : LineSlot) (hp : x.pending = true)
    (hs : x.stuck = false) (h : lineSlotOf s l n = { x with pending := false, inService := true }) :
    lineWork (lineSlotOf (endLineService l n s) l n) < lineWork x := by
  have hx : lineWork x = 4 - min x.stillAsserted 3 := by simp [lineWork, hp, hs]
  have less : ∀ y : LineSlot, y.pending = false → lineWork y < lineWork x := by
    intro y e; rw [hx]; simp [lineWork, e]
  unfold endLineService sampleLine
  rw [if_pos (by rw [h])]
  dsimp only
  split
  · split
    · rw [lineSlotOf_mod_self, lineSlotOf_mod_self, h]
      split
      · next k =>
        obtain ⟨p, e, -⟩ := evaluate_self l n
          (modLineSlot l n (fun x => { x with stillAsserted := x.stillAsserted + 1 })
            (modLineSlot l n (fun x => { x with inService := false }) s))
        rw [e, lineSlotOf_mod_self, lineSlotOf_mod_self, h, hx]
        simp only [lineWork] at k ⊢
        split <;> omega
      · rw [lineSlotOf_stuckNotice, lineSlotOf_mod_self]
        exact less _ rfl
    · next k =>
      obtain ⟨p, e, q⟩ := evaluate_self l n
        (modLineSlot l n (fun x => { x with stillAsserted := 0 })
          (modLineSlot l n (fun x => { x with inService := false }) s))
      rw [e, q (Bool.eq_false_iff.mpr k), lineSlotOf_mod_self, lineSlotOf_mod_self, h]
      exact less _ rfl
  · rw [lineSlotOf_mod_self, h]
    exact less _ rfl

/-! ## A selection leaves fewer -/

/-- The service of no steps of a source, from its selection to its end. -/
theorem service_left (src : Source) (s : State) :
    (∀ l n, lineSlotOf (finishService (beginService src s)) l n = lineSlotOf (releaseSource src (beginService src s)) l n) ∧
      (finishService (beginService src s)).timers = (releaseSource src (beginService src s)).timers := by
  have e : ∃ t : State, finishService (beginService src s) = { t with engine := resetEngine } ∧
      t.lineSlots = (releaseSource src (beginService src s)).lineSlots ∧
      t.timers = (releaseSource src (beginService src s)).timers := by
    refine ⟨_, rfl, ?_, ?_⟩
    all_goals
      split
      · first
        | exact handRecord_touches _ _ .lineSlots (by decide)
        | exact handRecord_touches _ _ .timers (by decide)
      · rfl
  obtain ⟨t, e, hl, ht⟩ := e
  rw [e]
  exact ⟨fun l n => lineSlotOf_same hl l n, ht⟩

/-- A line-slot that can be selected is pending and not stuck; so is a timer pending. -/
theorem selected_pending {s : State} {src : Source} (h : selected s = some src) :
    (∃ l n, src = .lineSlot l n ∧ (lineSlotOf s l n).pending = true ∧ (lineSlotOf s l n).stuck = false) ∨
      ∃ n, src = .timer n ∧ s.timers[n].pending = true := by
  have line : ∀ keep, firstLine s keep = some src →
      ∃ l n, src = .lineSlot l n ∧ (lineSlotOf s l n).pending = true ∧ (lineSlotOf s l n).stuck = false := by
    intro keep e
    obtain ⟨l, -, e⟩ := List.exists_of_findSome?_eq_some e
    split at e
    · obtain ⟨n, f, rfl⟩ := Option.map_eq_some_iff.mp e
      have k := List.find?_some f
      simp only [lineEligible, Bool.and_eq_true, Bool.not_eq_true'] at k
      exact ⟨l, n, rfl, by tauto, by tauto⟩
    · cases e
  have timer : ∀ keep, firstTimer s keep = some src → ∃ n, src = .timer n ∧ s.timers[n].pending = true := by
    intro keep e
    obtain ⟨n, f, rfl⟩ := Option.map_eq_some_iff.mp (show Option.map _ _ = _ from e)
    have k := List.find?_some f
    simp only [timerEligible, Bool.and_eq_true] at k
    exact ⟨n, rfl, k.2.1⟩
  unfold selected at h
  split at h
  · next e => cases h; exact .inl (line _ e)
  · split at h
    · next e => cases h; exact .inr (timer _ e)
    · split at h
      · next e => cases h; exact .inl (line _ e)
      · exact .inr (timer _ h)

/-- A service of no steps leaves fewer selections at its instant. -/
theorem service_shrinks {s : State} {src : Source} (h : selected s = some src) :
    selectionsLeft (finishService (beginService src s)) < selectionsLeft s := by
  obtain ⟨hl, ht⟩ := service_left src s
  unfold selectionsLeft
  obtain ⟨l, n, rfl, hp, hs⟩ | ⟨n, rfl, hp⟩ := selected_pending h
  · have ht' : (finishService (beginService (.lineSlot l n) s)).timers = s.timers := by
      rw [ht]
      exact endLineService_touches l n _ .timers (by decide)
    rw [ht']
    refine Nat.add_lt_add_right (Finset.sum_lt_sum (fun p _ => ?_) ⟨(l, n), Finset.mem_univ _, ?_⟩) _
    · rw [hl]
      by_cases k : l = p.1 ∧ n = p.2
      · obtain ⟨rfl, rfl⟩ := k
        exact Nat.le_of_lt (endLineService_work _ _ _ _ hp hs (lineSlotOf_mod_self _ _ _ _))
      · exact Nat.le_of_eq (congrArg lineWork ((endLineService_other k _).trans (lineSlotOf_mod_other k _ _)))
    · rw [hl]
      exact endLineService_work _ _ _ _ hp hs (lineSlotOf_mod_self _ _ _ _)
  · refine Nat.add_lt_add_of_le_of_lt (Finset.sum_le_sum fun p _ => Nat.le_of_eq (congrArg lineWork (hl _ _)))
      (Finset.sum_lt_sum (fun k _ => ?_) ⟨n, Finset.mem_univ _, ?_⟩)
    all_goals
      rw [ht]
      simp only [releaseSource, beginService, takeSource, modTimer]
    · rw [upd_get, upd_get]
      split
      · simp [timerWork]
      · exact Nat.le_refl _
    · rw [upd_self, upd_self]
      have one : timerWork s.timers[n] = 1 := by unfold timerWork; rw [hp]; rfl
      rw [one]
      exact Nat.zero_lt_one

/-- With nothing left to select, no selection is made. -/
theorem selected_of_none_left {s : State} (h : selectionsLeft s = 0) : selected s = none := by
  cases e : selected s with
  | none => rfl
  | some src => have := service_shrinks e; omega

/-- Any two bounds that cover what is left give the same selections. -/
theorem selectServices_enough : ∀ (j k : Nat) (s : State), selectionsLeft s ≤ j → selectionsLeft s ≤ k →
    selectServices j s = selectServices k s := by
  have zero : ∀ (k : Nat) (s : State), selectionsLeft s = 0 → selectServices k s = s := by
    intro k s h
    cases k with
    | zero => rfl
    | succ k => unfold selectServices; rw [selected_of_none_left h]; split <;> rfl
  intro j
  induction j with
  | zero => intro k s hj _; rw [zero k s (by omega)]; rfl
  | succ j ih =>
    intro k s hj hk
    cases k with
    | zero => rw [zero (j + 1) s (by omega)]; rfl
    | succ k =>
      unfold selectServices
      split
      · split
        · next src e =>
          have lt := service_shrinks e
          dsimp only
          split
          · exact ih k _ (by omega) (by omega)
          · rfl
        · rfl
      · rfl

/-- The bound of `serviceSelect` covers every state (log entry 27). -/
theorem serviceSelect_enough (k : Nat) (s : State) (h : selectionsLeft s ≤ k) : selectServices k s = serviceSelect s :=
  selectServices_enough _ _ s h (Nat.le_trans (selectionsLeft_le s) (by decide))

end Sys2Proof.Machine
end

