-- ==== Sys2Proof/WellFormed.lean ====
section
/-! DEFINITION. Which commands can come from outside: a request must be the row its own frame spells, with a payload
of at most 1024 bytes (R183, R187), a discarded frame must fail the receiver's test (R185), and an I/O address has 16
bits (R9). -/

namespace Sys2Proof

/-- A request is well formed when its frame passes the receiver and spells this very row. -/
def requestWellFormed (i : Instr) : Bool :=
  match requestFrame i with
  | some (kind, tag, payload) =>
    payload.length ≤ 1024 && kind.toNat < 128 && decide (requestOf kind tag payload = i)
  | none => true

/-- The check of one command. -/
def wellFormed (i : Instr) : Bool :=
  match i with
  | .frameDiscarded kind tag length payload check =>
    !(framePasses kind tag length payload check) && (payload.length = length.toNat || 1024 < length.toNat)
  | .masterStrobeAssert space address _ => space = .mem || address.toNat < 65536
  | i => requestWellFormed i

end Sys2Proof
end

