-- ==== Sys2Proof/Tests/Slice0.lean ====
section
/-! SUPPORT. Tests: ill-formed commands are refused by the check, the manual's worked cases come out as it gives them,
and a concrete state meets the hypotheses of each statement of Obligations.lean. -/

namespace Sys2Proof.Tests

open Sys2Proof Sys2Proof.Machine

set_option Elab.async false

/-! ## Small states -/

/-- After part reset, with the link ready. -/
def ready : State := { State.reset with link := { State.reset.link with ready := true } }

/-- The bus in another state. -/
def inBus (b : BusState) (s : State) : State := { s with bus := { s.bus with state := b } }

/-- A slot in another state, with the fields that go with it. -/
def seat (n : Fin 8) (st : SlotState) (s : State) : State :=
  modSlot n (fun x => { x with
    state := st, present := decide (st ≠ .empty), fault := if st = .faulted then .holdLimit else .none }) s

/-- RUN with slot 3 attached. -/
def live : State := inBus .run (seat 3 .attached ready)

/-- A transmit list with sixteen replies. -/
def crowd (s : State) : State :=
  { s with link := { s.link with tx := List.replicate 16 { kind := 0x84, tag := 0, payload := [] } } }

/-- A receiver with these bytes gathered. -/
def receiving (st : RxState) (sync : Bool) (header payload : List Byte) (s : State) : State :=
  { s with link := { s.link with rx := { state := st, sync := sync, header := header, payload := payload } } }

/-- A running narrow MEM read at slot 3 by the operation queue. -/
def plainCycle : Cycle where
  kind := .access
  phase := .setup
  spent := none
  space := .mem
  address := 0xC0000
  write := false
  wide := false
  target := .slot 3
  extra := 0
  clock := 16
  limit := 120
  waits := 0
  initiator := .queue
  members := Vector.replicate 8 false
  imageOffset := 0
  readOnly := false
  unclaimed := false
  highByte := false
  writeLow := 0xFF
  writeHigh := 0xFF
  readLow := 0xFF
  readHigh := 0xFF
  samples := Vector.replicate 8 0xFF
  timedOut := false
  lost := false
  cardSide := none

/-- A state in which this cycle runs. -/
def driving (c : Cycle) (s : State) : State := { s with planner := { s.planner with cycle := some c } }

/-- An unclaimed byte read in progress. -/
def plainAccess : Access where
  space := .mem
  address := 0xC0000
  word := false
  write := false
  writeLow := 0xFF
  writeHigh := 0xFF
  low := unclaimedByte
  high := unclaimedByte
  wideAttempt := false
  narrowed := false
  stage := .first
  lowResult := { status := .ok, value := 0xFF }
  highResult := { status := .ok, value := 0xFF }
  cycles := 0
  terminal := false
  pulsed := false

/-- An operation at the head of the queue, in this execution state, with its frame open. -/
def performing (st : QueueState) (k : OpKind) (s : State) : State :=
  { s with queue := { s.queue with
    state := st, nextFrame := 1
    ops := [{ kind := k, frame := 0, index := 0, done := 0, cycles := 0, flags := noFlags, data := [] }]
    frames := [{ id := 0, tag := 0x21, stopOnError := true, opCount := 1, adjusted := false, wanted := true,
                 results := [] }] } }

/-- Channel `n` RUNNING at slot 3 in this mode. -/
def running (n : Fin 4) (m : DmaMode) (s : State) : State :=
  modChannel n (fun c => { c with mode := m, owner := 3, state := .running, addressLoaded := true, countLoaded := true }) s

/-- Slot 3's card asserts its request for channel `n`. -/
def requesting (n : Fin 4) (s : State) : State :=
  { s with cards := upd s.cards 3 fun x => { x with requests := upd x.requests n fun _ => true } }

/-- Slot 3's card asserts its copy of line `l`. -/
def asserting (l : Fin 12) (s : State) : State :=
  { s with cards := upd s.cards 3 fun x => { x with lines := upd x.lines l fun _ => true } }

/-- A cascade grant of channel 3 in force. -/
def granted (s : State) : State :=
  modArb (fun a => { a with
    owner := .master 3, hold := .cascade 3, grant := some 3, timerChannel := some 3, timerLimit := 50 }) (running 3 .cascade s)

/-- A master cycle to an unclaimed address under that grant. -/
def plainMaster : MasterCycle where
  channel := 3
  slot := 3
  space := .mem
  address := 0xC0000
  write := true
  found := unclaimedByte
  fetched := 0xFF
  spent := none

/-- A master cycle in progress. -/
def mastering (s : State) : State := { s with planner := { s.planner with master := some plainMaster } }

/-- Entry 23 holds these steps, and the engine stands in this state before step 0 of it for line-slot INT9 of slot 3. -/
def serving (st : EngineState) (steps : List Step) (s : State) : State :=
  { s with
    entries := upd s.entries 23 fun _ => { record := true, steps := steps }
    engine := { resetEngine with state := st, source := some (.lineSlot 9 3), entry := some (some 23) } }

/-- Entry `e` of the claim table. -/
def claiming (e : Fin 24) (c : Claim) (s : State) : State := { s with claims := upd s.claims e fun _ => c }

/-- An enabled I/O claim of slot 2: the worked overlap check's entry 6. -/
def ioClaim (base limit d : Nat) : Claim :=
  { resetClaim with enabled := true, space := .io, base := base, limit := limit, decode := d, target := .slot 2 }

/-- An enabled window on the whole first page of image memory. -/
def window : Claim := { resetClaim with enabled := true, limit := 0xFFFF, target := .image }

/-- A service record of a source with these data. -/
def plainRecord (src : Source) (data : List Byte) : Record where
  source := src
  slot := none
  flags := noRecordFlags
  sequence := 0
  time := 0
  coalesced := 0
  lost := 0
  firstFail := none
  entry := none
  steps := none
  data := data

/-- A full capture queue: 512 records without data. -/
def full (s : State) : State :=
  { s with capture := { s.capture with records := List.replicate 512 (plainRecord (.timer 0) []), seq := 512 } }

/-- Whether a command answers a next state with this property. -/
def gives (r : Result) (p : State → Bool) : Bool :=
  match r with
  | .next t => p t
  | .fault _ => false
  | .refused _ => false

/-- The last frame of the transmit list is this reply. -/
def replied (kind tag : Byte) (payload : List Byte) (t : State) : Bool :=
  t.link.tx.getLast? == some { kind := kind, tag := tag, payload := payload }

/-! ## The check refuses ill-formed commands -/

/-- The payload 00h of a BUS request is RUN (R195), so it spells no UNKNOWN_REQUEST. -/
theorem test_wellFormed_refuses_known_as_unknown : wellFormed (.unknownRequest 0x05 1 [0]) = false := by decide

/-- A reply's kind is discarded, not dispatched (R185). -/
theorem test_wellFormed_refuses_reply_kind : wellFormed (.unknownRequest 0x80 1 []) = false := by decide

/-- A payload above 1024 bytes is no frame (R183). -/
theorem test_wellFormed_refuses_long_payload : wellFormed (.imgWrite 1 0 1020 (List.replicate 1020 0)) = false := by
  decide +kernel

/-- A DRAIN that carries CLEAR is the row DRAIN_CLEAR, and an OPS row holds any payload of at most 1024 bytes. -/
theorem test_wellFormed_accepts_requests :
    wellFormed (.drainClear 1 255) = true ∧ wellFormed (.ops 1 []) = true ∧ wellFormed (.get 0x21 8) = true := by
  decide

/-- A frame that passes the receiver is no FRAME_DISCARDED (R183, R185). -/
theorem test_wellFormed_refuses_good_frame_as_discarded :
    wellFormed (.frameDiscarded 0x04 0x21 1 [8] 0xD2) = false ∧ wellFormed (.frameDiscarded 0x04 0x21 1 [8] 0xD3) = true := by
  decide

/-- A discarded frame's payload has the length it names, unless the length is above 1024 (R185). -/
theorem test_wellFormed_refuses_short_discarded : wellFormed (.frameDiscarded 0x04 0x21 2 [8] 0) = false := by decide

/-- An I/O address has 16 bits (R9). -/
theorem test_wellFormed_refuses_wide_port :
    wellFormed (.masterStrobeAssert .io 0x10000 false) = false ∧ wellFormed (.masterStrobeAssert .io 0xFFFF false) = true := by
  decide

/-! ## The manual's worked cases -/

/-- Worked check of Section 11.2: GET of setting 8 with tag 0x21, and its reply. -/
theorem test_get_frame_bytes :
    frameBytes 0x04 0x21 [0x08] = [0xA5, 0x5A, 0x04, 0x21, 0x01, 0x00, 0x08, 0xD2] ∧
    frameBytes 0x84 0x21 [0x00, 0x08, 0x80, 0x01] =
      [0xA5, 0x5A, 0x84, 0x21, 0x04, 0x00, 0x00, 0x08, 0x80, 0x01, 0xCE] := by decide

theorem test_get_setting_8 : gives (exec (.get 0x21 8) ready) (replied 0x84 0x21 [0, 8, 0x80, 0x01]) = true := by decide

/-- R191: setting 2 takes 1 to 250, so 251 is clamped to 250 and answered ADJUSTED. -/
theorem test_set_clamps : gives (exec (.set 1 2 251) ready) (fun t =>
    (t.settings.readyTimeout == 250) && replied 0x83 1 [1, 2, 250, 0] t) = true := by decide

theorem test_set_clock_in_run : gives (exec (.set 1 1 9) live) (replied 0x83 1 [4]) = true := by decide

/-- R192: the fixed facts of the part. -/
theorem test_ident : gives (exec (.ident 1) ready) (replied 0x81 1
    [0, 0x31, 0x0A, 0x08, 0x02, 0x01, 8, 0, 24, 24, 4, 4, 2, 12, 0x00, 0x02, 0x00, 0x40, 32, 0x00, 0x04]) = true := by decide

/-- R192: STATUS clears the link error count it reports. -/
theorem test_status_clears_errors :
    gives (exec (.status 1) { ready with link := { ready.link with errors := 3 } }) (fun t => t.link.errors == 0) = true := by
  decide

/-- R185: a frame whose check byte is wrong. -/
theorem test_discarded : gives (exec (.frameDiscarded 0x04 0x21 1 [8] 0xD3) ready) (fun t =>
    (t.link.errors == 1) && (t.link.tx == [])) = true := by decide

theorem test_unknown_request : gives (exec (.unknownRequest 0x16 9 []) ready) (replied 0x96 9 [2]) = true := by decide

/-- R184: the check byte of GET's frame dispatches it. -/
theorem test_byte_taken_check : gives (exec (.byteTaken 0xD2) (receiving .payload false [0x04, 0x21, 1, 0] [8] ready))
    (replied 0x84 0x21 [0, 8, 0x80, 0x01]) = true := by decide

theorem test_silence : gives (exec .receiverSilenceTimeout (receiving .header false [0x04] [] ready)) (fun t =>
    (t.link.errors == 1) && (t.link.rx == resetReceiver)) = true := by decide

theorem test_link_loss : gives (exec .linkLoss (crowd ready)) (fun t => !t.link.ready && (t.link.tx == [])) = true := by
  decide

theorem test_link_ready : gives (exec .linkReady State.reset) (fun t => t.link.ready) = true := by decide

theorem test_in_pipe_read : gives
    (exec .inPipeRead { ready with link := { ready.link with tx := [{ kind := 0x84, tag := 0x21, payload := [0, 8, 0x80, 1] }] } })
    (fun t => t.link.lastSent == [0xA5, 0x5A, 0x84, 0x21, 0x04, 0x00, 0x00, 0x08, 0x80, 0x01, 0xCE]) = true := by decide

/-- R194, R28, R45: slots from the presence inputs, supply LOW when its input is low. -/
theorem test_part_reset : gives (exec (.partReset 0x08 0x20 false) live) (fun t =>
    (t.slots[3].state == .isolated) && t.slots[5].wide && (t.bus.supply == .low) && (t.bus.state == .off)) = true := by
  decide

/-- R39: HOLD from RUN. -/
theorem test_bus_hold : gives (exec (.busHold 7) live) (replied 0x85 7 [0, 3, 1]) = true := by decide

theorem test_bus_run_refused : gives (exec (.busRun 7) ready) (replied 0x85 7 [4, 0, 0]) = true := by decide

theorem test_bus_stop : gives (exec (.busStop 7) live) (fun t => t.bus.state == .stop) = true := by decide

/-- R37: entry to OFF isolates; R42: OFF in OFF is answered OK. -/
theorem test_bus_off : (enterDead .off .request live).slots[3].state = .isolated ∧
    gives (exec (.busOff 7) ready) (replied 0x85 7 [0, 0, 0]) = true := by decide

/-- R40: RESET in RESETTING is refused; the slots stay attached through a reset. -/
theorem test_bus_reset : (enterDead .resetting .request live).slots[3].state = .attached ∧
    gives (exec (.busReset 7) (inBus .resetting ready)) (replied 0x85 7 [4, 1, 0]) = true := by decide

/-- Section 12.2: with setting 5 at 1 the pulse ends in HOLD. -/
theorem test_pulse_end : gives (exec .pulseEnd
    (inBus .resetting { ready with settings := { ready.settings with afterReset := 1 } })) (fun t =>
      (t.bus.state == .hold) && (t.bus.cause == .resetEnd)) = true := by decide

theorem test_slot_attach : gives (exec (.slotAttach 1 3) (seat 3 .isolated ready)) (fun t =>
    (t.slots[3].state == .attached) && replied 0x86 1 [0, 2] t) = true := by decide

theorem test_slot_isolate_empty : gives (exec (.slotIsolate 1 3) ready) (replied 0x86 1 [4, 0]) = true := by decide

theorem test_presence : gives (exec (.presenceArrival 3) ready) (fun t => t.slots[3].state == .isolated) = true ∧
    gives (exec (.presenceLoss 3) live) (fun t => t.slots[3].state == .empty) = true := by decide

theorem test_supply_lost : gives (exec .supplyLost { live with bus := { live.bus with supply := .low } }) (fun t =>
    (t.bus.state == .down) && (t.bus.cause == .supply) && (t.slots[3].state == .isolated)) = true := by decide

/-- Worked overlap checks of Section 1.2: the three writes to entry 9 against entry 6, and the wrapped one. -/
theorem test_claim_overlaps :
    gives (exec (.claimWrite 1 ⟨9, 1, 1, 16, 0x1300, 0x130F, 2, 0, 0, 0, 0⟩) (claiming 6 (ioClaim 0x300 0x31F 10) ready))
      (replied 0x87 1 [6]) = true ∧
    gives (exec (.claimWrite 1 ⟨9, 1, 1, 12, 0x320, 0x33F, 2, 0, 0, 0, 0⟩) (claiming 6 (ioClaim 0x300 0x31F 10) ready))
      (replied 0x87 1 [0]) = true ∧
    gives (exec (.claimWrite 1 ⟨9, 1, 1, 16, 0, 0x7FF, 2, 0, 0, 0, 0⟩) (claiming 6 (ioClaim 0x300 0x31F 10) ready))
      (replied 0x87 1 [6]) = true ∧
    gives (exec (.claimWrite 1 ⟨9, 1, 1, 16, 0x3F0, 0x40F, 2, 0, 0, 0, 0⟩) (claiming 11 (ioClaim 0 0xF 10) ready))
      (replied 0x87 1 [6]) = true := by decide +kernel

/-- R5: the images of IO 0x300 to 0x30F with d = 10. -/
theorem test_claim_images : (ioClaim 0x300 0x30F 10).matches .io 0x0B05 = true ∧
    (ioClaim 0x300 0x30F 10).matches .io 0xFF0F = true ∧ (ioClaim 0x300 0x30F 10).matches .io 0x0310 = false := by decide

/-- Section 1.3, timeout limits: T = 15 µs gives 120 clocks at c = 16 and 68 at c = 9. The unclaimed read of a queue with
one slot attached. -/
theorem test_cycle_start_limit :
    gives (exec (.cycleStart false) (modArb (fun a => { a with owner := .queue })
      (performing .executing (.access .mem false 0xC0000 false 1 false []) live)))
      (fun t => t.planner.cycle.any fun c => (c.limit == 120) && (c.target == .all) && c.unclaimed) = true ∧
    gives (exec (.cycleStart false) (modArb (fun a => { a with owner := .queue })
      (performing .executing (.access .mem false 0xC0000 false 1 false [])
        { live with settings := { live.settings with clock := 9 } })))
      (fun t => t.planner.cycle.any fun c => c.limit == 68) = true := by decide

/-- R18's case: slots 0, 2 and 5 give 0x7F AND 0xFF AND 0xF3 = 0x73. -/
theorem test_unclaimed_read :
    (carriedBytes (seat 0 .attached (seat 2 .attached (seat 5 .attached live)))
      #v[0xFF7F, 0, 0xFFFF, 0, 0, 0xFFF3, 0, 0]
      { plainCycle with target := .all, members := #v[true, false, true, false, false, true, false, false] } false).1
      = 0x73 := by decide

/-- R22's case: slots 1 and 4 attached, slot 1 drives 0x42. -/
theorem test_probe_samples :
    probeSamples (seat 1 .attached (seat 4 .attached (inBus .run ready)))
      #v[0, 0xFF42, 0, 0, 0xFFFF, 0, 0, 0]
      { plainCycle with kind := .probe, target := .all,
                        members := #v[false, true, false, false, true, false, false, false] } false
      = #v[0xFF, 0x42, 0xFF, 0xFF, 0xFF, 0xFF, 0xFF, 0xFF] := by decide

/-- Cycle lengths of Section 1.3: 5 clocks for a NARROW MEM cycle, and 126 for a NARROW IO cycle that times out. -/
theorem test_cycle_lengths :
    gives (exec .cycleEnd (driving { plainCycle with phase := .recovery } live)) (fun t => t.planner.lastClocks == 5) = true ∧
    gives (exec .cycleEnd (driving { plainCycle with phase := .recovery, space := .io, waits := 120, timedOut := true } live))
      (fun t => t.planner.lastClocks == 126) = true := by decide

/-- R14: a timed-out read takes 0xFF. -/
theorem test_ready_timeout : carriedBytes live (Vector.replicate 8 0) plainCycle true = (0xFF, 0xFF) := by decide

/-- Section 5.6, channel 1: transfer 2 wraps within page 3, from offset 0xFFFF to 0x0000. -/
theorem test_page_wraps :
    (transferDone 1 plainAccess (modChannel 1 (fun c => { c with page := 3, offset := 0xFFFF, count := 0xFFFD })
      (running 1 .single live))).channels[1].offset = 0 := by decide

/-- Section 5.6, channel 2: the terminal count transfer at 0xA000C ends at offset 0x000A, count word 0, DONE. -/
theorem test_terminal_count :
    let t := transferDone 2 { plainAccess with word := true, terminal := true }
      (modChannel 2 (fun c => { c with page := 10, offset := 0x000C, count := 0xFFFF, down := true }) (running 2 .single live))
    t.channels[2].offset = 0x000A ∧ t.channels[2].count = 0 ∧ t.channels[2].state = .done ∧ t.channels[2].finished = true := by
  decide

/-- Section 5.6: channel 2 stores offset 0x0011 as 0x0010 with the reply ADJUSTED; n = 3 stores 0xFFFD. -/
theorem test_dma_phases :
    gives (exec (.dmaAddr 1 2 10 0x0011 1) ready) (fun t =>
      (t.channels[2].offset == 0x0010) && replied 0x8A 1 [1] t) = true ∧
    gives (exec (.dmaCount 1 2 3) ready) (fun t => t.channels[2].count == 0xFFFD) = true ∧
    gives (exec (.dmaCount 1 1 65536) ready) (fun t => t.channels[1].count == 0) = true := by decide

theorem test_dma_mode : gives (exec (.dmaMode 1 1 0 1 3 1) ready) (fun t =>
    (t.channels[1].owner == 3) && t.channels[1].recordEnd && replied 0x89 1 [0] t) = true := by decide

/-- Section 12.2: START from LOADED answers RUNNING; an unattached owner is refused (R88). -/
theorem test_dma_start :
    gives (exec (.dmaStart 1 1) (modChannel 1 (fun c => { c with owner := 3, state := .loaded }) live))
      (fun t => (t.channels[1].state == .running) && replied 0x8C 1 [0, 2] t) = true ∧
    gives (exec (.dmaStart 1 1) (modChannel 1 (fun c => { c with state := .loaded }) live)) (replied 0x8C 1 [4]) = true := by
  decide

theorem test_dma_clear : gives (exec (.dmaClear 1 1) (running 1 .single live)) (fun t =>
    (t.channels[1].state == .idle) && replied 0x8C 1 [0, 0] t) = true := by decide

/-- R90: a second PULSE finds pulse pending on. -/
theorem test_dma_pulse : gives (exec (.dmaPulse 1 1) (running 1 .single live)) (fun t => t.channels[1].pulse) = true ∧
    gives (exec (.dmaPulse 1 1) (modChannel 1 (fun c => { c with pulse := true }) (running 1 .single live)))
      (replied 0x8C 1 [5]) = true := by decide

/-- R92: the assertion of a card that is not the owner counts as stray. -/
theorem test_stray_request : gives (exec (.channelRequestAssert 1 3) live) (fun t => t.channels[1].stray == 1) = true := by
  decide

/-- R59: the owner's release ends the grant and the bus is free again. -/
theorem test_grant_release : gives (exec (.channelRequestDeassert 3 3) (requesting 3 (granted live))) (fun t =>
    (t.arb.grant == none) && (t.arb.timerChannel == none) && (t.arb.owner == .none)) = true := by decide

/-- Section 12.5: the hold limit faults channel 3 and slot 3. -/
theorem test_hold_limit : gives (exec .holdTimerExpiry (granted live)) (fun t =>
    (t.channels[3].state == .faulted) && (t.channels[3].cause == .holdLimit) && (t.slots[3].state == .faulted)) = true := by
  decide

/-- R34, R102: between the two cycles of a transfer its owner's ISOLATE waits. -/
theorem test_isolate_waits_for_transfer :
    gives (exec (.slotIsolate 1 3) (modChannel 1 (fun c => { c with access := some { plainAccess with stage := .second } })
      (running 1 .single live))) (fun t => (t.slots[3].state == .attached) && (t.slots[3].change == .isolate)) = true := by
  decide

/-- R89, R102: the owner's loss between the cycles makes a CLEAR that waited for the second one. -/
theorem test_owner_lost_clears :
    gives (exec (.presenceLoss 3) (modChannel 1 (fun c => { c with
      access := some { plainAccess with stage := .second }, waiting := [{ tag := 9, wanted := true }] }) (running 1 .single live)))
      (fun t => (t.channels[1].state == .idle) && replied 0x8C 9 [0, 0] t) = true := by decide

/-- R138, R170: a watch hold due at the boundary that ends a service marks its record HELD. -/
theorem test_hold_marks_last_cycle :
    gives (exec .cycleEnd (driving { plainCycle with phase := .recovery, initiator := .service }
      { serving .serving [.inp 0x1F7 false] live with
        bus := { live.bus with holdRequest := some 0 }
        engine := { (serving .serving [.inp 0x1F7 false] live).engine with access := some plainAccess } }))
      (fun t => (t.bus.state == .hold) && (t.capture.records.map fun r => r.flags.held) == [true]) = true := by decide

/-- R43, R44: a SET of setting 1 waits for a master cycle's boundary. -/
theorem test_set_waits_for_master :
    gives (exec (.set 1 1 9) (inBus .hold (mastering live))) (fun t => t.bus.clock == 16) = true ∧
    (masterGone (mastering { live with settings := { live.settings with clock := 9 } })).bus.clock = 9 := by decide

/-- R1: two microseconds at code 16 after SETUP began, a NARROW MEM cycle with E = 0 has counted WAIT clocks, and its
strobe is asserted. -/
theorem test_wait_clocks_so_far :
    (plainCycle.after live 22).phase = .wait ∧ (plainCycle.after live 22).waits = 7 ∧ (plainCycle.after live 7).phase = .strobe ∧
    (plainCycle.after live 1).phase = .setup ∧ pinStrobe (driving (plainCycle.after live 7) live) = some .mrd ∧
    pinStrobe (driving plainCycle live) = none := by decide

/-- R23: the part drives the byte of a window read on the owner's D7-D0 from E clocks on. -/
theorem test_master_read_data :
    pinData { live with planner := { live.planner with master := some { plainMaster with
      write := false, fetched := 0x77, spent := some 2, found := { (window.resolved 0 5) with extra := 1 } } } }
      (Vector.replicate 8 0) 3 = some 0xFF77 := by decide

/-- R23: a master's read in a window takes the byte from image memory; its write stores one (R176). -/
theorem test_master_window :
    gives (exec (.masterStrobeAssert .mem 0x5 false) (claiming 0 window (granted
      { live with image := { live.image with cells := [(5, 0x77)] } })))
      (fun t => t.planner.master.any fun m => m.fetched == 0x77) = true ∧
    (storeMaster { plainMaster with found := window.resolved 0 5 } 0x66 live).image.cells = [(5, 0x66)] := by decide

/-- R62 and R64: the sixteenth owed refresh sends REFRESH_SHORT, the next expiry is lost. -/
theorem test_refresh_owed :
    gives (exec .refreshIntervalExpiry (driving plainCycle (modArb (fun a => { a with owed := 15 }) live))) (fun t =>
      (t.arb.owed == 16) && t.arb.shortReported) = true ∧
    gives (exec .refreshIntervalExpiry (driving plainCycle (modArb (fun a => { a with owed := 16 }) live))) (fun t =>
      (t.arb.owed == 16) && (t.arb.lost == 1)) = true := by decide

/-- R63: a refresh cycle of 5 clocks pays one, and the row wraps from 255 to 0. -/
theorem test_refresh_cycle_end :
    gives (exec .refreshCycleEnd (driving { plainCycle with kind := .refresh, target := .all }
      (modArb (fun a => { a with owed := 1, row := 255, owner := .refresh }) live)))
      (fun t => (t.arb.owed == 0) && (t.arb.row == 0) && (t.planner.lastClocks == 5)) = true := by decide

/-- Section 4.3: three IO_RD of width 2 and repeat 128 are accepted, four refused with RANGE. -/
theorem test_ops_sizes :
    gives (exec (.ops 1 (0 :: 3 :: (List.replicate 3 ([3, 2, 128, 0, 0, 0, 0, 0] : List Byte)).flatten)) live)
      (fun t => t.queue.ops.length == 3) = true ∧
    gives (exec (.ops 1 (0 :: 4 :: (List.replicate 4 ([3, 2, 128, 0, 0, 0, 0, 0] : List Byte)).flatten)) live)
      (replied 0x88 1 [3, 0]) = true := by decide

/-- Section 4.3: one MEM_RD of width 2 and repeat 0, and one PROBE, are accepted. -/
theorem test_ops_read_and_probe :
    gives (exec (.ops 1 [0, 2, 1, 2, 0, 0, 0, 0, 0, 0, 5, 1, 1, 0, 0, 2, 0, 0]) live)
      (fun t => (t.queue.ops.length == 2) && (t.queue.state == .executing)) = true := by decide

theorem test_pause_expiry : gives (exec .pauseExpiry (performing .pausing (.pause 1) live)) (replied 0x88 0x21 [0, 1, 0, 0, 0, 0]) = true := by
  decide

/-- R76: the expiry of a wait that its channel has ended first does not happen to the next wait. -/
theorem test_overtaken_timeout :
    gives (exec .waitDmaTimeout { performing .waitingDma (.waitDma 1 1) live with
      queue := { (performing .waitingDma (.waitDma 1 1) live).queue with overtaken := true } })
      (fun t => (t.queue.state == .waitingDma) && !t.queue.overtaken) = true := by decide

theorem test_wait_dma_timeout : gives (exec .waitDmaTimeout (performing .waitingDma (.waitDma 1 1) live))
    (replied 0x88 0x21 [0, 1, 1, 0, 0, 0]) = true := by decide

/-- R110: a rising edge of a watched EDGE line sets pending; a second one coalesces. -/
theorem test_line_assert :
    gives (exec (.lineAssert 9 3) live) (fun t => t.lineSlots[9][3].pending) = true ∧
    gives (exec (.lineAssert 9 3) (modLineSlot 9 3 (fun x => { x with pending := true }) live)) (fun t =>
      t.capture.lineCounts[9][3].coalesced == 1) = true := by decide

theorem test_line_deassert : gives (exec (.lineDeassert 9 3) (asserting 9 live)) (fun t =>
    !t.lineSlots[9][3].reference && !t.cards[3].lines[9]) = true := by decide

/-- Section 12.4: CLEAR_STUCK of a quiet LEVEL line leaves pending off; of an asserted one it sets pending (R119). -/
theorem test_clear_stuck :
    gives (exec (.clearStuck 1 9 0x08) (modLineSlot 9 3 (fun x => { x with stuck := true, stillAsserted := 4 })
      { live with lines := upd live.lines 9 fun c => { c with sense := .level } }))
      (fun t => !t.lineSlots[9][3].stuck && (t.lineSlots[9][3].stillAsserted == 0) && !t.lineSlots[9][3].pending) = true ∧
    gives (exec (.clearStuck 1 9 0x08) (asserting 9 (modLineSlot 9 3 (fun x => { x with stuck := true, stillAsserted := 4 })
      { live with lines := upd live.lines 9 fun c => { c with sense := .level } })))
      (fun t => t.lineSlots[9][3].pending) = true := by decide

theorem test_clear_pending : gives (exec (.clearPending 1 9 0x08) (modLineSlot 9 3 (fun x => { x with pending := true }) live))
    (fun t => !t.lineSlots[9][3].pending) = true := by decide

/-- Section 12.3: LINE CONFIGURE INT9: LEVEL, enabled, group 1, keep-alive off, entry 10. -/
theorem test_line_configure : gives (exec (.lineConfigure 1 9 1 1 1 0 10) live) (fun t =>
    (t.lines[9] == { sense := .level, enabled := true, group := 1, keepAlive := false, entry := some 10 }) &&
      (t.link.tx.getLast?.any fun f => (f.kind == 0x8E) && (f.payload.take 6 == [0, 1, 1, 1, 0, 10]))) = true := by decide

/-- Section 12.3: a captured length of 65 is refused with RANGE, 33 accepted. -/
theorem test_service_write :
    gives (exec (.serviceWrite 1 10 1 2 [1, 1, 0, 0xF7, 1, 0, 0, 0, 2, 2, 32, 0xF0, 1, 0, 0, 0]) ready)
      (replied 0x8F 1 [3]) = true ∧
    gives (exec (.serviceWrite 1 10 1 2 [1, 1, 0, 0xF7, 1, 0, 0, 0, 2, 2, 16, 0xF0, 1, 0, 0, 0]) ready)
      (fun t => replied 0x8F 1 [0] t && (capturedLength t.entries[10].steps == 33)) = true := by decide

/-- R116: the fourth service that ends with a LEVEL line asserted sets stuck. -/
theorem test_fourth_service_sticks :
    (endLineService 9 3 (asserting 9 (modLineSlot 9 3 (fun x => { x with inService := true, stillAsserted := 3 })
      { live with lines := upd live.lines 9 fun c => { c with sense := .level } }))).lineSlots[9][3].stuck = true := by decide

theorem test_delay_expiry : gives (exec .delayExpiry (serving .serving [.delay 5] live)) (fun t => t.engine.state == .idle) = true := by
  decide

/-- R147: a period of 0 is stored as 1 and answered ADJUSTED; START in OFF is BAD_STATE. -/
theorem test_timer_start :
    gives (exec (.timerStart 1 3 0 0xFF 0) live) (fun t => t.timers[3].running && (t.timers[3].period == 1)) = true ∧
    gives (exec (.timerStart 1 3 7 0xFF 0) ready) (replied 0x90 1 [4]) = true := by decide

theorem test_timer_expiry : gives (exec (.timerExpiry 3) (modTimer 3 (fun x => { x with running := true, pending := true }) (inBus .hold live)))
    (fun t => t.capture.timerCounts[3].coalesced == 1) = true := by decide

/-- R153: a full queue drops a record and counts it. -/
theorem test_full_queue_drops :
    (handRecord (plainRecord (.timer 0) []) (full live)).capture.dropTotal = 1 ∧
    (handRecord (plainRecord (.timer 0) []) (full live)).capture.timerCounts[0].lost = 1 := by decide +kernel

/-- Section 12.2: a DMA_END record of five data bytes makes a DRAIN payload of 25. -/
theorem test_drain : gives (exec (.drain 1 255) (handRecord (plainRecord (.channel 1) [3, 0, 16, 0, 0]) live)) (fun t =>
    (t.capture.records == []) && (t.link.tx.getLast?.any fun f => f.payload.length == 25)) = true := by decide

theorem test_drain_clear : gives (exec (.drainClear 1 1)
    (handRecord (plainRecord (.channel 1) []) (handRecord (plainRecord (.channel 1) []) live))) (fun t =>
      (t.capture.records == []) && (t.link.tx.getLast?.any fun f => f.payload.take 4 == [0, 1, 1, 0])) = true := by decide

/-- R172: a unit at its part reset values may be armed, and then hits on a MEM cycle. -/
theorem test_watch_arm : gives (exec (.watchArm 1 1) ready) (fun t => t.watch[1].armed && t.watch[1].hits?
    { space := .mem, address := 0xC0000, word := false, write := false, data0 := 0, data1 := 0xFF, initiator := .queue,
      slot := some 3, unclaimed := false, prot := false, timeout := false }) = true := by decide

theorem test_watch_disarm : gives (exec (.watchDisarm 1 1) (modWatch 1 (fun w => { w with armed := true }) ready))
    (fun t => !t.watch[1].armed) = true := by decide

/-- R177 and R178: two bytes stored, the first at the offset; an end above 0xFFFFF refused. -/
theorem test_img_write :
    gives (exec (.imgWrite 1 0xFFFFE 2 [0x11, 0x22]) ready) (fun t =>
      (readByte t.image.cells 0xFFFFE == 0x11) && (readByte t.image.cells 0xFFFFF == 0x22)) = true ∧
    gives (exec (.imgWrite 1 0xFFFFF 2 [0x11, 0x22]) ready) (replied 0x93 1 [3]) = true := by decide

theorem test_img_read : gives (exec (.imgRead 1 4 2) { ready with image := { ready.image with cells := [(5, 0x77)] } })
    (replied 0x94 1 [0, 0, 0x77]) = true := by decide

/-- R180 and R181: a fill of 2 bytes is stored at one microsecond end and then answered. -/
theorem test_img_fill :
    gives (exec (.imgFill 1 0 2 0x55) ready) (fun t => t.image.filling && (t.link.tx == [])) = true ∧
    gives (exec .fillStore { ready with image := { ready.image with
        filling := true, fillValue := 0x55, fillEnd := 1, fillTag := 1, replyWanted := true } })
      (fun t => (readByte t.image.cells 1 == 0x55) && replied 0x95 1 [0] t) = true := by decide

/-- Section 2.8: after part reset CRSTN is asserted, BCLK runs at code 16, and every buffer is closed. -/
theorem test_reset_pins :
    pinCardReset State.reset = true ∧ pinBusClock State.reset = some 16 ∧ pinBufferEnable State.reset 3 = false := by decide

/-- R144: one microsecond passes. -/
theorem test_reset_idles : gives (step State.reset) (fun t => t.timeBase == 1) = true := by decide

/-! ## The hypotheses of the statements are met

One theorem per statement of Obligations.lean that has hypotheses; its parts are the statement's clauses, in order. -/

theorem listening_ready : Listening ready := by unfold Listening; decide

theorem listening_live : Listening live := by unfold Listening; decide

theorem witness_EveryCommandAnswersNext : ∀ (present straps : Byte) (good : Bool), Instr.linkReady ≠ .partReset present straps good :=
  nofun

theorem witness_FramesAndRowsAgree : requestFrame (.get 0x21 8) = some (0x04, 0x21, [8]) ∧
    ∀ (k t : Byte) (p : List Byte), Instr.get 0x21 8 ≠ .unknownRequest k t p := ⟨by decide, nofun⟩

theorem witness_BytesOfFrameRunItsRow : Listening ready ∧ AtFrameStart ready ∧ (0x7F : Byte).toNat < 128 ∧
    (List.replicate 1024 (0 : Byte)).length ≤ 1024 := by unfold Listening AtFrameStart; decide +kernel

theorem witness_ReceiverActsByTable :
    (Listening ready ∧ ready.link.rx.state = .hunt ∧ ready.link.rx.sync = false) ∧
    (Listening (receiving .hunt true [] [] ready) ∧ (receiving .hunt true [] [] ready).link.rx.sync = true) ∧
    (Listening (receiving .header false [4, 1] [] ready) ∧ (receiving .header false [4, 1] [] ready).link.rx.header.length < 3) ∧
    (Listening (receiving .header false [4, 1, 1] [] ready) ∧
      (receiving .header false [4, 1, 1] [] ready).link.rx.header = [4, 1, 1]) ∧
    (Listening (receiving .payload false [4, 1, 0, 4] (List.replicate 1023 0) ready) ∧
      (receiving .payload false [4, 1, 0, 4] (List.replicate 1023 0) ready).link.rx.payload.length <
        (0 : Byte).toNat + 256 * (4 : Byte).toNat) ∧
    (Listening (receiving .payload false [4, 1, 0, 4] (List.replicate 1024 0) ready) ∧
      (receiving .payload false [4, 1, 0, 4] (List.replicate 1024 0) ready).link.rx.payload.length =
        (0 : Byte).toNat + 256 * (4 : Byte).toNat ∧
      (receiving .payload false [4, 1, 0, 4] (List.replicate 1024 0) ready).link.rx.payload.length ≤ 1024) := by
  unfold Listening; decide +kernel

theorem witness_UntakenFramesWaitOrAreCounted_discards :
    Listening ready ∧ 1024 < (1025 : Word16).toNat ∧
    (0x04 : Byte) + 0x21 + byte0 (1 : Word16) + byte1 (1 : Word16) + [(8 : Byte)].sum + 0xD3 ≠ 0 ∧ 128 ≤ (0x80 : Byte).toNat ∧
    Listening (receiving .header false [4] [] ready) ∧ (receiving .header false [4] [] ready).link.rx.state ≠ .hunt ∧
    ready.link.rx.state = .hunt := by
  unfold Listening; decide

/-- The reply to a request of kind 0x60 has kind 0xE0, and is counted among the replies all the same (R187, R189). -/
theorem test_reply_of_kind_0x60 :
    (match exec (.unknownRequest 0x60 7 []) ready with
      | .next t => (t.link.tx.map (fun f => (f.kind, f.tag)), repliesIn t.link.tx, noticesIn t.link.tx)
      | _ => ([], 0, 0)) = ([(0xE0, 7)], 1, 0) := by decide

theorem witness_UntakenFramesWaitOrAreCounted :
    requestFrame (.ident 1) = some (1, 1, []) ∧ State.reset.link.ready = false ∧
    (crowd ready).link.ready = true ∧ 16 ≤ repliesIn (crowd ready).link.tx ∧ Listening ready ∧
    requestFrame (.ops 1 (List.replicate 1025 0)) = some (8, 1, List.replicate 1025 0) ∧
    1024 < (List.replicate 1025 (0 : Byte)).length ∧
    requestFrame (.unknownRequest 0x80 1 []) = some (0x80, 1, []) ∧ 128 ≤ (0x80 : Byte).toNat := by
  unfold Listening; decide +kernel

theorem witness_LinkEventsAct :
    (ready.link.ready = true ∧ ready.link.tx = []) ∧
    ((crowd ready).link.tx = { kind := 0x84, tag := 0, payload := [] } :: List.replicate 15 { kind := 0x84, tag := 0, payload := [] } ∧
      (crowd ready).link.outPipe = []) ∧
    16 ≤ repliesIn (List.replicate 16 { kind := 0x84, tag := 0, payload := [] }) ∧ State.reset.link.ready = false := by decide

theorem witness_UnknownRequestsAreRefused :
    Listening ready ∧ (0x7F : Byte).toNat < 128 ∧ (List.replicate 1024 (0 : Byte)).length ≤ 1024 ∧
    requestOf 0x7F 1 (List.replicate 1024 0) = .unknownRequest 0x7F 1 (List.replicate 1024 0) ∧
    requestOf 0x05 1 [5] = .unknownRequest 0x05 1 [5] ∧ requestOf 0x12 1 [] = .unknownRequest 0x12 1 [] := by
  unfold Listening; decide +kernel

theorem witness_IdentAndStatusReport : Listening ready ∧ ([0] : List Byte) ≠ [] ∧
    (List.replicate 1024 (0 : Byte)).length ≤ 1024 := by unfold Listening; decide +kernel

theorem witness_SettingsAreReadAndStored :
    Listening ready ∧ 11 < (12 : Byte).toNat ∧ Listening live ∧ live.bus.state = .run ∧
    (1 ≤ (1 : Byte).toNat ∧ (1 : Byte).toNat ≤ 11 ∧ ready.bus.state ≠ .run ∧
      24 = max (settingLow 1) (min (0xFFFF : Word16).toNat (settingHigh 1))) ∧
    (1 ≤ (11 : Byte).toNat ∧ (11 : Byte).toNat ≤ 11 ∧ 255 = max (settingLow 11) (min (256 : Word16).toNat (settingHigh 11))) ∧
    (512 = max (settingLow 8) (min (513 : Word16).toNat (settingHigh 8))) := by unfold Listening; decide

theorem witness_BusMovesAmongLiveStates :
    (Listening ready ∧ ready.bus.state = .off) ∧ (Listening live ∧ live.bus.state = .run) ∧
    (live.bus.state ≠ .hold ∧ (Instr.busHold 7 = .busHold 7 ∧ BusState.hold = .hold)) ∧
    (inBus .stop live).bus.state ≠ .run ∧ (inBus .hold live).bus.state ≠ .stop := by unfold Listening; decide

/-- DOWN with the supply monitor in this state. -/
def downWith (x : SupplyState) : State := { ready with bus := { ready.bus with state := .down, supply := x } }

theorem witness_BusOffAndResetAct :
    (Listening ready ∧ ready.bus.state = .off) ∧ (Listening (inBus .resetting ready) ∧ (inBus .resetting ready).bus.state = .resetting) ∧
    (Listening (downWith .recovering) ∧ (downWith .recovering).bus.state = .down ∧ (downWith .recovering).bus.supply = .recovering) ∧
    (Listening live ∧ live.bus.state ≠ .off ∧ live.bus.state ≠ .down) ∧
    (Listening (downWith .low) ∧ (downWith .low).bus.state ≠ .resetting ∧ (downWith .low).bus.supply = .low) := by
  unfold Listening; decide

theorem witness_SupplyAndPulseMoveTheBus_supply :
    ready.bus.supply ≠ .low ∧ ((downWith .low).bus.supply = .low ∧ (downWith .low).bus.state = .down) ∧
    ({ live with bus := { live.bus with supply := .low } } : State).bus.state ≠ .down := by decide

theorem witness_SupplyAndPulseMoveTheBus :
    ready.bus.state ≠ .resetting ∧ (inBus .resetting ready).bus.state = .resetting ∧
    BusState.run = (if (inBus .resetting ready).settings.afterReset = 0 then .run else .hold) := by decide

theorem witness_SlotQueryAndAttachAct_numbers : Listening ready ∧ 8 ≤ (8 : Byte).toNat := by unfold Listening; decide

theorem witness_SlotQueryAndAttachAct :
    Listening live ∧ live.bus.state = .run ∧ ready.slots[7].state = .empty ∧ (seat 7 .faulted ready).slots[7].state = .faulted ∧
    (ready.bus.state = .off ∧ (seat 7 .attached ready).slots[7].state = .attached) ∧
    (Listening (driving plainCycle (inBus .hold (seat 7 .isolated ready))) ∧
      (driving plainCycle (inBus .hold (seat 7 .isolated ready))).planner.cycle ≠ none ∧
      (driving plainCycle (inBus .hold (seat 7 .isolated ready))).slots[7].state = .isolated) ∧
    ((inBus .stop (seat 7 .isolated ready)).planner.cycle = none ∧ (seat 7 .isolated ready).bus.state = .off ∧
      (inBus .stop (seat 7 .isolated ready)).bus.state ≠ .off) := by unfold Listening; decide

/-- Slot 7 with an ATTACH that waits. -/
def attachWaits : State :=
  modSlot 7 (fun x => { x with change := .attach, waiting := [{ tag := 9, wanted := true }] }) (seat 7 .isolated ready)

theorem witness_SlotIsolateActs :
    Listening ready ∧ ready.slots[7].state = .empty ∧
    ((seat 7 .isolated ready).slots[7].state = .isolated ∧ (seat 7 .isolated ready).slots[7].change ≠ .attach) ∧
    (Listening attachWaits ∧ attachWaits.slots[7].state = .isolated ∧ attachWaits.slots[7].change = .attach ∧
      attachWaits.slots[7].waiting = [{ tag := 9, wanted := true }]) ∧
    (seat 7 .faulted ready).slots[7].state = .faulted ∧
    (live.slots[3].state = .attached ∧ Involves (driving plainCycle live) 3) ∧
    Involves (driving { plainCycle with kind := .probe, target := .all } live) 3 ∧
    Involves (driving { plainCycle with target := .image, cardSide := some ⟨3, .toCard, false⟩ } live) 3 ∧
    Involves (modChannel 1 (fun c => { c with access := some plainAccess }) (running 1 .single live)) 3 ∧
    (Listening live ∧ ¬ Involves live 3) ∧
    (mastering live).planner.master = some plainMaster ∧ plainMaster.slot = 3 := by
  refine ⟨listening_ready, by decide, by decide, ⟨listening_ready, by decide, by decide, by decide⟩, by decide,
    ⟨by decide, .inr ⟨_, rfl, .inl rfl⟩⟩, .inr ⟨_, rfl, .inr (.inl ⟨.inl rfl, by decide⟩)⟩,
    .inr ⟨_, rfl, .inr (.inr ⟨_, rfl, rfl⟩)⟩, .inl (by decide), ⟨listening_live, ?_⟩, rfl, rfl⟩
  rintro (h | ⟨c, h, _⟩)
  · exact absurd h (by decide)
  · cases h

theorem witness_PresenceMovesSlots :
    ready.slots[7].state = .empty ∧ live.slots[3].state ≠ .empty ∧ live.slots[3].state = .attached ∧
    (seat 7 .isolated ready).slots[7].state ≠ .empty ∧ (seat 7 .isolated ready).slots[7].state ≠ .attached ∧
    (mastering live).planner.master = some plainMaster ∧ plainMaster.slot = 3 := by decide

/-- The worked overlap check's second write, to entry 9. -/
def portWrite : ClaimFields := ⟨9, 1, 1, 12, 0x320, 0x33F, 2, 0, 0, 0, 0⟩

/-- A write whose image window ends at the last byte of image memory, to entry 23. -/
def windowWrite : ClaimFields := ⟨23, 1, 0, 0, 0xF0000, 0xFFFFF, 8, 1, 15, 0xF0000, 1⟩

theorem sample_inRange {c : Claim} (h : c = resetClaim ∨ c = window ∨ c = ioClaim 0x300 0x31F 10) : c.InRange := by
  rcases h with rfl | rfl | rfl
  · exact ⟨by decide, by decide, rfl, by decide⟩
  · exact ⟨by decide, by decide, rfl, by decide⟩
  · exact ⟨by decide, by decide, .inl rfl, by decide⟩

theorem ready_claims (k : Fin 24) : ready.claims[k] = resetClaim :=
  (by decide : ∀ k : Fin 24, ready.claims[k] = resetClaim) k

theorem resetClaim_matches (space : Space) (a : Nat) : resetClaim.matches space a = false := rfl

theorem witness_ClaimRequestsAct :
    Listening ready ∧ ready.claims[(23 : Fin 24)] = resetClaim ∧ 24 ≤ (24 : Byte).toNat ∧
    1 < (2 : Byte).toNat ∧ 8 < (9 : Byte).toNat ∧
    ¬ claimWriteInRange { portWrite with entry := 24 } ∧ ¬ claimWriteInRange { windowWrite with imageOffset := 0xF0001 } ∧
    claimWriteInRange portWrite ∧ claimWriteInRange windowWrite ∧ windowWrite.entry.toNat = (23 : Fin 24).val ∧
    (∀ k : Fin 24, ready.claims[k].InRange) ∧
    (∀ k : Fin 24, k ≠ 23 → ¬ shareAddress (claimOf windowWrite) ready.claims[k]) ∧
    (∃ k : Fin 24, k ≠ 9 ∧
      shareAddress (claimOf { portWrite with base := 0x300, limit := 0x300 }) (claiming 6 (ioClaim 0x300 0x31F 10) ready).claims[k]) ∧
    (∀ k : Fin 24, (claiming 6 (ioClaim 0x300 0x31F 10) ready).claims[k].InRange) := by
  refine ⟨listening_ready, by decide, by decide, by decide, by decide, by unfold claimWriteInRange; decide,
    by unfold claimWriteInRange; decide, by unfold claimWriteInRange; decide, by unfold claimWriteInRange; decide, by decide,
    fun k => ?_, fun k _ ⟨space, a, _, h⟩ => ?_, ⟨6, by decide, .io, 0x300, by decide, by decide⟩, fun k => sample_inRange ((by decide :
      ∀ k : Fin 24, (claiming 6 (ioClaim 0x300 0x31F 10) ready).claims[k] = resetClaim ∨
        (claiming 6 (ioClaim 0x300 0x31F 10) ready).claims[k] = window ∨
        (claiming 6 (ioClaim 0x300 0x31F 10) ready).claims[k] = ioClaim 0x300 0x31F 10) k)⟩
  · rw [ready_claims]; exact sample_inRange (.inl rfl)
  · rw [ready_claims, resetClaim_matches] at h; cases h

/-- One enabled entry, and the window of another page. -/
def mapped : State := claiming 0 window (claiming 6 (ioClaim 0x300 0x31F 10) ready)

theorem mapped_enabled : ∀ k : Fin 24, k ≠ 0 → k ≠ 6 → mapped.claims[k].enabled = false := by decide

theorem matches_enabled {c : Claim} {space : Space} {a : Nat} (h : c.matches space a = true) :
    c.enabled = true ∧ c.space = space := by
  simp [Claim.matches] at h; exact ⟨h.1.1.1, h.1.1.2⟩

theorem mapped_disjoint : ClaimsDisjoint mapped := by
  have two : ∀ (i : Fin 24) (space : Space) (a : Nat), mapped.claims[i].matches space a = true →
      i = if space = .mem then 0 else 6 := by
    intro i space a h
    have h' := matches_enabled h
    by_cases h0 : i = 0
    · subst h0; rw [← h'.2]; decide
    · by_cases h6 : i = 6
      · subst h6; rw [← h'.2]; decide
      · rw [mapped_enabled i h0 h6] at h'; exact absurd h'.1 (by decide)
  exact ⟨fun k => sample_inRange ((by decide : ∀ k : Fin 24, mapped.claims[k] = resetClaim ∨ mapped.claims[k] = window ∨
    mapped.claims[k] = ioClaim 0x300 0x31F 10) k), fun i j space a hi hj => (two i space a hi).trans (two j space a hj).symm⟩

theorem witness_AccessesAreResolvedAndPlanned :
    ClaimsDisjoint mapped ∧ mapped.claims[(6 : Fin 24)].matches .io 0xFF1F = true ∧
    mapped.claims[(0 : Fin 24)].matches .mem 0xFFFF = true ∧
    ∀ e : Fin 24, mapped.claims[e].matches .mem 0x10000 = false := ⟨mapped_disjoint, by decide, by decide, by decide⟩

/-- A queue's byte read of IO 0x301 under a grant, with the claims of `mapped`. -/
def queueGranted (s : State) : State :=
  modArb (fun a => { a with owner := .queue }) (performing .executing (.access .io false 0x301 false 1 false []) s)

/-- The access that read begins. -/
def portAccess (s : State) : Access :=
  beginAccess s { space := .io, address := 0x301, word := false, write := false, writeLow := 0xFF, writeHigh := 0xFF } false false

theorem witness_CycleStartDrivesOrEndsTheByte :
    (live.planner.cycle = none ∧ live.arb.owner = .none) ∧
    ((modArb (fun a => { a with owner := .refresh }) live).arb.owner = .refresh) ∧
    (let s := modArb (fun a => { a with owner := .queue }) (performing .executing (.probe 0x201) live);
      s.planner.cycle = none ∧ s.arb.owner = .queue ∧ probing s = some 0x201 ∧ (∃ n : Fin 8, s.slots[n].state = .attached)) ∧
    (let s := modArb (fun a => { a with owner := .queue }) (performing .executing (.probe 0x201) (inBus .run ready));
      probing s = some 0x201 ∧ ∀ n : Fin 8, s.slots[n].state ≠ .attached) ∧
    (let s := queueGranted (claiming 6 (ioClaim 0x300 0x31F 10) (inBus .run (seat 2 .attached ready)));
      s.planner.cycle = none ∧ s.arb.owner = ownerOf .queue ∧ nextAccess s .queue = some (portAccess s) ∧
        (portAccess s).stage ≠ .second ∧ (portAccess s).low.target = .slot 2 ∧ s.slots[2].state = .attached) ∧
    (let s := queueGranted live;
      nextAccess s .queue = some (portAccess s) ∧ (portAccess s).low.target = .all ∧ s.slots[3].state = .attached) ∧
    (let s := queueGranted (claiming 6 (ioClaim 0x300 0x31F 10) live);
      nextAccess s .queue = some (portAccess s) ∧ (portAccess s).low.target = .slot 2 ∧ s.slots[2].state ≠ .attached) ∧
    (let s := queueGranted (inBus .run ready);
      nextAccess s .queue = some (portAccess s) ∧ (portAccess s).low.target = .all ∧ (portAccess s).word = false ∧
        (portAccess s).stage = .first ∧ ∀ n : Fin 8, s.slots[n].state ≠ .attached) ∧
    (let a : Access := { plainAccess with word := true, stage := .second };
      let s := modArb (fun x => { x with owner := .channel 2 }) (modChannel 2 (fun c => { c with access := some a }) (running 2 .single live));
      s.arb.owner = ownerOf (.channel 2) ∧ nextAccess s (.channel 2) = some a ∧ a.high.target = .all) ∧
    (let a : Access := { plainAccess with word := true, stage := .second, high := { unclaimedByte with target := .slot 7 } };
      let s := modArb (fun x => { x with owner := .service }) { live with engine := { live.engine with access := some a } };
      s.arb.owner = ownerOf .service ∧ nextAccess s .service = some a ∧ a.high.target = .slot 7 ∧ s.slots[7].state ≠ .attached) := by
  decide

/-- A DMA transfer from the card in slot 3 into a window. -/
def storeFromCard : Cycle :=
  { plainCycle with
    target := .image, write := true, initiator := .channel 1, cardSide := some { owner := 3, direction := .fromCard, terminal := false } }

theorem witness_CycleTakesItsData :
    (∀ c, live.planner.cycle = some c → c.phase = .recovery ∨ c.kind = .refresh) ∧
    (∀ c, (driving { plainCycle with phase := .recovery } live).planner.cycle = some c → c.phase = .recovery ∨ c.kind = .refresh) ∧
    ((driving plainCycle live).planner.cycle = some plainCycle ∧ plainCycle.phase ≠ .recovery ∧ plainCycle.kind ≠ .refresh) ∧
    CanWait (driving plainCycle live) plainCycle ∧
    CanWait (driving { plainCycle with target := .all, members := Vector.replicate 8 true } live)
      { plainCycle with target := .all, members := Vector.replicate 8 true } ∧
    CanWait (driving storeFromCard live) storeFromCard ∧
    (¬ CanWait (driving { plainCycle with target := .slot 7 } live) { plainCycle with target := .slot 7 }) ∧
    ImageCanonical (driving storeFromCard live) ∧ storeFromCard.readOnly = false := by
  refine ⟨?_, ?_, by decide, ⟨3, by decide, .inl rfl⟩, ⟨3, by decide, .inr (.inl ⟨rfl, by decide⟩)⟩,
    ⟨3, by decide, .inr (.inr ⟨_, rfl, rfl⟩)⟩, ?_, by unfold ImageCanonical; decide, rfl⟩
  · intro c h; cases h
  · intro c h; cases h; decide
  · rintro ⟨n, hn, h | ⟨h, _⟩ | ⟨side, h, _⟩⟩
    · injection h with h; subst h; exact absurd hn (by decide)
    · exact absurd h (by decide)
    · cases h

theorem witness_CycleEndReachesTheBoundary :
    (∀ c, live.planner.cycle = some c → c.phase ≠ .recovery ∨ c.kind = .refresh) ∧
    (∀ c, (driving plainCycle live).planner.cycle = some c → c.phase ≠ .recovery ∨ c.kind = .refresh) ∧
    (let c : Cycle := { plainCycle with phase := .recovery };
      (driving c live).planner.cycle = some c ∧ c.phase = .recovery ∧ c.kind ≠ .refresh) ∧
    (let s := driving { plainCycle with phase := .recovery } { live with queue := { live.queue with access := some plainAccess } };
      accessOf s .queue = some plainAccess) ∧
    (let s := modChannel 3 (fun c => { c with access := some plainAccess }) (running 3 .single live);
      accessOf s (.channel 3) = some plainAccess) := by
  refine ⟨?_, ?_, by decide, by decide, by decide⟩
  · intro c h; cases h
  · intro c h; cases h; decide

theorem witness_DmaTransferStepsItsChannel :
    plainAccess.status = .ok ∧ plainAccess.terminal = false ∧ ({ plainAccess with terminal := true } : Access).status = .ok ∧
    (modChannel 3 (fun c => { c with autoReload := true }) live).channels[3].autoReload = true ∧ live.channels[3].autoReload = false ∧
    ((running 3 .single live).channels[3].state = .running ∧
      ({ plainAccess with lowResult := { status := .timeout, value := 0xFF } } : Access).status ≠ .ok) := by decide

theorem witness_MasterCyclesReachWindows :
    live.arb.grant = none ∧ (mastering (granted live)).planner.master ≠ none ∧
    ((granted live).arb.grant = some 3 ∧ (granted live).planner.master = none) ∧ live.planner.master = none ∧
    (mastering (granted live)).planner.master = some plainMaster ∧
    (mastering live).arb.grant = none := by decide

theorem witness_HoldsGoOnOrEnd :
    (live.arb.hold = .none) ∧ (granted live).arb.hold = .cascade 3 ∧
    (let s := modArb (fun a => { a with hold := .demand 3 }) (requesting 3 (running 3 .demand live));
      s.arb.hold = .demand 3 ∧ s.arb.holdEnding = false ∧ holdClaims s 3 = true ∧ s.arb.owed = 0 ∧
        0 < (modArb (fun a => { a with owed := 1 }) s).arb.owed ∧ Owner.channel 3 ≠ .refresh) ∧
    (let s := modArb (fun a => { a with hold := .block 3, holdEnding := true }) live;
      s.arb.hold = .block 3 ∧ s.arb.holdEnding = true ∧ holdClaims s 3 = false) ∧
    (plainAccess.status = .ok ∧ plainAccess.terminal = false) := by decide

theorem witness_PhasesPassWithTime :
    ((driving plainCycle live).planner.cycle = some plainCycle ∧ plainCycle.phase ≠ .recovery) ∧
    (∃ t, step { driving plainCycle live with pending := [] } = .next t) ∧ CanWait (driving plainCycle live) plainCycle ∧
    ((∀ c, live.planner.cycle = some c → c.phase = .recovery) ∧ ∃ t, step { live with pending := [] } = .next t) ∧
    ((mastering live).planner.master = some plainMaster ∧ (mastering live).planner.cycle = none ∧
      (mastering live).slots[3].state = .attached ∧ ∃ t, step { mastering live with pending := [] } = .next t) ∧
    ((modArb (fun a => { a with owner := .master 3 }) live).arb.owner = .master 3 ∧ live.arb.owner = .none) ∧
    (live.slots[7].state ≠ .attached ∧ live.planner.cycle = none ∧ live.planner.master = none) ∧
    (let c : Cycle := { plainCycle with write := true };
      (driving c live).planner.cycle = some c ∧ (driving c live).slots[3].state = .attached ∧ c.cardSide = none) ∧
    (let c : Cycle := { plainCycle with cardSide := some ⟨3, .verify, false⟩ };
      c.cardSide = some ⟨3, .verify, false⟩ ∧ c.phase = .setup ∧ c.write = false ∧ c.target = .slot 3) ∧
    (let c : Cycle := { plainCycle with phase := .strobe, write := true, target := .slot 2, cardSide := some ⟨3, .fromCard, true⟩ };
      c.phase ≠ .setup ∧ c.target ≠ .slot 3) ∧
    (let c : Cycle := { plainCycle with phase := .recovery, target := .image, cardSide := some ⟨3, .toCard, true⟩ };
      c.phase ≠ .setup ∧ c.target ≠ .slot 3 ∧ c.write = false ∧ (driving c live).slots[3].state = .attached) :=
  ⟨⟨rfl, by decide⟩, ⟨_, rfl⟩, ⟨3, by decide, .inl rfl⟩, ⟨(by intro c h; cases h), ⟨_, rfl⟩⟩, ⟨rfl, rfl, by decide, ⟨_, rfl⟩⟩,
    by decide, by decide, by decide, by decide, by decide, by decide⟩

theorem witness_ArbiterGrantsByRank :
    (¬ freeBus (driving plainCycle live)) ∧
    (freeBus (modArb (fun a => { a with owed := 1 }) live) ∧ 0 < (modArb (fun a => { a with owed := 1 }) live).arb.owed) ∧
    (let s := requesting 3 (running 3 .single live);
      freeBus s ∧ s.arb.owed = 0 ∧ s.bus.state = .run ∧ channelClaims s 3 = true ∧
        ∀ m : Fin 4, m ≠ 3 → channelClaims s m = false) ∧
    (let s := requesting 1 (running 1 .single (requesting 3 (running 3 .single live)));
      freeBus s ∧ channelClaims s 1 = true ∧ channelClaims s 3 = true ∧ s.channels[1].owner = s.channels[3].owner) ∧
    (freeBus live ∧ (0 < live.arb.owed → live.bus.state = .stop) ∧ ∀ n : Fin 4, channelClaims live n = false) ∧
    (serviceWants (serving .serving [.inp 0x1F7 false] live) ≠ none) ∧
    State.reset.bus.state = .off := by
  unfold freeBus; decide

/-- Timer 3 pending, bound to entry 23, whose one step reads a port. -/
def timerDue : State :=
  { modTimer 3 (fun t => { t with pending := true, entry := some 23 }) live with
    entries := upd live.entries 23 fun _ => { record := true, steps := [.inp 0x1F7 false] } }

theorem timerDue_lines : ∀ (l : Fin 12) (n : Fin 8), timerDue.lineSlots[l][n].pending = false := by decide

theorem timerDue_timers : ∀ n : Fin 4, timerDue.timers[n].pending = true → n = 3 := by decide

theorem live_lines : ∀ (l : Fin 12) (n : Fin 8), live.lineSlots[l][n].pending = false := by decide

theorem live_timers : ∀ n : Fin 4, live.timers[n].pending = false := by decide

/-- A pending timer bound to NONE: its service ends as it is selected, with its bare record, and the engine selects on
(R134). -/
theorem test_service_of_none :
    let t := serviceSelect (modTimer 3 (fun t => { t with entry := none }) timerDue)
    t.engine.state = .idle ∧ t.timers[3].pending = false ∧ t.timers[3].inService = false ∧
      t.capture.records.map (fun r => (r.steps, r.entry, r.data)) = [(some 0, none, [])] := by decide

theorem witness_SettleLetsWorkGoOn :
    State.reset.bus.state = .off ∧
    (let s := performing .idle (.pause 65535) live;
      s.queue.state = .idle ∧ s.queue.ops =
          [{ kind := .pause 65535, frame := 0, index := 0, done := 0, cycles := 0, flags := noFlags, data := [] }] ∧
        s.bus.state = .run) ∧
    (let s := performing .idle (.waitDma 3 1) (running 3 .single live);
      s.queue.state = .idle ∧ s.channels[3].finished = false ∧ s.channels[3].state = .running) ∧
    (serving .serving [.delay 5] live).engine.state ≠ .idle ∧
    (∀ src, ¬ eligibleSource live src) ∧
    (timerDue.engine.state = .idle ∧ eligibleSource timerDue (.timer 3) ∧
      (∀ other, eligibleSource timerDue other → sourceRank timerDue (.timer 3) ≤ sourceRank timerDue other) ∧
      stepsOf timerDue (boundEntry timerDue (.timer 3)) = [.inp 0x1F7 false]) ∧
    stepsOf (modTimer 3 (fun t => { t with entry := none }) timerDue) none = [] ∧
    stepsOf (modTimer 3 (fun t => { t with entry := some 0 }) timerDue) (some 0) = [] := by
  refine ⟨by decide, by decide, by decide, by decide, ?_, ⟨by decide, by unfold eligibleSource; decide, ?_, by decide⟩,
    by decide, by decide⟩
  · rintro (⟨l, n⟩ | n | n | n) h
    · simp only [eligibleSource, live_lines] at h; exact absurd h.1 (by decide)
    · simp only [eligibleSource, live_timers] at h; exact absurd h.1 (by decide)
    · exact h
    · exact h
  · rintro (⟨l, n⟩ | n | n | n) h
    · simp only [eligibleSource, timerDue_lines] at h; exact absurd h.1 (by decide)
    · rw [timerDue_timers n h.1]
    · exact h.elim
    · exact h.elim

theorem witness_RefreshIsOwedAndPaid :
    (ready.bus.state ≠ .run ∧ ready.bus.state ≠ .hold) ∧ (modArb (fun a => { a with intervalUse := 0 }) live).arb.intervalUse = 0 ∧
    (live.bus.state = .run ∧ live.arb.intervalUse ≠ 0) ∧
    (∀ c, (driving plainCycle live).planner.cycle = some c → c.kind ≠ .refresh) ∧
    (let c : Cycle := { plainCycle with kind := .refresh, target := .all };
      (driving c live).planner.cycle = some c ∧ c.kind = .refresh) := by
  refine ⟨by decide, by decide, by decide, ?_, by decide⟩
  intro c h; cases h; decide

theorem witness_HoldTimerExpiryFaults :
    live.arb.timerChannel = none ∧ (modArb (fun a => { a with timerLimit := 0 }) (granted live)).arb.timerLimit = 0 ∧
    ((granted live).arb.timerChannel = some 3 ∧ (granted live).arb.timerLimit ≠ 0 ∧ (granted live).channels[3].owner = 3 ∧
      (granted live).channels[3].state = .running ∧ (granted live).slots[3].state = .attached) ∧
    ((modSlot 3 (fun x => { x with change := .isolate }) (granted live)).slots[3].change ≠ .none ∧
      (modSlot 3 (fun x => { x with change := .isolate }) (granted live)).planner.cycle = none) ∧
    (granted (seat 3 .isolated live)).slots[3].state ≠ .attached := by decide

/-- A PROBE of the last port, as its record. -/
def probeOp : RawOp := ⟨5, 1, 1, 0, 0xFF, 0xFF, 0, 0, []⟩

/-- A PROBE of a port above the last. -/
def badProbe : RawOp := ⟨5, 1, 1, 0, 0, 0, 1, 0, []⟩

theorem spells_probe : SpellsOps [0, 1, 5, 1, 1, 0, 0xFF, 0xFF, 0, 0] false [probeOp] := by
  unfold SpellsOps opWhole; decide

theorem spells_badProbe : SpellsOps [1, 1, 5, 1, 1, 0, 0, 0, 1, 0] true [badProbe] := by
  unfold SpellsOps opWhole; decide

theorem witness_OpsFramesAreCheckedAndQueued :
    (Listening ready ∧ ([] : List Byte).length ≤ 1024 ∧ ∀ stop ops, ¬ SpellsOps [] stop ops) ∧
    (Listening ready ∧ SpellsOps [0, 1, 5, 1, 1, 0, 0xFF, 0xFF, 0, 0] false [probeOp] ∧ ready.bus.state = .off) ∧
    (SpellsOps [1, 1, 5, 1, 1, 0, 0, 0, 1, 0] true [badProbe] ∧ ¬ opsFit [badProbe] ∧ live.bus.state ≠ .off ∧ live.bus.state ≠ .down) ∧
    (opsFit [probeOp] ∧
      (let s : State := { live with queue := { live.queue with
          ops := List.replicate 32 { kind := .pause 1, frame := 0, index := 0, done := 0, cycles := 0, flags := noFlags, data := [] } } };
        Listening s ∧ 32 < s.queue.ops.length + [probeOp].length)) ∧
    (Listening live ∧ live.queue.ops.length + [probeOp].length ≤ 32) ∧
    (probeOp.kind = 5 ∧ (RawOp.mk 7 1 1 0 3 1 0 0 []).a0.toNat = (3 : Fin 4).val) := by
  refine ⟨⟨listening_ready, by decide, fun _ _ h => nomatch h.2.2⟩, ⟨listening_ready, spells_probe, by decide⟩,
    ⟨spells_badProbe, ?_, by decide, by decide⟩, ⟨?_, ?_⟩, ⟨listening_live, by decide⟩, by decide⟩
  · unfold opsFit opFits; decide
  · unfold opsFit opFits; decide
  · unfold Listening; decide

theorem witness_OperationsEndWithTheirResults :
    (let s := performing .executing (.access .mem true 0xFFFFF true 256 false []) live;
      s.queue.ops = [{ kind := .access .mem true 0xFFFFF true 256 false [], frame := 0, index := 0, done := 0, cycles := 0,
                       flags := noFlags, data := [] }] ∧
      (true = true ↔ (OpStatus.timeout = .timeout ∨ OpStatus.timeout = .blocked) ∧
        ∃ f ∈ s.queue.frames, f.id = 0 ∧ f.stopOnError = true) ∧
      (false = true ↔ (OpStatus.ok = .timeout ∨ OpStatus.ok = .blocked) ∧
        ∃ f ∈ s.queue.frames, f.id = 0 ∧ f.stopOnError = true)) := by decide

theorem witness_QueueTakesWhatOthersEnd :
    (performing .executing (.probe 0x201) live).queue.ops =
      [{ kind := .probe 0x201, frame := 0, index := 0, done := 0, cycles := 0, flags := noFlags, data := [] }] ∧
    (let s := performing .waitingDma (.waitDma 3 1) live;
      s.queue.state = .waitingDma ∧ s.queue.ops.head?.map (fun r => r.kind) = some (.waitDma 3 1)) ∧
    live.queue.state ≠ .waitingDma ∧ (plainAccess.status = .ok) ∧
    (let s := performing .idle (.waitDma 3 1) live;
      s.queue.state = .idle ∧ s.bus.state = .run ∧ s.channels[3].state ≠ .running) := by decide

theorem witness_DmaModeAndPhasesLoad_mode : Listening ready ∧ 4 ≤ (4 : Byte).toNat ∧ 3 ≤ (3 : Byte).toNat ∧ (3 : Byte).toNat < 4 ∧
    (2 : Byte).toNat < 3 ∧ 4 ≤ (4 : Byte).toNat ∧ 8 ≤ (8 : Byte).toNat ∧
    (DmaMode.cascade.code = 3 ∧ DmaDirection.verify.code = 2 ∧ (3 : Byte).toNat = (3 : Fin 4).val ∧ (7 : Byte).toNat = (7 : Fin 8).val) := by
  unfold Listening; decide

theorem witness_DmaModeAndPhasesLoad : Listening ready ∧ 2 ≤ (2 : Byte).toNat ∧ (1 : Byte).toNat < 2 ∧ 4 ≤ (4 : Byte).toNat ∧
    16 ≤ (16 : Byte).toNat ∧ ((3 : Byte).toNat = (3 : Fin 4).val ∧ (15 : Byte).toNat = (15 : Fin 16).val ∧
      (0xFFFE : Word16) = (if 2 ≤ (3 : Fin 4).val then (0xFFFF : Word16) &&& 0xFFFE else 0xFFFF)) ∧
    (0 : Word24).toNat = 0 ∧ 65536 < (65537 : Word24).toNat ∧ 1 ≤ (1 : Word24).toNat ∧ (65536 : Word24).toNat ≤ 65536 := by
  unfold Listening; decide

theorem witness_DmaStartRuns : Listening ready ∧ 4 ≤ (4 : Byte).toNat ∧ ready.bus.state = .off ∧
    live.channels[3].state ≠ .loaded ∧ (live.channels[3].state ≠ .done ∨ live.channels[3].autoReload = false) ∧
    (let s := modChannel 3 (fun c => { c with owner := 3, state := .loaded }) live;
      Listening s ∧ s.bus.state = .run ∧ s.channels[3].state = .loaded ∧ s.slots[s.channels[3].owner].state = .attached) ∧
    (let s := modChannel 3 (fun c => { c with owner := 3, state := .done, autoReload := true }) live;
      s.channels[3].state = .done ∧ s.channels[3].autoReload = true) := by unfold Listening; decide

theorem witness_DmaClearAndPulseAct : Listening ready ∧ 4 ≤ (4 : Byte).toNat ∧ ready.channels[3].state ≠ .running ∧
    (granted live).channels[3].mode = .cascade ∧
    (Listening (running 3 .block live) ∧ (running 3 .block live).channels[3].state = .running ∧
      (running 3 .block live).channels[3].mode ≠ .cascade) ∧
    (Listening (driving storeFromCard live) ∧ storeFromCard.initiator = .channel 1) ∧
    (Listening live ∧ live.channels[3].access = none ∧ live.planner.cycle = none) ∧
    (let s := modChannel 3 (fun c => { c with waiting := [{ tag := 9, wanted := true }] }) live;
      s.channels[3].waiting ≠ [] ∧ s.link.ready = true) ∧ live.channels[3].waiting = [] := by unfold Listening; decide

theorem witness_DmaQueryReports : Listening ready ∧ 4 ≤ (4 : Byte).toNat ∧
    (granted live).arb.grant = some 3 ∧ (granted live).channels[3].state = .running := by unfold Listening; decide

theorem witness_ChannelRequestsAreSeen : (requesting 3 live).cards[3].requests[3] = true ∧ live.cards[3].requests[3] = false ∧
    ((requesting 3 (granted live)).slots[3].state = .attached ∧ (requesting 3 (granted live)).channels[3].owner = 3 ∧
      (requesting 3 (granted live)).arb.grant = some 3 ∧ (requesting 3 (granted live)).planner.master = none) ∧
    (requesting 3 live).channels[3].owner ≠ 3 ∧
    (let s := modArb (fun a => { a with owner := .channel 3 }) (requesting 3 (running 3 .single live));
      s.slots[3].state = .attached ∧ s.channels[3].owner = 3 ∧ s.arb.owner = .channel 3 ∧ s.planner.cycle = none) := by decide

theorem witness_LineRequestsAct : Listening ready ∧ 12 ≤ (12 : Byte).toNat ∧ 2 ≤ (2 : Byte).toNat ∧ (1 : Byte).toNat < 2 ∧
    8 ≤ (8 : Byte).toNat ∧ (24 ≤ (24 : Byte).toNat ∧ (24 : Byte) ≠ 0xFF) ∧
    ((11 : Byte).toNat = (11 : Fin 12).val ∧ (7 : Byte).toNat = (7 : Fin 8).val ∧ entryCode none = 0xFF ∧
      entryCode (some 23) = 23) := by unfold Listening; decide

theorem witness_LineChangesMakeRequests : (asserting 11 live).cards[3].lines[11] = true ∧ live.cards[3].lines[11] = false ∧
    watched ready 3 = false ∧ (watched live 3 = true ∧ live.lines[11].sense = .edge ∧ live.lineSlots[11][3].stuck = false ∧
      live.lineSlots[11][3].pending = false) ∧
    (modLineSlot 11 3 (fun x => { x with pending := true }) live).lineSlots[11][3].pending = true ∧
    (modLineSlot 11 3 (fun x => { x with stuck := true }) live).lineSlots[11][3].stuck = true ∧
    ({ live with lines := upd live.lines 11 fun c => { c with sense := .level } } : State).lines[11].sense = .level := by decide

/-- An IN step of the last port. -/
def inStep : RawStep := ⟨1, 2, 0, 0xFFFF, 0⟩

theorem witness_ServiceTableIsWritten :
    (Listening ready ∧ ([0] : List Byte).length ≤ 1020 ∧
      ∀ raw : List RawStep, raw.length = (0 : Byte).toNat → (∀ r ∈ raw, 1 ≤ r.kind.toNat ∧ r.kind.toNat ≤ 6) →
        ([0] : List Byte) ≠ (raw.map stepBytes).flatten) ∧
    ([inStep].length = (1 : Byte).toNat ∧ (∀ r ∈ [inStep], 1 ≤ r.kind.toNat ∧ r.kind.toNat ≤ 6) ∧
      [1, 2, 0, 0xFF, 0xFF, 0, 0, 0] = ([inStep].map stepBytes).flatten) ∧
    24 ≤ (24 : Byte).toNat ∧ 8 < (List.replicate 9 inStep).length ∧ (∃ r ∈ [{ inStep with address := 0x10000 }], ¬ stepFits r) ∧
    64 < ([(⟨4, 1, 32, 0, 0⟩ : RawStep), ⟨4, 1, 32, 0, 0⟩, inStep].map stepCaptures).sum ∧
    ((23 : Byte).toNat = (23 : Fin 24).val ∧ (∀ r ∈ [inStep], stepFits r) ∧ ([inStep].map stepCaptures).sum ≤ 64) ∧
    ((serving .serving [.delay 5] live).engine.state ≠ .idle ∧ (serving .serving [.delay 5] live).engine.entry = some (some 23)) := by
  refine ⟨⟨listening_ready, by decide, fun raw h _ => ?_⟩, by decide, by decide, by decide, ?_, by decide, ⟨by decide, ?_, by decide⟩, by decide⟩
  · rw [List.eq_nil_of_length_eq_zero h]; decide
  · unfold stepFits; decide
  · unfold stepFits; decide

theorem witness_TimersAreConfiguredAndExpire : Listening ready ∧ 4 ≤ (4 : Byte).toNat ∧ (24 ≤ (24 : Byte).toNat ∧ (24 : Byte) ≠ 0xFF) ∧
    (1 : Byte) = (if (0 : Word16) = 0 then 1 else 0) ∧ live.timers[3].running = false ∧
    ((modTimer 3 (fun t => { t with running := true }) live).timers[3].running = true ∧ live.bus.state = .run) := by
  unfold Listening; decide

theorem witness_ServiceStepsMakeTheirAccesses :
    live.engine.state ≠ .serving ∧
    (let s := serving .serving [.min 0xFFFFF 5, .delay 3] live;
      s.engine.entry = some (some 23) ∧ s.entries[23].steps[s.engine.step]? = some (.min 0xFFFFF 5) ∧
        s.engine.state = .serving ∧ s.entries[23].steps[s.engine.step + 1]? = some (.delay 3)) ∧
    (plainAccess.status = .ok ∧
      ({ plainAccess with lowResult := { status := .blocked, value := 0xFF } } : Access).status ≠ .ok) ∧
    (serving .serving [.inp 0 true] live).entries[23].steps.length ≤ (serving .serving [.inp 0 true] live).engine.step + 1 := by
  decide

theorem witness_ServicesEndWithTheirRecords : delaying live = false ∧
    (let s := serving .serving [.delay 255, .inp 0x1F7 false] live;
      s.engine.state = .serving ∧ s.engine.entry = some (some 23) ∧ s.entries[23].steps[s.engine.step]? = some (.delay 255) ∧
        s.entries[23].steps[s.engine.step + 1]? = some (.inp 0x1F7 false)) ∧
    (let s := serving .serving [.delay 255] live;
      s.entries[23].steps.length ≤ s.engine.step + 1 ∧ s.engine.source = some (.lineSlot 9 3)) := by decide

theorem witness_RecordIsStoredOrDropped :
    (live.capture.records.length < 512 ∧
      (live.capture.records.map fun x => x.data.length).sum + (plainRecord (.watch 1) (List.replicate 64 0)).data.length ≤ 16384) ∧
    512 ≤ (full live).capture.records.length ∧
    (let s : State := { live with capture := { live.capture with records := List.replicate 256 (plainRecord (.timer 0) (List.replicate 64 0)) } };
      16384 < (s.capture.records.map fun x => x.data.length).sum + (plainRecord (.watch 1) [0]).data.length) := by decide +kernel

theorem witness_DrainCarriesTheOldestRecords : Listening ready ∧ (255 : Byte) ≠ 0 ∧ (1 : Byte) ≠ 0 := by unfold Listening; decide

/-- A CONFIGURE at the ends of its ranges. -/
def watchWrite : WatchFields := ⟨1, 0xFFFF, 0xFFFF, 3, 15, 1, 0xFFFF, 0xFFFF, 3, 1, 1, 1⟩

theorem witness_WatchRequestsAct : Listening ready ∧ 2 ≤ (2 : Byte).toNat ∧
    (4 ≤ ({ watchWrite with kinds := 4 } : WatchFields).kinds.toNat) ∧
    (watchWrite.space.toNat < 2 ∧ watchWrite.arm.toNat < 2 ∧ watchWrite.kinds.toNat < 4 ∧ watchWrite.initiators.toNat < 16 ∧
      watchWrite.actions.toNat < 4) ∧
    ((if watchWrite.space = 0 then 0xFFFFF else 0xFFFF) < ({ watchWrite with mask := 0x10000 } : WatchFields).mask.toNat) ∧
    ((1 : Byte).toNat = (1 : Fin 2).val ∧ watchWrite.kinds ≠ 0 ∧ watchWrite.initiators ≠ 0 ∧
      watchWrite.address.toNat ≤ (if watchWrite.space = 0 then 0xFFFFF else 0xFFFF) ∧
      watchWrite.mask.toNat ≤ (if watchWrite.space = 0 then 0xFFFFF else 0xFFFF)) := by unfold Listening; decide

/-- A presented byte read at the last MEM address. -/
def lastRead : Presentation where
  space := .mem
  address := 0xFFFFF
  word := false
  write := false
  data0 := 0
  data1 := 0xFF
  initiator := .queue
  slot := some 3
  unclaimed := false
  prot := false
  timeout := false

theorem witness_WatchHitActs : live.watch[1].hits? lastRead = false ∧
    (modWatch 1 (fun w => { w with armed := true, mask := 0xFFFFF, address := 0xFFFFF }) live).watch[1].hits? lastRead = true := by
  decide

theorem witness_ImageRequestsAct : Listening ready ∧
    ((2 : Word16).toNat ≠ ([0] : List Byte).length) ∧
    (1016 < (List.replicate 1017 (0 : Byte)).length ∧ (List.replicate 1017 (0 : Byte)).length ≤ 1019 ∧
      (1017 : Word16).toNat = (List.replicate 1017 (0 : Byte)).length) ∧
    ((1016 : Word16).toNat = (List.replicate 1016 (0 : Byte)).length ∧ (List.replicate 1016 (0 : Byte)) ≠ [] ∧
      (0xFFC08 : Word24).toNat + (List.replicate 1016 (0 : Byte)).length ≤ 0x100000) ∧
    ImageCanonical ready ∧ ready.image.filling = false ∧
    (let s : State := { ready with image := { ready.image with filling := true, fillNext := 0xFFFC0, fillEnd := 0xFFFFF } };
      ImageCanonical s ∧ s.image.filling = true ∧ 64 = min 64 (s.image.fillEnd + 1 - s.image.fillNext)) := by
  unfold Listening ImageCanonical; decide +kernel

/-- A state with work in flight that meets the invariants' premises: RUN, a channel RUNNING at an attached slot. -/
theorem witness_StepKeepsOwnersAttached : RunningOwnerAttached (running 3 .single live) ∧ SlotsConsistent (running 3 .single live) ∧
    (running 3 .single live).channels[3].state = .running := by
  unfold RunningOwnerAttached SlotsConsistent; decide

theorem witness_StepKeepsImageCanonical :
    ImageCanonical { live with image := { live.image with cells := [(0, 1), (0xFFFFF, 0xFF)] } } := by
  unfold ImageCanonical; decide

theorem witness_StepKeepsCaptureBounds :
    CaptureInBounds { live with capture := { live.capture with records := [plainRecord (.watch 1) [0]], seq := 1 } } := by
  unfold CaptureInBounds; simp only [NumberedFrom]; decide

theorem witness_StepKeepsClaimsDisjoint : ClaimsDisjoint mapped := mapped_disjoint

theorem settings_inRange (s : State) (h : s.settings = resetSettings) : SettingsInRange s := by
  intro n h1 h11
  rw [h]
  interval_cases n <;> decide

theorem counts_inRange (s : State) (ha : s.arb.owed ≤ 16 ∧ s.arb.lost ≤ 65535 ∧ s.arb.burst ≤ 256) (hl : s.link.errors ≤ 65535)
    (hc : s.capture = resetCapture) (hs : ∀ n : Fin 4, s.channels[n].stray ≤ 255) (hw : ∀ u : Fin 2, s.watch[u].hits ≤ 65535) :
    CountsInRange s := by
  refine ⟨ha.1, ha.2.1, ha.2.2, hl, by rw [hc]; decide, hs, hw, fun src => ?_⟩
  rw [hc]
  rcases src with ⟨l, n⟩ | n | n | n
  · exact (by decide : ∀ (l : Fin 12) (n : Fin 8), (resetCapture.counts (.lineSlot l n)).coalesced ≤ 255 ∧
      (resetCapture.counts (.lineSlot l n)).lost ≤ 255) l n
  · exact (by decide : ∀ n : Fin 4, (resetCapture.counts (.timer n)).coalesced ≤ 255 ∧ (resetCapture.counts (.timer n)).lost ≤ 255) n
  · exact (by decide : ∀ n : Fin 4, (resetCapture.counts (.channel n)).coalesced ≤ 255 ∧ (resetCapture.counts (.channel n)).lost ≤ 255) n
  · exact (by decide : ∀ n : Fin 2, (resetCapture.counts (.watch n)).coalesced ≤ 255 ∧ (resetCapture.counts (.watch n)).lost ≤ 255) n

theorem witness_StepKeepsSettingsAndCounts :
    SettingsInRange live ∧ CountsInRange (modArb (fun a => { a with owed := 16, lost := 65535, burst := 256 }) live) :=
  ⟨settings_inRange live rfl, counts_inRange _ (by decide) (by decide) rfl (by decide) (by decide)⟩

theorem witness_StepKeepsDeadBusQuiet : DeadBusIsQuiet (inBus .resetting ready) ∧ DeadBusIsQuiet (driving plainCycle live) := by
  refine ⟨fun _ => ⟨by decide, by decide, by decide, by decide, by decide, by decide, by decide, by decide, by decide,
    by decide, by decide, by decide⟩, fun h => absurd h (by decide)⟩

theorem witness_StepKeepsLineAndEngineStates :
    (let s := modLineSlot 11 3 (fun x => { x with stuck := true, stillAsserted := 4 })
        (modLineSlot 10 3 (fun x => { x with pending := true, stillAsserted := 3 }) live);
      StuckNotServed s ∧ PendingOnlyWatched s) ∧ IdleEngineClear live := by
  unfold StuckNotServed PendingOnlyWatched IdleEngineClear; decide

end Sys2Proof.Tests
end

section
/-! PROOFS. O40: the DMA_QUERY reply. First a request taken while the part listens, its reply and its index byte; then
the fields of a channel context, one lemma per field that is packed or derived; then the statement. -/

namespace Sys2Proof.Machine

/-! ## A request taken while the part listens -/

/-- While the part listens, a request whose frame passes the receiver is served by its owner, the receiver back in HUNT
(R184, R187). -/
theorem takeRequest_of_listening {i : Instr} {serve : State → State} {s : State} {kind tag : Byte} {payload : List Byte}
    (hs : Listening s) (hi : requestFrame i = some (kind, tag, payload)) (hlength : payload.length ≤ 1024)
    (hkind : kind.toNat < 128) : takeRequest i serve s = serve (heard s) := by
  obtain ⟨hready, hroom⟩ := hs
  have hheld : held s = false := decide_eq_false (Nat.not_le.mpr hroom)
  have hpasses : ¬ (1024 < payload.length ∨ 128 ≤ kind.toNat) := by omega
  simp only [takeRequest, hi, hready, hheld, hpasses, if_false, Bool.not_true, Bool.false_eq_true]
  rfl

/-- The reply to a request taken while the part listens joins the transmit list. -/
theorem reply_heard_of_listening {s : State} (hs : Listening s) (kind tag : Byte) (status : Status)
    (fields : List Byte) :
    reply kind tag status fields (heard s) = answered (kind + 0x80) tag (status.code :: fields) s := by
  obtain ⟨hready, -⟩ := hs
  exact if_pos hready

/-- An index byte outside the range names nothing. -/
theorem indexBelow_of_le {n : Nat} {b : Byte} (h : n ≤ b.toNat) : indexBelow n b = none := dif_neg (Nat.not_lt.mpr h)

/-- The byte of an index names that index. -/
theorem indexBelow_natByte {n : Nat} (hn : n ≤ 256) (i : Fin n) : indexBelow n (natByte i.val) = some i := by
  have hval : (natByte i.val).toNat = i.val := by
    rw [natByte, BitVec.toNat_ofNat]
    exact Nat.mod_eq_of_lt (by omega)
  simp only [indexBelow, hval, i.isLt, dif_pos]

/-! ## The sub-condition (R84) -/

/-- The channel a hold names, read from the hold (R54, R55). -/
theorem heldBy_eq_some_iff (a : Arbiter) (n : Fin 4) : heldBy a = some n ↔ a.hold = .demand n ∨ a.hold = .block n := by
  unfold heldBy
  cases a.hold <;> simp

/-- The driven cycle that runs is a channel's, read from the cycle. -/
theorem cycle_any_initiator_iff (s : State) (n : Fin 4) :
    (s.planner.cycle.any fun x => x.initiator == .channel n) = true ↔
      ∃ x, s.planner.cycle = some x ∧ x.initiator = .channel n := by
  cases s.planner.cycle <;> simp

/-- The sub-condition byte in the order in which R84 tries the conditions. -/
theorem subConditionCode_subCondition (s : State) (n : Fin 4) :
    subConditionCode (subCondition s n) =
      (if s.channels[n].state ≠ .running then 0xFF
      else if (∃ x, s.planner.cycle = some x ∧ x.initiator = .channel n) ∨ s.arb.hold = .demand n ∨
          s.arb.hold = .block n then 1
      else if s.arb.grant = some n then 2
      else if s.arb.timerChannel = some n ∧ requested s n s.channels[n].owner = true then 3 else 0) := by
  simp only [subCondition, Bool.or_eq_true, cycle_any_initiator_iff, beq_iff_eq, heldBy_eq_some_iff, ne_eq, ite_not,
    apply_ite subConditionCode]
  rfl

/-! ## The packed bytes -/

/-- The options byte: record at end bit 0, auto-reload bit 1. -/
theorem bitsNumber_options (recordEnd autoReload : Bool) :
    bitsNumber [recordEnd, autoReload] = recordEnd.toNat + 2 * autoReload.toNat := rfl

/-- The flags byte of a channel context: Busy, which is on exactly in RUNNING (R83), in bit 0. -/
theorem bitsNumber_contextFlags (state : DmaState) (finished address count pulse block : Bool) :
    bitsNumber [state == .running, finished, address, count, pulse, block] =
      (if state = .running then 1 else 0) + 2 * finished.toNat + 4 * address.toNat + 8 * count.toNat +
        16 * pulse.toNat + 32 * block.toNat := by
  have hbusy : (state == .running).toNat = if state = .running then 1 else 0 := by cases state <;> rfl
  simp only [bitsNumber, hbusy]
  omega

/-- The run flags of a context occupy the bits they have in a capture record (R99, R195). -/
theorem number_runRecordFlags (f : AccessFlags) :
    (runRecordFlags f false).number = 2 * f.unclaimed.toNat + 16 * f.prot.toNat + 32 * f.narrowed.toNat := by
  simp [RecordFlags.number, runRecordFlags, noRecordFlags]

/-! ## The reply -/

/-- The fields after the status of a DMA_QUERY reply, for context `c` and sub-condition byte `sub` of channel `n`: the
layout of R195 written out. -/
def contextBytes (n : Fin 4) (c : Channel) (sub : Byte) : List Byte :=
  [c.mode.code, c.direction.code, natByte c.owner.val,
    natByte (c.recordEnd.toNat + 2 * c.autoReload.toNat), if c.down then 1 else 0,
    if 2 ≤ n.val then 1 else 0, c.state.code, sub, c.cause.code,
    natByte ((if c.state = .running then 1 else 0) + 2 * c.finished.toNat + 4 * c.addressLoaded.toNat +
      8 * c.countLoaded.toNat + 16 * c.pulse.toNat + 32 * c.blockRun.toNat),
    natByte c.page.val] ++ bytes2 c.offset.toNat ++ bytes2 c.count.toNat ++ [natByte c.basePage.val] ++
    bytes2 c.baseOffset.toNat ++ bytes2 c.baseCount.toNat ++
    bytes2 (2 * c.runFlags.unclaimed.toNat + 16 * c.runFlags.prot.toNat + 32 * c.runFlags.narrowed.toNat) ++
    [natByte c.stray]

/-- The model's reply fields are the layout of R195. -/
theorem channelFields_eq_contextBytes (s : State) (n : Fin 4) :
    channelFields s n = contextBytes n s.channels[n] (subConditionCode (subCondition s n)) := by
  simp only [channelFields, contextBytes, bitsNumber_options, bitsNumber_contextFlags, number_runRecordFlags, boolCode,
    wideChannel, decide_eq_true_eq]

/-- DMA_QUERY is taken and served like every request. -/
theorem exec_dmaQuery_of_listening {s : State} (hs : Listening s) (tag channel : Byte) :
    exec (.dmaQuery tag channel) s = .next (serveDmaQuery tag channel (heard s)) :=
  congrArg _ (takeRequest_of_listening (i := .dmaQuery tag channel) hs rfl (by decide : 1 ≤ 1024) (by decide))

/-- A channel number above 3 is refused with RANGE (R188). -/
theorem serveDmaQuery_outOfRange {s : State} (hs : Listening s) (tag : Byte) {channel : Byte}
    (h : 4 ≤ channel.toNat) : serveDmaQuery tag channel (heard s) = answered 0x8D tag [3] s := by
  rw [serveDmaQuery, indexBelow_of_le h]
  exact reply_heard_of_listening hs 0x0D tag .range []

/-- A channel's number is answered OK with the channel's context (R91). -/
theorem serveDmaQuery_channel {s : State} (hs : Listening s) (tag : Byte) (n : Fin 4) :
    serveDmaQuery tag (natByte n.val) (heard s) = answered 0x8D tag (0 :: channelFields s n) s := by
  rw [serveDmaQuery, indexBelow_natByte (by decide) n]
  exact reply_heard_of_listening hs 0x0D tag .ok (channelFields (heard s) n)

/-- Settles O40: the request is served as one taken while listening, and its reply's fields are read off the context
field by field. -/
theorem dmaQueryReports : Obligations.DmaQueryReports := by
  unfold Obligations.DmaQueryReports
  constructor
  · intro tag channel s hs hchannel
    rw [exec_dmaQuery_of_listening hs, serveDmaQuery_outOfRange hs tag hchannel]
  · intro tag n s c sub hs hc hsub
    subst hc
    have hcode : subConditionCode (subCondition s n) = sub := (subConditionCode_subCondition s n).trans hsub.symm
    rw [exec_dmaQuery_of_listening hs, serveDmaQuery_channel hs, channelFields_eq_contextBytes, hcode]
    rfl

end Sys2Proof.Machine
end

section
/-! PROOFS. O48: a record handed to the queue. First what a change of one source's counts does; then the high flag test
after a store; then the two ways a handed record can go; then the statement. -/

namespace Sys2Proof.Machine

/-! ## The counts of one source (R149) -/

/-- A change of one source's counts is read back at that source and leaves every other source's counts. Channels and
watch units hold no coalesced count, so the change must keep a coalesced count of 0. -/
theorem counts_modCounts (c : Capture) (r src : Source) (f : Counts → Counts)
    (hf : ∀ k, k.coalesced = 0 → (f k).coalesced = 0) :
    (c.modCounts r f).counts src = if src = r then f (c.counts src) else c.counts src := by
  have lost_only (k : Nat) : ({ coalesced := 0, lost := (f ⟨0, k⟩).lost } : Counts) = f ⟨0, k⟩ :=
    congrArg (Counts.mk · (f ⟨0, k⟩).lost) (hf ⟨0, k⟩ rfl).symm
  by_cases h : src = r
  · subst h
    rw [if_pos rfl]
    cases src with
    | lineSlot l n => simp only [Capture.modCounts, Capture.counts, upd_self]
    | timer n => simp only [Capture.modCounts, Capture.counts, upd_self]
    | channel n => simp only [Capture.modCounts, Capture.counts, upd_self, lost_only]
    | watch u => simp only [Capture.modCounts, Capture.counts, upd_self, lost_only]
  · rw [if_neg h]
    cases r with
    | lineSlot l n =>
      cases src with
      | lineSlot l' n' =>
        by_cases hl : l = l'
        · subst hl
          have hn : n ≠ n' := fun e => h (e ▸ rfl)
          simp only [Capture.modCounts, Capture.counts, upd_self, upd_other _ _ _ _ hn]
        · simp only [Capture.modCounts, Capture.counts, upd_other _ _ _ _ hl]
      | _ => rfl
    | timer n =>
      cases src with
      | timer n' => simp only [Capture.modCounts, Capture.counts, upd_other _ _ _ _ fun e : n = n' => h (e ▸ rfl)]
      | _ => rfl
    | channel n =>
      cases src with
      | channel n' => simp only [Capture.modCounts, Capture.counts, upd_other _ _ _ _ fun e : n = n' => h (e ▸ rfl)]
      | _ => rfl
    | watch u =>
      cases src with
      | watch u' => simp only [Capture.modCounts, Capture.counts, upd_other _ _ _ _ fun e : u = u' => h (e ▸ rfl)]
      | _ => rfl

section modCounts

variable (c : Capture) (src : Source) (f : Counts → Counts)

@[simp] theorem modCounts_records : (c.modCounts src f).records = c.records := by cases src <;> rfl
@[simp] theorem modCounts_seq : (c.modCounts src f).seq = c.seq := by cases src <;> rfl
@[simp] theorem modCounts_dropTotal : (c.modCounts src f).dropTotal = c.dropTotal := by cases src <;> rfl
@[simp] theorem modCounts_high : (c.modCounts src f).high = c.high := by cases src <;> rfl

end modCounts

/-- The counts held for a source are read from the four count vectors alone. -/
theorem counts_congr {c d : Capture} (hline : d.lineCounts = c.lineCounts) (htimer : d.timerCounts = c.timerCounts)
    (hchannel : d.channelLost = c.channelLost) (hwatch : d.watchLost = c.watchLost) (src : Source) :
    d.counts src = c.counts src := by
  cases src <;> simp only [Capture.counts, hline, htimer, hchannel, hwatch]

/-! ## The high flag test after a store (R157) -/

/-- A notice is made from the link, the settings and the time base: the capture queue has no part in it. -/
theorem notice_link_of_capture (kind : Nat) (fields : List Byte) (s : State) (c : Capture) :
    (notice kind fields { s with capture := c }).link = (notice kind fields s).link := by
  simp only [notice, send, apply_ite State.link]

/-- The test turns the high flag on at the level, and changes nothing else of the queue. -/
theorem testHighAfterStore_capture (s : State) :
    (testHighAfterStore s).capture =
      { s.capture with high := s.capture.high || decide (s.settings.almostFull ≤ s.capture.recordCount) } := by
  unfold testHighAfterStore
  split
  · next hrises =>
    obtain ⟨-, hlevel⟩ := Bool.and_eq_true_iff.mp hrises
    rw [noticeQueueHigh_touches _ .capture (by decide), hlevel, Bool.or_true]
  · next hstays =>
    cases hhigh : s.capture.high with
    | true => rw [Bool.true_or, ← hhigh]
    | false =>
      have hlevel : decide (s.settings.almostFull ≤ s.capture.recordCount) = false := by simpa [hhigh] using hstays
      rw [Bool.false_or, hlevel, ← hhigh]

/-- The QUEUE_HIGH notice goes out exactly when the flag turns on. -/
theorem testHighAfterStore_link (s : State) :
    (testHighAfterStore s).link =
      (if s.capture.high = false ∧ s.settings.almostFull ≤ s.capture.recordCount then noticeQueueHigh s else s).link := by
  simp only [testHighAfterStore, Bool.and_eq_true, Bool.not_eq_true', decide_eq_true_eq, apply_ite State.link]
  congr 1
  exact notice_link_of_capture _ _ s _

/-! ## The two ways of a handed record (R152, R153) -/

/-- Room for a record: fewer than 512 records, and at most 16384 data bytes with the record's own. -/
theorem fits_iff (c : Capture) (r : Record) :
    c.fits r = true ↔
      c.records.length < 512 ∧ (c.records.map fun x => x.data.length).sum + r.data.length ≤ 16384 := by
  rw [Capture.fits, Bool.and_eq_true, decide_eq_true_eq, decide_eq_true_eq]
  rfl

/-- The record as it is stored: with the next sequence number and its source's counts. -/
def storedRecord (r : Record) (c : Capture) : Record :=
  { r with sequence := c.seq, coalesced := (c.counts r.source).coalesced, lost := (c.counts r.source).lost }

/-- The queue with the record stored, before the high flag test. -/
def storedCapture (r : Record) (c : Capture) : Capture :=
  { c.modCounts r.source fun _ => zeroCounts with records := c.records ++ [storedRecord r c], seq := c.seq + 1 }

/-- A store puts the record at the end of the queue and tests the high flag. -/
theorem storeRecord_eq (r : Record) (s : State) :
    storeRecord r s = testHighAfterStore { s with capture := storedCapture r s.capture } := by
  simp only [storeRecord, storedCapture, storedRecord, modCounts_records, modCounts_seq]

/-- A stored record adds one to the record count. -/
theorem recordCount_storedCapture (r : Record) (c : Capture) :
    (storedCapture r c).recordCount = c.records.length + 1 := List.length_append

/-- A stored record adds its data to the byte count. -/
theorem byteCount_storedCapture (r : Record) (c : Capture) :
    (storedCapture r c).byteCount = (c.records.map fun x => x.data.length).sum + r.data.length := by
  simp [Capture.byteCount, storedCapture, storedRecord]

/-- A store returns the counts of the record's source to 0. -/
theorem counts_storedCapture (r : Record) (c : Capture) (src : Source) :
    (storedCapture r c).counts src = if src = r.source then zeroCounts else c.counts src :=
  (counts_congr rfl rfl rfl rfl src).trans (counts_modCounts c r.source src _ fun _ _ => rfl)

/-- The queue after a store: the high flag is on if it was on or the level is reached. -/
theorem storeRecord_capture (r : Record) (s : State) :
    (storeRecord r s).capture =
      { storedCapture r s.capture with
        high := s.capture.high || decide (s.settings.almostFull ≤ s.capture.records.length + 1) } := by
  rw [storeRecord_eq, testHighAfterStore_capture, recordCount_storedCapture]
  simp only [storedCapture, modCounts_high]

/-- The link after a store: the QUEUE_HIGH notice if the high flag was off and the level is reached. -/
theorem storeRecord_link (r : Record) (s : State) :
    (storeRecord r s).link =
      (if s.capture.high = false ∧ s.settings.almostFull ≤ s.capture.records.length + 1 then
        notice 0 (bytes2 (s.capture.records.length + 1) ++
          bytes2 ((s.capture.records.map fun x => x.data.length).sum + r.data.length) ++
          bytes2 s.settings.almostFull) s
      else s).link := by
  have hhigh : (storedCapture r s.capture).high = s.capture.high := modCounts_high _ _ _
  rw [storeRecord_eq, testHighAfterStore_link]
  simp only [noticeQueueHigh, recordCount_storedCapture, byteCount_storedCapture, hhigh, apply_ite State.link,
    notice_link_of_capture]

/-- A drop raises the lost count of the record's source, stopping at 255. -/
theorem counts_dropRecord (r : Record) (s : State) (src : Source) :
    (dropRecord r s).capture.counts src =
      if src = r.source then
        { coalesced := (s.capture.counts src).coalesced, lost := min 255 ((s.capture.counts src).lost + 1) }
      else s.capture.counts src :=
  (counts_congr rfl rfl rfl rfl src).trans (counts_modCounts s.capture r.source src _ fun _ hk => hk)

/-- A drop changes the queue alone. -/
theorem dropRecord_touches (r : Record) (s : State) : Touches [.capture] s (dropRecord r s) := touches_capture _ _

/-- Settles O48: the record's room decides between a store and a drop, and each is read off field by field. -/
theorem recordIsStoredOrDropped : Obligations.RecordIsStoredOrDropped := by
  unfold Obligations.RecordIsStoredOrDropped
  intro r s
  constructor
  · intro hrecords hbytes
    have hand : handRecord r s = storeRecord r s := if_pos ((fits_iff _ _).mpr ⟨hrecords, hbytes⟩)
    refine ⟨handRecord_touches r s, ?_⟩
    rw [hand, storeRecord_capture]
    exact ⟨rfl, rfl, modCounts_dropTotal _ _ _,
      fun src => (counts_congr rfl rfl rfl rfl src).trans (counts_storedCapture r s.capture src), rfl,
      storeRecord_link r s⟩
  · intro hfull
    have hfits : ¬ s.capture.fits r = true := by rw [fits_iff]; omega
    have hand : handRecord r s = dropRecord r s := if_neg hfits
    rw [hand]
    exact ⟨dropRecord_touches r s, modCounts_records _ _ _, modCounts_seq _ _ _, modCounts_high _ _ _,
      congrArg (fun total => min 4294967295 (total + 1)) (modCounts_dropTotal _ _ _), counts_dropRecord r s⟩

end Sys2Proof.Machine
end

section
/-! PROOFS. O8: the receiver's table. First the frame of the row that a frame spells, one lemma per kind; then who
serves that row; then the receiver byte by byte, one lemma per row of the table; then the statement. -/

namespace Sys2Proof

/-! ## The bytes of a field put together from bytes -/

@[simp] theorem byte0_word16 (b0 b1 : Byte) : byte0 (word16 b0 b1) = b0 := BitVec.extractLsb'_append_eq_right

@[simp] theorem byte1_word16 (b0 b1 : Byte) : byte1 (word16 b0 b1) = b1 := BitVec.extractLsb'_append_eq_left

@[simp] theorem byte0_word24 (b0 b1 b2 : Byte) : byte0 (word24 b0 b1 b2) = b0 :=
  (BitVec.extractLsb'_append_eq_of_add_le (by decide)).trans BitVec.extractLsb'_append_eq_right

@[simp] theorem byte1_word24 (b0 b1 b2 : Byte) : byte1 (word24 b0 b1 b2) = b1 :=
  (BitVec.extractLsb'_append_eq_of_add_le (by decide)).trans BitVec.extractLsb'_append_eq_left

@[simp] theorem byte2_word24 (b0 b1 b2 : Byte) : byte2 (word24 b0 b1 b2) = b2 := BitVec.extractLsb'_append_eq_left

theorem toNat_word16 (b0 b1 : Byte) : (word16 b0 b1).toNat = b0.toNat + 256 * b1.toNat := by
  rw [word16, BitVec.toNat_append, ← Nat.shiftLeft_add_eq_or_of_lt b0.isLt, Nat.shiftLeft_eq]
  omega

/-! ## The row a frame spells has that very frame (R187, R195) -/

section requestFrame

variable (tag : Byte) (payload : List Byte)

theorem requestFrame_busRequest : requestFrame (busRequest tag payload) = some (0x05, tag, payload) := by
  unfold busRequest
  split
  · split_ifs <;> simp [requestFrame, *]
  · rfl

theorem requestFrame_slotRequest : requestFrame (slotRequest tag payload) = some (0x06, tag, payload) := by
  unfold slotRequest
  split
  · split_ifs <;> simp [requestFrame, *]
  · rfl

theorem requestFrame_claimRequest : requestFrame (claimRequest tag payload) = some (0x07, tag, payload) := by
  unfold claimRequest
  split
  · rfl
  · simp [requestFrame, ClaimFields.payload]
  · rfl

theorem requestFrame_dmaModeRequest : requestFrame (dmaModeRequest tag payload) = some (0x09, tag, payload) := by
  unfold dmaModeRequest
  split <;> rfl

theorem requestFrame_dmaAddrRequest : requestFrame (dmaAddrRequest tag payload) = some (0x0A, tag, payload) := by
  unfold dmaAddrRequest
  split
  · simp [requestFrame]
  · rfl

theorem requestFrame_dmaCountRequest : requestFrame (dmaCountRequest tag payload) = some (0x0B, tag, payload) := by
  unfold dmaCountRequest
  split
  · simp [requestFrame]
  · rfl

theorem requestFrame_dmaCmdRequest : requestFrame (dmaCmdRequest tag payload) = some (0x0C, tag, payload) := by
  unfold dmaCmdRequest
  split
  · split_ifs <;> simp [requestFrame, *]
  · rfl

theorem requestFrame_dmaQueryRequest : requestFrame (dmaQueryRequest tag payload) = some (0x0D, tag, payload) := by
  unfold dmaQueryRequest
  split <;> rfl

theorem requestFrame_lineRequest : requestFrame (lineRequest tag payload) = some (0x0E, tag, payload) := by
  unfold lineRequest
  split
  · split_ifs <;> simp [requestFrame, *]
  · split_ifs <;> simp [requestFrame, *]
  · split_ifs <;> simp [requestFrame, *]
  · rfl

theorem requestFrame_serviceRequest : requestFrame (serviceRequest tag payload) = some (0x0F, tag, payload) := by
  unfold serviceRequest
  split
  · split_ifs <;> simp [requestFrame, *]
  · split_ifs <;> simp [requestFrame, *]
  · rfl

theorem requestFrame_timerRequest : requestFrame (timerRequest tag payload) = some (0x10, tag, payload) := by
  unfold timerRequest
  split
  · split_ifs <;> simp [requestFrame, *]
  · split_ifs <;> simp [requestFrame, *]
  · rfl

theorem requestFrame_watchRequest : requestFrame (watchRequest tag payload) = some (0x11, tag, payload) := by
  unfold watchRequest
  split
  · split_ifs <;> simp [requestFrame, *]
  · split_ifs <;> simp [requestFrame, WatchFields.payload, *]
  · rfl

theorem requestFrame_drainRequest : requestFrame (drainRequest tag payload) = some (0x12, tag, payload) := by
  unfold drainRequest
  split
  · split_ifs <;> simp [requestFrame, *]
  · rfl

theorem requestFrame_imgWriteRequest : requestFrame (imgWriteRequest tag payload) = some (0x13, tag, payload) := by
  unfold imgWriteRequest
  split
  · simp [requestFrame]
  · rfl

theorem requestFrame_imgReadRequest : requestFrame (imgReadRequest tag payload) = some (0x14, tag, payload) := by
  unfold imgReadRequest
  split
  · simp [requestFrame]
  · rfl

theorem requestFrame_imgFillRequest : requestFrame (imgFillRequest tag payload) = some (0x15, tag, payload) := by
  unfold imgFillRequest
  split
  · simp [requestFrame]
  · rfl

end requestFrame

/-- One line of the dispatch table: the row of kind `k` is looked at when the frame has that kind. -/
theorem requestFrame_ite_kind {kind k tag : Byte} {payload : List Byte} {row others : Instr}
    (hrow : requestFrame row = some (k, tag, payload)) (hothers : requestFrame others = some (kind, tag, payload)) :
    requestFrame (if kind = k then row else others) = some (kind, tag, payload) := by
  split
  · next h => rw [h, hrow]
  · exact hothers

/-- The row a frame spells has that very frame, line by line of the dispatch table. -/
theorem requestFrame_requestOf (kind tag : Byte) (payload : List Byte) :
    requestFrame (requestOf kind tag payload) = some (kind, tag, payload) := by
  unfold requestOf
  refine requestFrame_ite_kind ?ident <| requestFrame_ite_kind ?status <| requestFrame_ite_kind ?set <|
    requestFrame_ite_kind ?get <| requestFrame_ite_kind (requestFrame_busRequest ..) <|
    requestFrame_ite_kind (requestFrame_slotRequest ..) <| requestFrame_ite_kind (requestFrame_claimRequest ..) <|
    requestFrame_ite_kind rfl <| requestFrame_ite_kind (requestFrame_dmaModeRequest ..) <|
    requestFrame_ite_kind (requestFrame_dmaAddrRequest ..) <| requestFrame_ite_kind (requestFrame_dmaCountRequest ..) <|
    requestFrame_ite_kind (requestFrame_dmaCmdRequest ..) <| requestFrame_ite_kind (requestFrame_dmaQueryRequest ..) <|
    requestFrame_ite_kind (requestFrame_lineRequest ..) <| requestFrame_ite_kind (requestFrame_serviceRequest ..) <|
    requestFrame_ite_kind (requestFrame_timerRequest ..) <| requestFrame_ite_kind (requestFrame_watchRequest ..) <|
    requestFrame_ite_kind (requestFrame_drainRequest ..) <| requestFrame_ite_kind (requestFrame_imgWriteRequest ..) <|
    requestFrame_ite_kind (requestFrame_imgReadRequest ..) <| requestFrame_ite_kind (requestFrame_imgFillRequest ..) rfl
  case ident | status => split_ifs <;> simp [requestFrame, *]
  case set =>
    split
    · simp [requestFrame]
    · rfl
  case get => split <;> rfl

end Sys2Proof

namespace Sys2Proof.Machine

/-- A row that its own frame spells is executed by taking the frame and letting its owner serve it (R187). -/
theorem exec_of_spelt {i : Instr} {kind tag : Byte} {payload : List Byte}
    (hframe : requestFrame i = some (kind, tag, payload)) (hrow : requestOf kind tag payload = i) (s : State) :
    exec i s = .next (takeRequest i (serve i) s) := by
  cases i with
  | unknownRequest k t p =>
    obtain ⟨rfl, rfl, rfl⟩ : k = kind ∧ t = tag ∧ p = payload := by simpa [requestFrame] using hframe
    show execUnknownRequest k t p s = _
    rw [execUnknownRequest, hrow]
  | _ => simp only [requestFrame, reduceCtorEq] at hframe <;> rfl

/-- While the part listens, a good frame's row is served by its owner, the receiver back in HUNT (R184, R187). -/
theorem exec_of_listening {i : Instr} {kind tag : Byte} {payload : List Byte} {s : State} (hs : Listening s)
    (hframe : requestFrame i = some (kind, tag, payload)) (hrow : requestOf kind tag payload = i)
    (hkind : kind.toNat < 128) (hlength : payload.length ≤ 1024) : exec i s = .next (serve i (heard s)) := by
  rw [exec_of_spelt hframe hrow, takeRequest_of_listening hs hframe hlength hkind]

/-! ## The receiver byte by byte (R184) -/

/-- A discard is the counted return to HUNT of R185 and R186. -/
theorem discard_eq_afterDiscard (s : State) : discard s = afterDiscard s := rfl

/-- While the part listens, a byte offered is taken. -/
theorem exec_byteTaken_of_listening {s : State} (hs : Listening s) (b : Byte) :
    exec (.byteTaken b) s = .next (takeByte b s) := by
  obtain ⟨hready, hroom⟩ := hs
  have hheld : ¬ held s = true := by simpa [held] using hroom
  show Host.Outcome.next (if s.link.ready then offerByte b s else s) = _
  rw [if_pos hready, offerByte, if_neg hheld]

section takeByte

variable {b : Byte} {s : State}

theorem takeByte_of_hunt (hstate : s.link.rx.state = .hunt) : takeByte b s = takeInHunt b s := by
  rw [takeByte, hstate]

theorem takeByte_of_header (hstate : s.link.rx.state = .header) : takeByte b s = takeInHeader b s := by
  rw [takeByte, hstate]

theorem takeByte_of_payload (hstate : s.link.rx.state = .payload) : takeByte b s = takeInPayload b s := by
  rw [takeByte, hstate]

/-- HUNT, no first sync byte seen. -/
theorem takeByte_hunt_noSync (hstate : s.link.rx.state = .hunt) (hsync : s.link.rx.sync = false) :
    takeByte b s = withReceiver (if b = 0xA5 then { s.link.rx with sync := true } else s.link.rx) s := by
  rw [takeByte_of_hunt hstate, takeInHunt, if_neg (by simp [hsync])]
  split_ifs <;> rfl

/-- HUNT after a first sync byte. -/
theorem takeByte_hunt_sync (hstate : s.link.rx.state = .hunt) (hsync : s.link.rx.sync = true) :
    takeByte b s = withReceiver
      (if b = 0x5A then { state := .header, sync := false, header := [], payload := [] }
        else if b = 0xA5 then s.link.rx else { s.link.rx with sync := false }) s := by
  rw [takeByte_of_hunt hstate, takeInHunt, if_pos hsync]
  split_ifs <;> rfl

/-- HEADER, a byte before the fourth. -/
theorem takeByte_header_gathers (hstate : s.link.rx.state = .header) (hlength : s.link.rx.header.length < 3) :
    takeByte b s = withReceiver { s.link.rx with header := s.link.rx.header ++ [b] } s := by
  rw [takeByte_of_header hstate, takeInHeader]
  split
  · next hheader => simp [hheader] at hlength
  · rfl

/-- HEADER, the fourth byte: the length decides. -/
theorem takeByte_header_ends {kind tag low : Byte} (hstate : s.link.rx.state = .header)
    (hheader : s.link.rx.header = [kind, tag, low]) :
    takeByte b s = if 1024 < low.toNat + 256 * b.toNat then afterDiscard s
      else withReceiver { s.link.rx with state := .payload, header := [kind, tag, low, b] } s := by
  simp only [takeByte_of_header hstate, takeInHeader, hheader, toNat_word16]
  rfl

variable {kind tag low high : Byte}

/-- A byte taken in PAYLOAD with a whole header: the length field tells a payload byte from the check byte. -/
theorem takeInPayload_of_header (hheader : s.link.rx.header = [kind, tag, low, high]) :
    takeInPayload b s =
      if s.link.rx.payload.length < low.toNat + 256 * high.toNat then
        modRx (fun r => { r with payload := r.payload ++ [b] }) s
      else frameTaken kind tag (word16 low high) s.link.rx.payload b s := by
  simp only [takeInPayload, hheader, toNat_word16]

/-- PAYLOAD, a byte before the check byte. -/
theorem takeByte_payload_gathers (hstate : s.link.rx.state = .payload)
    (hheader : s.link.rx.header = [kind, tag, low, high])
    (hlength : s.link.rx.payload.length < low.toNat + 256 * high.toNat) :
    takeByte b s = withReceiver { s.link.rx with payload := s.link.rx.payload ++ [b] } s := by
  rw [takeByte_of_payload hstate, takeInPayload_of_header hheader, if_pos hlength]
  rfl

/-- PAYLOAD, the check byte: the gathered frame is tested. -/
theorem takeByte_payload_ends (hstate : s.link.rx.state = .payload)
    (hheader : s.link.rx.header = [kind, tag, low, high])
    (hlength : s.link.rx.payload.length = low.toNat + 256 * high.toNat) :
    takeByte b s = frameTaken kind tag (word16 low high) s.link.rx.payload b s := by
  rw [takeByte_of_payload hstate, takeInPayload_of_header hheader, if_neg hlength.not_lt]

end takeByte

/-- The test of a received frame (R185), from the bytes as they came. -/
theorem framePasses_word16_iff (kind tag low high : Byte) (payload : List Byte) (check : Byte) :
    framePasses kind tag (word16 low high) payload check = true ↔
      low.toNat + 256 * high.toNat ≤ 1024 ∧ kind + tag + low + high + payload.sum + check = 0 ∧ kind.toNat < 128 := by
  simp only [framePasses, frameSum, byte0_word16, byte1_word16, toNat_word16, Bool.and_eq_true, decide_eq_true_eq,
    beq_iff_eq, and_assoc]

/-- While the part listens, a gathered frame of a permitted length runs the row it spells, or is discarded. -/
theorem frameTaken_of_listening {s : State} (hs : Listening s) (kind tag low high : Byte) {payload : List Byte}
    (check : Byte) (hlength : payload.length = low.toNat + 256 * high.toNat) (hmax : payload.length ≤ 1024) :
    .next (frameTaken kind tag (word16 low high) payload check s) =
      if kind + tag + low + high + payload.sum + check = 0 ∧ kind.toNat < 128 then
        exec (requestOf kind tag payload) s
      else .next (afterDiscard s) := by
  have hpasses := framePasses_word16_iff kind tag low high payload check
  split
  · next hgood =>
    rw [exec_of_listening hs (requestFrame_requestOf kind tag payload) rfl hgood.2 hmax, frameTaken,
      if_pos (hpasses.mpr ⟨hlength ▸ hmax, hgood⟩)]
    rfl
  · next hbad =>
    rw [frameTaken, if_neg fun h => hbad (hpasses.mp h).2, discard_eq_afterDiscard]

/-- Settles O8: a clause for each row of the table, by the receiver's state; link loss and part reset return the
receiver to HUNT. -/
theorem receiverActsByTable : Obligations.ReceiverActsByTable := by
  unfold Obligations.ReceiverActsByTable
  refine ⟨fun b s hs => ?_, fun s => ⟨_, rfl, rfl⟩, fun present straps good s => ⟨_, rfl, rfl⟩⟩
  rw [exec_byteTaken_of_listening hs]
  refine ⟨?_, ?_, ?_, ?_, ?_, ?_⟩
  · intro hstate hsync
    rw [takeByte_hunt_noSync hstate hsync]
  · intro hstate hsync
    rw [takeByte_hunt_sync hstate hsync]
  · intro hstate hlength
    rw [takeByte_header_gathers hstate hlength]
  · intro kind tag low hstate hheader
    rw [takeByte_header_ends hstate hheader]
  · intro kind tag low high hstate hheader hlength
    rw [takeByte_payload_gathers hstate hheader hlength]
  · intro kind tag low high hstate hheader hlength hmax
    rw [takeByte_payload_ends hstate hheader hlength]
    exact frameTaken_of_listening hs kind tag low high b hlength hmax

end Sys2Proof.Machine
end

section
/-! PROOFS. O13: the reports of IDENT and STATUS. First the bitmap of the wide straps and the supply byte; then the two
replies; then the statement. -/

namespace Sys2Proof.Machine

/-! ## The replies of IDENT and STATUS (R192) -/

/-- A number put together from bits holds each of them in its place. -/
theorem testBit_bitsNumber (bits : List Bool) (i : Nat) : (bitsNumber bits).testBit i = bits.getD i false := by
  induction bits generalizing i with
  | nil => simp [bitsNumber]
  | cons b rest ih =>
    cases i with
    | zero => cases b <;> simp [bitsNumber]
    | succ i =>
      have hhalf : bitsNumber (b :: rest) / 2 = bitsNumber rest := by
        cases b <;> simp only [bitsNumber, Bool.toNat_true, Bool.toNat_false] <;> omega
      rw [Nat.testBit_succ, hhalf, ih, List.getD_cons_succ]

/-- Bit `n` of the bitmap of the wide straps is slot `n`'s. -/
theorem getLsbD_wideBitmap (s : State) (n : Fin 8) : (wideBitmap s).getLsbD n.val = s.slots[n].wide := by
  have hslot : allSlots[n.val]? = some n := by revert n; decide
  rw [wideBitmap, natByte, BitVec.getLsbD_ofNat, testBit_bitsNumber, List.getD_eq_getElem?_getD, List.getElem?_map,
    hslot, decide_eq_true n.isLt]
  rfl

/-- The supply counts as good in GOOD and in LOW (R45). -/
theorem boolCode_isGood (supply : SupplyState) :
    boolCode supply.isGood = if supply = .good ∨ supply = .low then 1 else 0 := by
  cases supply <;> rfl

/-- IDENT's reply, its constants spelt out. -/
theorem exec_ident_of_listening {s : State} (hs : Listening s) (tag : Byte) :
    exec (.ident tag) s = .next (answered 0x81 tag
      [0, 0x31, 0x0A, 0x08, 0x02, 0x01, 8, wideBitmap s, 24, 24, 4, 4, 2, 12, 0x00, 0x02, 0x00, 0x40, 32, 0x00, 0x04]
      s) := by
  rw [exec_of_listening (i := .ident tag) hs rfl rfl (by decide) (by decide)]
  exact congrArg _ (reply_heard_of_listening hs 0x01 tag .ok (identFields (heard s)))

/-- STATUS is answered with its fields as they stand, the error count and notice overflow cleared with the reply. -/
theorem exec_status_of_listening {s : State} (hs : Listening s) (tag : Byte) :
    exec (.status tag) s = .next (answered 0x82 tag (0 :: statusFields s)
      { s with link := { s.link with errors := 0, overflow := false } }) := by
  rw [exec_of_listening (i := .status tag) hs rfl rfl (by decide) (by decide)]
  exact congrArg (fun t => Host.Outcome.next (modLink (fun l => { l with errors := 0, overflow := false }) t))
    (reply_heard_of_listening hs 0x02 tag .ok (statusFields (heard s)))

/-- IDENT and STATUS carry no payload: a frame of theirs with one spells no row (R187, R195). -/
theorem requestOf_ident_or_status {kind : Byte} (hkind : kind = 0x01 ∨ kind = 0x02) (tag : Byte) {payload : List Byte}
    (hpayload : payload ≠ []) : requestOf kind tag payload = .unknownRequest kind tag payload := by
  obtain rfl | rfl := hkind
  · exact if_neg hpayload
  · exact if_neg hpayload

/-- Settles O13: the two requests are served as taken while listening; the refused form is one whose frame spells no
row. -/
theorem identAndStatusReport : Obligations.IdentAndStatusReport := by
  unfold Obligations.IdentAndStatusReport
  refine ⟨?_, ?_, ?_⟩
  · intro tag s hs
    exact ⟨wideBitmap s, getLsbD_wideBitmap s, exec_ident_of_listening hs tag⟩
  · intro tag s hs
    rw [exec_status_of_listening hs, statusFields, boolCode_isGood]
    rfl
  · intro kind tag payload s hs hkind hpayload hlength
    have hsmall : kind.toNat < 128 := by obtain rfl | rfl := hkind <;> decide
    have hfields : refusalFields kind (heard s) = [] := by obtain rfl | rfl := hkind <;> rfl
    rw [exec_of_listening hs rfl (requestOf_ident_or_status hkind tag hpayload) hsmall hlength, serve, serveUnknown,
      hfields, reply_heard_of_listening hs]
    rfl

end Sys2Proof.Machine
end

section
/-! PROOFS. O1 and O3: what each command may change. First the frame of each request's service, then of each event, then
of a microsecond end; then the two statements. -/

namespace Sys2Proof.Machine

set_option Elab.async false

/-! ## The receiver (R184 to R189) -/

theorem modLink_touches (f : Link → Link) (s : State) : Touches [.link] s (modLink f s) := touches_link _ _

theorem hunt_touches (s : State) : Touches [.link] s (hunt s) := modLink_touches _ _

theorem discard_touches (s : State) : Touches [.link] s (discard s) := (modLink_touches _ s).trans (hunt_touches _)

/-- A request row touches what its service touches, and the link. -/
theorem takeRequest_touches {l : List Field} (i : Instr) {serve : State → State} (h : ∀ s, Touches l s (serve s))
    (s : State) (hl : [.link] ⊆ l := by decide) : Touches l s (takeRequest i serve s) := by
  unfold takeRequest
  split
  · refine .ite (.refl _ _) (.ite ?_ (.ite ?_ ?_))
    · exact (modLink_touches _ _).mono hl
    · exact (discard_touches _).mono hl
    · exact ((hunt_touches s).mono hl).trans (h _)
  · exact .refl _ _

/-! ## Services of requests -/

theorem refuse_or_reply_touches {l : List Field} (kind tag : Byte) (st : Status) (fields : List Byte) (s : State)
    (hl : [.link] ⊆ l := by decide) : Touches l s (reply kind tag st fields s) :=
  (reply_touches kind tag st fields s).mono hl

/-- A change of one field, then the reply. -/
theorem Touches.replied {l : List Field} {s t : State} (h : Touches l s t) (kind tag : Byte) (st : Status)
    (fields : List Byte) (hl : [.link] ⊆ l := by decide) : Touches l s (reply kind tag st fields t) :=
  h.trans ((reply_touches kind tag st fields t).mono hl)

/-- A change, then what the command lets go on. -/
theorem Touches.settled {l : List Field} {s t : State} (h : Touches l s t) (hl : settleFields ⊆ l := by decide) :
    Touches l s (settle t) := h.trans ((settle_touches t).mono hl)

theorem storeSetting_touches (n v : Nat) (s : State) :
    Touches [.settings, .bus, .arb, .capture, .link] s (storeSetting n v s) := by
  unfold storeSetting
  have h1 : Touches [.settings, .bus, .arb, .capture, .link] s { s with settings := s.settings.put n v } :=
    touches_settings _ _
  dsimp only
  split
  · exact .ite h1 (h1.trans (touches_bus _ _))
  · have h2 := h1.trans (touches_arb (l := [.settings, .bus, .arb, .capture, .link]) _
      { s.arb with intervalSet := true })
    exact .ite h2 (h2.trans (.ite (touches_arb _ _) (.refl _ _)))
  · exact h1.trans ((testHigh_touches _).mono)
  · exact h1

/-- What a SET may change. -/
abbrev setFields : List Field := .settings :: .bus :: settleFields

theorem serveSet_touches (tag n : Byte) (v : Word16) (s : State) : Touches setFields s (serveSet tag n v s) := by
  unfold serveSet
  refine .ite (refuse_or_reply_touches _ _ _ _ _) (.ite (refuse_or_reply_touches _ _ _ _ _) ?_)
  have h := ((storeSetting_touches n.toNat (clampSetting n.toNat v.toNat) s).mono (m := setFields)).replied 0x03 tag
    (setStatus n.toNat v.toNat) (n :: bytes2 (clampSetting n.toNat v.toNat))
  exact .ite h.settled h

/-- What an entry to OFF or RESETTING may change, with the flush and the reply. -/
abbrev offFields : List Field := .choices :: deadFields

theorem serveBusOff_touches (tag : Byte) (s : State) : Touches offFields s (serveBusOff tag s) := by
  unfold serveBusOff
  exact .ite (refuse_or_reply_touches _ _ _ _ _) (.ite (refuse_or_reply_touches _ _ _ _ _)
    ((enterDead_touches _ _ s).then (flushAndReply_touches tag _)))

theorem serveBusReset_touches (tag : Byte) (s : State) : Touches offFields s (serveBusReset tag s) := by
  unfold serveBusReset
  refine .ite (refuse_or_reply_touches _ _ _ _ _) (.ite (refuse_or_reply_touches _ _ _ _ _) ?_)
  exact ((enterDead_touches _ _ s).trans (touches_bus _ _)).then (flushAndReply_touches tag _)

theorem waitFor_touches (n : Fin 8) (c : SlotChange) (tag : Byte) (s : State) :
    Touches [.slots] s (waitFor n c tag s) := touches_slots _ _

/-- What a SLOT request may change. -/
abbrev slotFieldsList : List Field :=
  [.slots, .planner, .arb, .bus, .link, .lineSlots, .channels, .queue, .engine, .timers, .capture]

theorem attachSlot_touches (tag : Byte) (n : Fin 8) (s : State) :
    Touches (.slots :: settleFields) s (attachSlot tag n s) := by
  unfold attachSlot
  split
  · exact refuse_or_reply_touches _ _ _ _ _
  · exact refuse_or_reply_touches _ _ _ _ _
  · exact refuse_or_reply_touches _ _ _ _ _
  · refine .ite ((waitFor_touches _ _ _ _).mono) (Touches.settled ?_)
    exact ((attachNow_touches n s).mono).replied _ _ _ _

theorem serveSlotAttach_touches (tag slot : Byte) (s : State) :
    Touches (.slots :: settleFields) s (serveSlotAttach tag slot s) := by
  unfold serveSlotAttach
  split
  · split
    · exact attachSlot_touches _ _ _
    · exact attachSlot_touches _ _ _
    · exact attachSlot_touches _ _ _
    · exact refuse_or_reply_touches _ _ _ _ _
    · exact refuse_or_reply_touches _ _ _ _ _
    · exact refuse_or_reply_touches _ _ _ _ _
  · exact refuse_or_reply_touches _ _ _ _ _

theorem isolateSlot_touches (tag : Byte) (n : Fin 8) (s : State) :
    Touches slotFieldsList s (isolateSlot tag n s) := by
  unfold isolateSlot
  split
  · exact refuse_or_reply_touches _ _ _ _ _
  · exact Touches.replied (.ite ((answerWaiting_touches n _ s).mono) (.refl _ _)) _ _ _ _
  · exact ((isolateFaulted_touches n s).mono).replied _ _ _ _
  · exact .ite ((waitFor_touches _ _ _ _).mono) (((isolateNow_touches n _ s).mono).replied _ _ _ _).settled

theorem serveSlotIsolate_touches (tag slot : Byte) (s : State) :
    Touches slotFieldsList s (serveSlotIsolate tag slot s) := by
  unfold serveSlotIsolate
  split
  · exact isolateSlot_touches _ _ _
  · exact refuse_or_reply_touches _ _ _ _ _

theorem serveClaimWrite_touches (tag : Byte) (w : ClaimFields) (s : State) :
    Touches [.claims, .link] s (serveClaimWrite tag w s) := by
  unfold serveClaimWrite
  split
  · exact refuse_or_reply_touches _ _ _ _ _
  · exact (touches_claims s _).replied _ _ _ _

theorem serveOps_touches (tag : Byte) (payload : List Byte) (s : State) :
    Touches settleFields s (serveOps tag payload s) := by
  unfold serveOps
  split
  · exact refuse_or_reply_touches _ _ _ _ _
  · exact ((acceptOps_touches _ _ _ s).mono).settled

theorem serveDmaMode_touches (tag channel mode direction owner options : Byte) (s : State) :
    Touches [.channels, .link] s (serveDmaMode tag channel mode direction owner options s) := by
  unfold serveDmaMode
  split
  · split
    · exact .ite (refuse_or_reply_touches _ _ _ _ _) ((touches_channels s _).replied _ _ _ _)
    · exact refuse_or_reply_touches _ _ _ _ _
  · exact refuse_or_reply_touches _ _ _ _ _

theorem serveDmaAddr_touches (tag channel page : Byte) (offset : Word16) (stp : Byte) (s : State) :
    Touches [.channels, .link] s (serveDmaAddr tag channel page offset stp s) := by
  unfold serveDmaAddr
  split
  · split
    · exact .ite (refuse_or_reply_touches _ _ _ _ _) ((touches_channels s _).replied _ _ _ _)
    · exact refuse_or_reply_touches _ _ _ _ _
  · exact refuse_or_reply_touches _ _ _ _ _

theorem serveDmaCount_touches (tag channel : Byte) (count : Word24) (s : State) :
    Touches [.channels, .link] s (serveDmaCount tag channel count s) := by
  unfold serveDmaCount
  split
  · exact .ite (refuse_or_reply_touches _ _ _ _ _)
      (.ite (refuse_or_reply_touches _ _ _ _ _) ((touches_channels s _).replied _ _ _ _))
  · exact refuse_or_reply_touches _ _ _ _ _

theorem serveDmaStart_touches (tag channel : Byte) (s : State) :
    Touches (.channels :: settleFields) s (serveDmaStart tag channel s) := by
  unfold serveDmaStart
  split
  · exact .ite ((touches_channels s _).replied _ _ _ _).settled (refuse_or_reply_touches _ _ _ _ _)
  · exact refuse_or_reply_touches _ _ _ _ _

theorem serveDmaClear_touches (tag channel : Byte) (s : State) :
    Touches (.channels :: settleFields) s (serveDmaClear tag channel s) := by
  unfold serveDmaClear
  split
  · exact .ite (touches_channels s _) (((clearChannel_touches _ s).mono).replied _ _ _ _).settled
  · exact refuse_or_reply_touches _ _ _ _ _

theorem serveDmaPulse_touches (tag channel : Byte) (s : State) :
    Touches (.channels :: settleFields) s (serveDmaPulse tag channel s) := by
  unfold serveDmaPulse
  split
  · exact .ite (refuse_or_reply_touches _ _ _ _ _)
      (.ite (refuse_or_reply_touches _ _ _ _ _) ((touches_channels s _).replied _ _ _ _).settled)
  · exact refuse_or_reply_touches _ _ _ _ _

theorem serveLineConfigure_touches (tag line sense enabled group keep entry : Byte) (s : State) :
    Touches (.lines :: settleFields) s (serveLineConfigure tag line sense enabled group keep entry s) := by
  unfold serveLineConfigure
  split
  · split
    · exact (((configureLine_touches _ _ s).mono).replied _ _ _ _).settled
    · exact refuse_or_reply_touches _ _ _ _ _
  · exact refuse_or_reply_touches _ _ _ _ _

theorem serveClearStuck_touches (tag line bitmap : Byte) (s : State) :
    Touches settleFields s (serveClearStuck tag line bitmap s) := by
  unfold serveClearStuck
  split
  · exact (((forBitmap_touches bitmap (clearStuckAt_touches _) s).mono).replied _ _ _ _).settled
  · exact refuse_or_reply_touches _ _ _ _ _

theorem serveClearPending_touches (tag line bitmap : Byte) (s : State) :
    Touches [.lineSlots, .link] s (serveClearPending tag line bitmap s) := by
  unfold serveClearPending
  split
  · exact ((forBitmap_touches bitmap (clearPendingAt_touches _) s).mono).replied _ _ _ _
  · exact refuse_or_reply_touches _ _ _ _ _

theorem serveServiceWrite_touches (tag entry record count : Byte) (steps : List Byte) (s : State) :
    Touches [.entries, .link] s (serveServiceWrite tag entry record count steps s) := by
  unfold serveServiceWrite
  split
  · refine .ite (refuse_or_reply_touches _ _ _ _ _) ?_
    split
    · exact .ite (refuse_or_reply_touches _ _ _ _ _)
        (.ite (refuse_or_reply_touches _ _ _ _ _) ((touches_entries s _).replied _ _ _ _))
    · exact refuse_or_reply_touches _ _ _ _ _
  · exact refuse_or_reply_touches _ _ _ _ _

theorem serveTimerStart_touches (tag timer : Byte) (period : Word16) (entry keep : Byte) (s : State) :
    Touches settleFields s (serveTimerStart tag timer period entry keep s) := by
  unfold serveTimerStart
  split
  · exact .ite ((touches_timers s _).replied _ _ _ _).settled (refuse_or_reply_touches _ _ _ _ _)
  · exact refuse_or_reply_touches _ _ _ _ _

theorem serveTimerStop_touches (tag timer : Byte) (period : Word16) (entry keep : Byte) (s : State) :
    Touches [.timers, .link] s (serveTimerStop tag timer period entry keep s) := by
  unfold serveTimerStop
  split
  · exact (touches_timers s _).replied _ _ _ _
  · exact refuse_or_reply_touches _ _ _ _ _

theorem serveWatchConfigure_touches (tag unit : Byte) (w : WatchFields) (s : State) :
    Touches [.watch, .link] s (serveWatchConfigure tag unit w s) := by
  unfold serveWatchConfigure
  split
  · split
    · exact .ite ((touches_watch s _).replied _ _ _ _) (refuse_or_reply_touches _ _ _ _ _)
    · exact refuse_or_reply_touches _ _ _ _ _
  · exact refuse_or_reply_touches _ _ _ _ _

theorem serveImgWrite_touches (tag : Byte) (offset : Word24) (count : Word16) (data : List Byte) (s : State) :
    Touches [.image, .link] s (serveImgWrite tag offset count data s) := by
  unfold serveImgWrite
  exact .ite (refuse_or_reply_touches _ _ _ _ _)
    (.ite ((touches_image s _).replied _ _ _ _) (refuse_or_reply_touches _ _ _ _ _))

theorem serveImgFill_touches (tag : Byte) (offset length : Word24) (value : Byte) (s : State) :
    Touches [.image, .link] s (serveImgFill tag offset length value s) := by
  unfold serveImgFill
  exact .ite (.ite (refuse_or_reply_touches _ _ _ _ _) (touches_image s _)) (refuse_or_reply_touches _ _ _ _ _)

/-- What the service of a request may change. -/
def serveFields : Instr → List Field
  | .set _ _ _ => setFields
  | .busRun _ | .busHold _ | .busStop _ => .bus :: settleFields
  | .busOff _ | .busReset _ => offFields
  | .slotAttach _ _ => .slots :: settleFields
  | .slotIsolate _ _ => slotFieldsList
  | .claimWrite _ _ => [.claims, .link]
  | .ops _ _ | .clearStuck _ _ _ | .timerStart _ _ _ _ _ => settleFields
  | .dmaMode _ _ _ _ _ _ | .dmaAddr _ _ _ _ _ | .dmaCount _ _ _ => [.channels, .link]
  | .dmaStart _ _ | .dmaClear _ _ | .dmaPulse _ _ => .channels :: settleFields
  | .lineConfigure _ _ _ _ _ _ _ => .lines :: settleFields
  | .clearPending _ _ _ => [.lineSlots, .link]
  | .serviceWrite _ _ _ _ _ => [.entries, .link]
  | .timerStop _ _ _ _ _ => [.timers, .link]
  | .watchConfigure _ _ _ | .watchArm _ _ | .watchDisarm _ _ => [.watch, .link]
  | .drain _ _ | .drainClear _ _ => [.capture, .link]
  | .imgWrite _ _ _ _ | .imgFill _ _ _ _ => [.image, .link]
  | _ => [.link]

theorem serve_touches (i : Instr) (s : State) : Touches (serveFields i) s (serve i s) := by
  cases i with
  | set tag n v => exact serveSet_touches _ _ _ _
  | busRun tag | busHold tag | busStop tag => exact busMove_touches _ _ _
  | busOff tag => exact serveBusOff_touches _ _
  | busReset tag => exact serveBusReset_touches _ _
  | slotAttach tag n => exact serveSlotAttach_touches _ _ _
  | slotIsolate tag n => exact serveSlotIsolate_touches _ _ _
  | claimWrite tag w => exact serveClaimWrite_touches _ _ _
  | ops tag payload => exact serveOps_touches _ _ _
  | dmaMode tag ch mode dir owner options => exact serveDmaMode_touches _ _ _ _ _ _ _
  | dmaAddr tag ch page offset stp => exact serveDmaAddr_touches _ _ _ _ _ _
  | dmaCount tag ch n => exact serveDmaCount_touches _ _ _ _
  | dmaStart tag ch => exact serveDmaStart_touches _ _ _
  | dmaClear tag ch => exact serveDmaClear_touches _ _ _
  | dmaPulse tag ch => exact serveDmaPulse_touches _ _ _
  | lineConfigure tag l sense enabled group keep entry => exact serveLineConfigure_touches _ _ _ _ _ _ _ _
  | clearStuck tag l bitmap => exact serveClearStuck_touches _ _ _ _
  | clearPending tag l bitmap => exact serveClearPending_touches _ _ _ _
  | serviceWrite tag e record count steps => exact serveServiceWrite_touches _ _ _ _ _ _
  | timerStart tag t period entry keep => exact serveTimerStart_touches _ _ _ _ _ _
  | timerStop tag t period entry keep => exact serveTimerStop_touches _ _ _ _ _ _
  | watchConfigure tag u w => exact serveWatchConfigure_touches _ _ _ _
  | watchArm _ _ | watchDisarm _ _ =>
    simp only [serve, serveFields, serveWatchArm, serveWatchDisarm]
    split
    · exact (touches_watch s _).replied _ _ _ _
    · exact (refuse_touches _ _ _ _).mono
  | drain tag ne => exact drainRecords_touches _ _ _
  | drainClear tag ne => exact drainAndClear_touches _ _ _
  | imgWrite tag offset count data => exact serveImgWrite_touches _ _ _ _ _
  | imgFill tag offset length value => exact serveImgFill_touches _ _ _ _ _
  | slotQuery _ _ | claimRead _ _ | dmaQuery _ _ | lineQuery _ _ | serviceQuery _ _ | timerQuery _ _ | watchQuery _ _ =>
    simp only [serve, serveSlotQuery, serveClaimRead, serveDmaQuery, serveLineQuery, serveServiceQuery, serveTimerQuery,
      serveWatchQuery]
    split
    · exact reply_touches _ _ _ _ _
    · exact refuse_touches _ _ _ _
  | get tag n => exact .ite (reply_touches _ _ _ _ _) (refuse_touches _ _ _ _)
  | imgRead tag offset length => exact .ite (reply_touches _ _ _ _ _) (refuse_touches _ _ _ _)
  | ident tag => exact reply_touches _ _ _ _ _
  | status tag => exact (reply_touches _ _ _ _ _).trans (modLink_touches _ _)
  | unknownRequest kind tag payload => exact reply_touches _ _ _ _ _
  | _ => exact .refl _ _

/-- What any request may change. -/
abbrev servedFields : List Field :=
  [.bus, .slots, .claims, .planner, .arb, .queue, .channels, .lines, .lineSlots, .entries, .engine, .timers, .capture,
    .watch, .image, .link, .settings, .choices]

theorem serveFields_subset (i : Instr) : serveFields i ⊆ servedFields := by
  cases i <;> exact of_decide_eq_true rfl

theorem serve_touches_served (i : Instr) (s : State) : Touches servedFields s (serve i s) :=
  (serve_touches i s).mono (serveFields_subset i)

/-! ## The receiver's dispatch (R184, R187) -/

/-- A request row is executed by taking its frame; the owner then serves the row the frame spells. -/
theorem exec_eq_takeRequest {i : Instr} {frame : Byte × Byte × List Byte} (hi : requestFrame i = some frame)
    (s : State) : ∃ j, exec i s = .next (takeRequest i (serve j) s) ∧ (serveFields i = serveFields j ∨
      ∃ k t p, i = .unknownRequest k t p) := by
  cases i with
  | unknownRequest kind tag payload => exact ⟨requestOf kind tag payload, rfl, .inr ⟨_, _, _, rfl⟩⟩
  | _ =>
    simp only [requestFrame, reduceCtorEq] at hi
    all_goals exact ⟨_, rfl, .inl rfl⟩

theorem frameTaken_touches (kind tag : Byte) (length : Word16) (payload : List Byte) (check : Byte) (s : State) :
    Touches servedFields s (frameTaken kind tag length payload check s) :=
  .ite (((hunt_touches s).mono (m := servedFields)).trans (serve_touches_served _ _)) ((discard_touches s).mono)

theorem takeByte_touches (b : Byte) (s : State) : Touches servedFields s (takeByte b s) := by
  unfold takeByte
  split
  · unfold takeInHunt
    have hrx (f : Receiver → Receiver) : Touches servedFields s (modRx f s) := (modLink_touches _ s).mono
    exact .ite (.ite (hrx _) (.ite (hrx _) (hrx _))) (.ite (hrx _) (hrx _))
  · unfold takeInHeader
    split
    · exact .ite ((discard_touches s).mono) ((modLink_touches _ s).mono)
    · exact (modLink_touches _ s).mono
  · unfold takeInPayload
    split
    · exact .ite ((modLink_touches _ s).mono) (frameTaken_touches _ _ _ _ _ s)
    · exact (hunt_touches s).mono

theorem offerByte_touches (b : Byte) (s : State) : Touches servedFields s (offerByte b s) :=
  .ite ((modLink_touches _ s).mono) (takeByte_touches b s)

theorem resumePipe_touches (s : State) : Touches servedFields s (resumePipe s) :=
  ((modLink_touches _ s).mono (m := servedFields)).trans (touches_foldl _ (fun _ _ => offerByte_touches _ _) _ _)

/-! ## Events -/

theorem disown_touches (s : State) : Touches [.queue, .image, .slots, .channels] s (disown s) := by
  intro f hf; cases f <;> first | rfl | exact absurd (by decide) hf

theorem endFill_touches (s : State) : Touches [.image, .link] s (endFill s) :=
  (touches_image (l := [.image]) s _).then (replyLater_touches _ _ _ _ _)

theorem fillStore_touches (s : State) : Touches [.image, .link] s (fillStore s) := by
  unfold fillStore
  have h : Touches [.image, .link] s { storeImage s.image.fillNext (List.replicate (fillCount s.image) s.image.fillValue) s
      with image := { (storeImage s.image.fillNext (List.replicate (fillCount s.image) s.image.fillValue) s).image with
        fillNext := s.image.fillNext + fillCount s.image } } := touches_image _ _
  exact .ite (h.trans (endFill_touches _)) h

theorem dropUnstartedGrant_endCascade_touches (n : Fin 4) (s : State) :
    Touches [.arb] s (dropUnstartedGrant n (endCascade n s)) :=
  (endCascade_touches n s).trans (dropUnstartedGrant_touches n _)

theorem timerExpires_touches (n : Fin 4) (s : State) : Touches [.timers, .capture] s (timerExpires n s) := by
  unfold timerExpires
  have h : Touches [.timers, .capture] s (modTimer n (fun t => { t with elapsed := 0, pending := true }) s) :=
    touches_timers _ _
  exact .ite (h.trans ((raiseCoalesced_touches _ _).mono)) h

theorem execLineAssert_touches (l : Fin 12) (n : Fin 8) (s : State) :
    ∃ t, execLineAssert l n s = .next t ∧ Touches (.cards :: settleFields) s t := by
  refine ⟨_, rfl, .ite (.refl _ _) ?_⟩
  have h1 : Touches (.cards :: settleFields) s (driveLine l n true s) := touches_cards _ _
  have h2 : Touches (.cards :: settleFields) s (setReference l n true (driveLine l n true s)) :=
    h1.trans (touches_lineSlots _ _)
  exact .ite (Touches.settled (.ite (h2.trans ((risingEdge_touches _ _ _).mono))
    (h2.trans ((evaluate_touches _ _ _).mono)))) h1

theorem execChannelRequestAssert_touches (n : Fin 4) (slot : Fin 8) (s : State) :
    ∃ t, execChannelRequestAssert n slot s = .next t ∧ Touches (.cards :: .channels :: settleFields) s t := by
  refine ⟨_, rfl, .ite (.refl _ _) ?_⟩
  have h1 : Touches (.cards :: .channels :: settleFields) s (driveRequest n slot true s) := touches_cards _ _
  refine .ite (.ite (h1.trans ?_).settled (h1.trans (touches_channels _ _))) h1
  exact .ite (touches_channels _ _) (.refl _ _)

theorem execSupplyLost_touches (s : State) : ∃ t, execSupplyLost s = .next t ∧ Touches deadFields s t := by
  refine ⟨_, rfl, .ite ?_ (.refl _ _)⟩
  have h1 : Touches deadFields s (noticeSupply 0 (modBus (fun b => { b with supply := .lost, supplyMicros := 0 }) s)) :=
    Touches.trans (touches_bus _ _) ((notice_touches _ _ _).mono)
  exact .ite h1 ((h1.trans (enterDead_touches _ _ _)).trans ((flushQueue_touches _).mono))

/-- What a command may change. -/
def execFields : Instr → List Field
  | .partReset _ _ _ => .timeBase :: .cards :: servedFields
  | .unknownRequest _ _ _ | .frameDiscarded _ _ _ _ _ | .inPipeRead | .byteTaken _ => servedFields
  | .linkReady | .receiverSilenceTimeout => [.link]
  | .linkLoss => [.link, .queue, .image, .slots, .channels]
  | .fillStore => [.image, .link]
  | .presenceArrival _ => [.slots, .link]
  | .presenceLoss _ => .cards :: slotFieldsList
  | .csupgoodLow | .csupgoodHigh => [.bus]
  | .supplyLost => deadFields
  | .supplyRestored => [.bus, .link]
  | .pulseEnd => .bus :: settleFields
  | .cycleStart _ => startFields
  | .cycleWaitEnd _ _ | .readyTimeout _ => strobeFields
  | .cycleEnd | .refreshCycleEnd => boundaryFields
  | .delayExpiry | .pauseExpiry | .waitDmaTimeout | .timerExpiry _ | .refreshIntervalExpiry => settleFields
  | .holdTimerExpiry => expiryFields
  | .channelRequestAssert _ _ => .cards :: .channels :: settleFields
  | .channelRequestDeassert _ _ => .cards :: settleFields
  | .masterStrobeAssert _ _ _ => [.planner]
  | .masterStrobeRelease _ _ => masterFields
  | .lineAssert _ _ => .cards :: settleFields
  | .lineDeassert _ _ => [.cards, .lineSlots]
  | i => serveFields i

/-- A request row answers a next state and touches what the service of a request may. -/
theorem exec_request_touches {i : Instr} {frame : Byte × Byte × List Byte} (hi : requestFrame i = some frame)
    (hfields : execFields i = serveFields i ∨ execFields i = servedFields) (hl : Field.link ∈ execFields i) (s : State) :
    ∃ t, exec i s = .next t ∧ Touches (execFields i) s t := by
  obtain ⟨j, hexec, hj⟩ := exec_eq_takeRequest hi s
  have hlink : [Field.link] ⊆ execFields i := List.cons_subset.mpr ⟨hl, List.nil_subset _⟩
  refine ⟨_, hexec, takeRequest_touches i (fun s => ?_) s hlink⟩
  obtain hfields | hfields := hfields
  · obtain hj | ⟨k, t, p, rfl⟩ := hj
    · rw [hfields, hj]
      exact serve_touches j s
    · cases hfields
  · rw [hfields]
    exact serve_touches_served j s

/-- Every command answers a next state, and changes only what `execFields` names. -/
theorem exec_touches (i : Instr) (s : State) : ∃ t, exec i s = .next t ∧ Touches (execFields i) s t := by
  cases i with
  | partReset present straps good =>
    refine ⟨_, rfl, fun f hf => ?_⟩
    cases f <;> first | rfl | exact absurd (of_decide_eq_true rfl) hf
  | linkReady => exact ⟨_, rfl, .ite (.refl _ _) (modLink_touches _ _)⟩
  | linkLoss => exact ⟨_, rfl, (modLink_touches _ s).then (disown_touches _)⟩
  | frameDiscarded kind tag length payload check =>
    exact ⟨_, rfl, (.ite (.refl _ _) (.ite ((modLink_touches _ _).mono) (frameTaken_touches _ _ _ _ _ _)) :
      Touches servedFields s _)⟩
  | receiverSilenceTimeout => exact ⟨_, rfl, .ite (discard_touches _) (.refl _ _)⟩
  | inPipeRead =>
    refine ⟨_, rfl, .ite ?_ (.refl _ _)⟩
    split
    · exact .refl _ _
    · exact ((modLink_touches _ s).mono (m := servedFields)).trans (resumePipe_touches _)
  | byteTaken b => exact ⟨_, rfl, .ite (offerByte_touches _ _) (.refl _ _)⟩
  | fillStore => exact ⟨_, rfl, .ite (fillStore_touches _) (.refl _ _)⟩
  | presenceArrival n =>
    exact ⟨_, rfl, (.ite ((touches_slots (l := [.slots]) s _).then (noticeSlotChange_touches _ _ _ _ _)) (.refl _ _) :
      Touches [.slots, .link] s _)⟩
  | presenceLoss n =>
    exact ⟨_, rfl, (.ite (.refl _ _) (Touches.settled ((touches_cards s _).trans ((emptySlot_touches n _).mono))) :
      Touches (.cards :: slotFieldsList) s _)⟩
  | csupgoodLow | csupgoodHigh =>
    refine ⟨_, rfl, ?_⟩
    split
    · exact touches_bus _ _
    · exact touches_bus _ _
    · exact .refl _ _
    · exact .refl _ _
  | supplyLost => exact execSupplyLost_touches s
  | supplyRestored => exact ⟨_, rfl, .ite ((touches_bus (l := [.bus]) s _).then (notice_touches _ _ _)) (.refl _ _)⟩
  | pulseEnd => exact ⟨_, rfl, .ite ((endPulse_touches s).mono).settled (.refl _ _)⟩
  | cycleStart w => exact ⟨_, rfl, startCycle_touches _ _⟩
  | cycleWaitEnd w lines => exact ⟨_, rfl, endWait_touches _ _ _⟩
  | readyTimeout lines => exact ⟨_, rfl, timeOut_touches _ _⟩
  | cycleEnd => exact ⟨_, rfl, endCycle_touches _⟩
  | refreshCycleEnd => exact ⟨_, rfl, endRefresh_touches _⟩
  | delayExpiry =>
    exact ⟨_, rfl, .ite (Touches.settled ((touches_engine s _).trans ((stepBoundary_touches _).mono))) (.refl _ _)⟩
  | pauseExpiry => exact ⟨_, rfl, .ite ((endOp_touches _ s).mono).settled (.refl _ _)⟩
  | waitDmaTimeout => exact ⟨_, rfl, .ite (touches_queue _ _) (.ite ((endOp_touches _ s).mono).settled (.refl _ _))⟩
  | timerExpiry n =>
    exact ⟨_, rfl, (.ite ((timerExpires_touches n s).mono).settled (.refl _ _) : Touches settleFields s _)⟩
  | refreshIntervalExpiry => exact ⟨_, rfl, .ite ((refreshDue_touches s).mono).settled (.refl _ _)⟩
  | holdTimerExpiry => exact ⟨_, rfl, holdExpired_touches _⟩
  | channelRequestAssert n slot => exact execChannelRequestAssert_touches n slot s
  | channelRequestDeassert n slot =>
    refine ⟨_, rfl, .ite ?_ (.refl _ _)⟩
    have h1 : Touches (.cards :: settleFields) s (driveRequest n slot false s) := touches_cards _ _
    exact .ite (h1.trans ((dropUnstartedGrant_endCascade_touches n _).mono)).settled h1
  | masterStrobeAssert sp a w => exact ⟨_, rfl, assertStrobe_touches _ _ _ _⟩
  | masterStrobeRelease k b => exact ⟨_, rfl, releaseStrobe_touches _ _ _⟩
  | lineAssert l n => exact execLineAssert_touches l n s
  | lineDeassert l n =>
    have h1 : Touches [.cards, .lineSlots] s (driveLine l n false s) := touches_cards _ _
    exact ⟨_, rfl, .ite (h1.trans (touches_lineSlots _ _)) h1⟩
  | unknownRequest kind tag payload => exact exec_request_touches rfl (.inr rfl) (of_decide_eq_true rfl) s
  | _ => exact exec_request_touches rfl (.inl rfl) (of_decide_eq_true rfl) s

/-- No command reads or writes the commands that wait; part reset alone writes the time base (R144, R194). -/
theorem pending_notMem_execFields (i : Instr) : Field.pending ∉ execFields i := by
  cases i <;> exact of_decide_eq_true rfl

theorem timeBase_notMem_execFields {i : Instr} (h : ∀ p w g, i ≠ .partReset p w g) : Field.timeBase ∉ execFields i := by
  cases i with
  | partReset p w g => exact absurd rfl (h p w g)
  | _ => exact of_decide_eq_true rfl

/-- Settles O1: a step is its definition on a queue with a front. -/
theorem stepRunsFrontCommand : Obligations.StepRunsFrontCommand := fun _ _ _ => rfl

/-- Settles O3, from the frame of each command. -/
theorem everyCommandAnswersNext : Obligations.EveryCommandAnswersNext := by
  unfold Obligations.EveryCommandAnswersNext
  intro c s
  obtain ⟨t, hexec, ht⟩ := exec_touches c s
  exact ⟨t, hexec, ht .pending (pending_notMem_execFields c), fun h => ht .timeBase (timeBase_notMem_execFields h)⟩

end Sys2Proof.Machine
end

section
/-! PROOFS. The rules of the link and of the operation queue that the larger changes are told by: frames handed over in a
row, replies that waited, and states that agree on what the telling reads and writes. -/

namespace Sys2Proof.Machine

set_option Elab.async false

/-! ## Frames handed to the link (R182, R189) -/

/-- A change of the link alone, as a record. -/
theorem Touches.eq_link {s t : State} (h : Touches [.link] s t) : t = { s with link := t.link } := by
  have same (f : Field) (hf : f ∉ [Field.link]) : f.same s t := h f hf
  cases s
  cases t
  simp only [State.mk.injEq, true_and]
  exact ⟨same .pending (by decide), same .bus (by decide), same .slots (by decide), same .cards (by decide),
    same .claims (by decide), same .planner (by decide), same .arb (by decide), same .queue (by decide),
    same .channels (by decide), same .lines (by decide), same .lineSlots (by decide), same .entries (by decide),
    same .engine (by decide), same .timers (by decide), same .timeBase (by decide), same .capture (by decide),
    same .watch (by decide), same .image (by decide), same .settings (by decide), same .choices (by decide)⟩

theorem send_eq_sendAll (f : Frame) (s : State) : send f s = sendAll [f] s := rfl

@[simp] theorem sendAll_nil (s : State) : sendAll [] s = s := by
  unfold sendAll
  split
  · rw [List.append_nil]
  · rfl

/-- Handing frames over keeps the link's readiness. -/
@[simp] theorem sendAll_ready (fs : List Frame) (s : State) : (sendAll fs s).link.ready = s.link.ready := by
  unfold sendAll
  split <;> rfl

theorem sendAll_append (fs gs : List Frame) (s : State) : sendAll (fs ++ gs) s = sendAll gs (sendAll fs s) := by
  cases h : s.link.ready <;> simp [sendAll, h]

theorem sendAll_touches (fs : List Frame) (s : State) : Touches [.link] s (sendAll fs s) :=
  .ite (touches_link _ _) (.refl _ _)

/-- Handing frames over to a ready link. -/
theorem sendAll_of_ready {s : State} (h : s.link.ready = true) (fs : List Frame) :
    sendAll fs s = { s with link := { s.link with tx := s.link.tx ++ fs } } := if_pos h

/-- A reply is one frame handed over. -/
theorem reply_eq_sendAll (kind tag : Byte) (status : Status) (fields : List Byte) (s : State) :
    reply kind tag status fields s =
      sendAll [{ kind := kind + 0x80, tag := tag, payload := status.code :: fields }] s := rfl

/-- A reply on a ready link joins the transmit list. -/
theorem reply_of_ready {s : State} (h : s.link.ready = true) (kind tag : Byte) (status : Status) (fields : List Byte) :
    reply kind tag status fields s = withReply (kind + 0x80) tag (status.code :: fields) s := if_pos h

/-- Replies that waited, in the order they were taken, each with fields that handing frames over leaves alone. -/
theorem foldl_replyLater (kind : Byte) (status : Status) (fields : State → List Byte)
    (hfields : ∀ fs s, fields (sendAll fs s) = fields s) : ∀ (ws : List Waiting) (s : State),
    ws.foldl (fun t w => replyLater kind w status (fields t) t) s =
      sendAll (answers (kind + 0x80) (status.code :: fields s) ws) s
  | [], s => (sendAll_nil s).symm
  | w :: ws, s => by
    rw [List.foldl_cons]
    cases hw : w.wanted with
    | true =>
      have hhead : replyLater kind w status (fields s) s =
          sendAll [{ kind := kind + 0x80, tag := w.tag, payload := status.code :: fields s }] s := by
        rw [replyLater, if_pos hw, reply_eq_sendAll]
      rw [hhead, foldl_replyLater kind status fields hfields, hfields, ← sendAll_append]
      simp [answers, hw]
    | false =>
      have hhead : replyLater kind w status (fields s) s = s := by
        rw [replyLater, if_neg (by simp [hw])]
      rw [hhead, foldl_replyLater kind status fields hfields]
      simp [answers, hw]

/-! ## Notices -/

/-- A notice keeps the link's readiness. -/
@[simp] theorem notice_ready (kind : Nat) (fields : List Byte) (s : State) :
    (notice kind fields s).link.ready = s.link.ready := by
  unfold notice
  split
  · split
    · rw [send_eq_sendAll, sendAll_ready]
    · rfl
  · rfl

/-- What a notice does to the link depends on the link, the settings and the time base (R189, R190). -/
theorem notice_link_congr (kind : Nat) (fields : List Byte) {s t : State} (hlink : s.link = t.link)
    (hsettings : s.settings = t.settings) (htime : s.timeBase = t.timeBase) :
    (notice kind fields s).link = (notice kind fields t).link := by
  simp only [notice, send, apply_ite State.link, hlink, hsettings, htime]

section notice

variable (kind : Nat) (fields : List Byte) (s : State)

@[simp] theorem notice_bus : (notice kind fields s).bus = s.bus := notice_touches kind fields s .bus (by decide)
@[simp] theorem notice_slots : (notice kind fields s).slots = s.slots := notice_touches kind fields s .slots (by decide)
@[simp] theorem notice_cards : (notice kind fields s).cards = s.cards := notice_touches kind fields s .cards (by decide)
@[simp] theorem notice_planner : (notice kind fields s).planner = s.planner :=
  notice_touches kind fields s .planner (by decide)
@[simp] theorem notice_arb : (notice kind fields s).arb = s.arb := notice_touches kind fields s .arb (by decide)
@[simp] theorem notice_queue : (notice kind fields s).queue = s.queue := notice_touches kind fields s .queue (by decide)
@[simp] theorem notice_channels : (notice kind fields s).channels = s.channels :=
  notice_touches kind fields s .channels (by decide)
@[simp] theorem notice_lines : (notice kind fields s).lines = s.lines := notice_touches kind fields s .lines (by decide)
@[simp] theorem notice_lineSlots : (notice kind fields s).lineSlots = s.lineSlots :=
  notice_touches kind fields s .lineSlots (by decide)
@[simp] theorem notice_engine : (notice kind fields s).engine = s.engine :=
  notice_touches kind fields s .engine (by decide)
@[simp] theorem notice_timers : (notice kind fields s).timers = s.timers :=
  notice_touches kind fields s .timers (by decide)
@[simp] theorem notice_timeBase : (notice kind fields s).timeBase = s.timeBase :=
  notice_touches kind fields s .timeBase (by decide)
@[simp] theorem notice_capture : (notice kind fields s).capture = s.capture :=
  notice_touches kind fields s .capture (by decide)
@[simp] theorem notice_settings : (notice kind fields s).settings = s.settings :=
  notice_touches kind fields s .settings (by decide)

end notice

section sendAll

variable (fs : List Frame) (s : State)

@[simp] theorem sendAll_bus : (sendAll fs s).bus = s.bus := sendAll_touches fs s .bus (by decide)
@[simp] theorem sendAll_slots : (sendAll fs s).slots = s.slots := sendAll_touches fs s .slots (by decide)
@[simp] theorem sendAll_cards : (sendAll fs s).cards = s.cards := sendAll_touches fs s .cards (by decide)
@[simp] theorem sendAll_planner : (sendAll fs s).planner = s.planner := sendAll_touches fs s .planner (by decide)
@[simp] theorem sendAll_arb : (sendAll fs s).arb = s.arb := sendAll_touches fs s .arb (by decide)
@[simp] theorem sendAll_queue : (sendAll fs s).queue = s.queue := sendAll_touches fs s .queue (by decide)
@[simp] theorem sendAll_channels : (sendAll fs s).channels = s.channels := sendAll_touches fs s .channels (by decide)
@[simp] theorem sendAll_lines : (sendAll fs s).lines = s.lines := sendAll_touches fs s .lines (by decide)
@[simp] theorem sendAll_lineSlots : (sendAll fs s).lineSlots = s.lineSlots :=
  sendAll_touches fs s .lineSlots (by decide)
@[simp] theorem sendAll_engine : (sendAll fs s).engine = s.engine := sendAll_touches fs s .engine (by decide)
@[simp] theorem sendAll_timers : (sendAll fs s).timers = s.timers := sendAll_touches fs s .timers (by decide)
@[simp] theorem sendAll_timeBase : (sendAll fs s).timeBase = s.timeBase := sendAll_touches fs s .timeBase (by decide)
@[simp] theorem sendAll_settings : (sendAll fs s).settings = s.settings := sendAll_touches fs s .settings (by decide)

end sendAll

/-! ## States that agree on what the telling reads and writes -/

/-- Two states that agree on the link, on the blocks a departure or a boundary tells (R35, R76), and on what a notice is
made from. -/
structure Alike (s t : State) : Prop where
  link : s.link = t.link
  queue : s.queue = t.queue
  arb : s.arb = t.arb
  planner : s.planner = t.planner
  bus : s.bus = t.bus
  settings : s.settings = t.settings
  timeBase : s.timeBase = t.timeBase

namespace Alike

variable {s t u s' t' : State}

theorem refl (s : State) : Alike s s := ⟨rfl, rfl, rfl, rfl, rfl, rfl, rfl⟩

theorem symm (h : Alike s t) : Alike t s :=
  ⟨h.link.symm, h.queue.symm, h.arb.symm, h.planner.symm, h.bus.symm, h.settings.symm, h.timeBase.symm⟩

theorem trans (h : Alike s t) (k : Alike t u) : Alike s u :=
  ⟨h.link.trans k.link, h.queue.trans k.queue, h.arb.trans k.arb, h.planner.trans k.planner, h.bus.trans k.bus,
    h.settings.trans k.settings, h.timeBase.trans k.timeBase⟩

/-- The fields `Alike` does not look at. -/
abbrev blind : List Field :=
  [.pending, .slots, .cards, .claims, .channels, .lines, .lineSlots, .entries, .engine, .timers, .capture, .watch,
    .image, .choices]

/-- A change of other fields. -/
theorem of_touches {l : List Field} (h : Touches l s t) (hl : l ⊆ blind := by decide) : Alike t s :=
  have same (f : Field) (hf : f ∉ blind) : f.same s t := h f fun m => hf (hl m)
  ⟨same .link (by decide), same .queue (by decide), same .arb (by decide), same .planner (by decide),
    same .bus (by decide), same .settings (by decide), same .timeBase (by decide)⟩

/-- Two changes of the queue and the link that come to the same. -/
theorem of_queue_link (h : Alike s t) (hs : Touches [.queue, .link] s s') (ht : Touches [.queue, .link] t t')
    (hqueue : s'.queue = t'.queue) (hlink : s'.link = t'.link) : Alike s' t' where
  link := hlink
  queue := hqueue
  arb := ((hs .arb (by decide) : s'.arb = s.arb).trans h.arb).trans (ht .arb (by decide) : t'.arb = t.arb).symm
  planner := ((hs .planner (by decide) : s'.planner = s.planner).trans h.planner).trans
    (ht .planner (by decide) : t'.planner = t.planner).symm
  bus := ((hs .bus (by decide) : s'.bus = s.bus).trans h.bus).trans (ht .bus (by decide) : t'.bus = t.bus).symm
  settings := ((hs .settings (by decide) : s'.settings = s.settings).trans h.settings).trans
    (ht .settings (by decide) : t'.settings = t.settings).symm
  timeBase := ((hs .timeBase (by decide) : s'.timeBase = s.timeBase).trans h.timeBase).trans
    (ht .timeBase (by decide) : t'.timeBase = t.timeBase).symm

theorem sendAll (h : Alike s t) (fs : List Frame) : Alike (sendAll fs s) (sendAll fs t) := by
  have hlink : (Machine.sendAll fs s).link = (Machine.sendAll fs t).link := by
    simp only [Machine.sendAll, apply_ite State.link, h.link]
  exact h.of_queue_link ((sendAll_touches fs s).mono) ((sendAll_touches fs t).mono) (by simp [h.queue]) hlink

theorem reply (h : Alike s t) (kind tag : Byte) (status : Status) (fields : List Byte) :
    Alike (reply kind tag status fields s) (reply kind tag status fields t) := h.sendAll _

theorem notice (h : Alike s t) (kind : Nat) (fields : List Byte) :
    Alike (notice kind fields s) (notice kind fields t) := by
  have hlink := notice_link_congr kind fields h.link h.settings h.timeBase
  exact h.of_queue_link ((notice_touches kind fields s).mono) ((notice_touches kind fields t).mono) (by simp [h.queue])
    hlink

theorem modQueue (h : Alike s t) (f : OpQueue → OpQueue) : Alike (modQueue f s) (modQueue f t) :=
  { h with queue := congrArg f h.queue }

theorem modArb (h : Alike s t) (f : Arbiter → Arbiter) : Alike (modArb f s) (modArb f t) :=
  { h with arb := congrArg f h.arb }

theorem modPlanner (h : Alike s t) (f : Planner → Planner) : Alike (modPlanner f s) (modPlanner f t) :=
  { h with planner := congrArg f h.planner }

theorem modBus (h : Alike s t) (f : Bus → Bus) : Alike (modBus f s) (modBus f t) := { h with bus := congrArg f h.bus }

theorem ite {c d : Prop} [Decidable c] [Decidable d] (hcd : c ↔ d) {s' t' : State} (h : Alike s t) (h' : Alike s' t') :
    Alike (if c then s else s') (if d then t else t') := by
  by_cases hc : c
  · rw [if_pos hc, if_pos (hcd.mp hc)]
    exact h
  · rw [if_neg hc, if_neg fun hd => hc (hcd.mpr hd)]
    exact h'

theorem foldl {α : Type} {g g' : State → α → State} (hg : ∀ s t a, Alike s t → Alike (g s a) (g' t a)) :
    ∀ (as : List α) {s t : State}, Alike s t → Alike (as.foldl g s) (as.foldl g' t)
  | [], _, _, h => h
  | a :: as, _, _, h => foldl hg as (hg _ _ a h)

theorem buildReply (h : Alike s t) (f : OpenFrame) : Alike (buildReply s f) (buildReply t f) :=
  ite Iff.rfl (h.reply _ _ _ _) h

theorem closeFrames (h : Alike s t) : Alike (closeFrames s) (closeFrames t) := by
  unfold Machine.closeFrames
  rw [h.queue]
  exact foldl (fun _ _ f h => h.buildReply f) _ (h.modQueue _)

theorem endOp (h : Alike s t) (status : OpStatus) : Alike (endOp status s) (endOp status t) := by
  unfold Machine.endOp
  rw [h.queue]
  cases t.queue.ops with
  | nil => exact h
  | cons op rest => exact closeFrames { h with queue := rfl }

theorem tellQueue (h : Alike s t) (n : Fin 4) : Alike (tellQueue n s) (tellQueue n t) := by
  unfold Machine.tellQueue
  rw [h.queue]
  split
  · split
    · exact ite Iff.rfl ((h.modQueue _).endOp _) h
    · exact h
    · exact h
    · exact h
  · exact h

end Alike

end Sys2Proof.Machine
end

section
/-! PROOFS. The DMA unit's rules: what a channel that leaves RUNNING leaves behind, in its context, in the arbiter, in the
queue and on the link (R56, R59, R76, R83, R89, R102, R103). -/

namespace Sys2Proof.Machine

set_option Elab.async false

/-! ## The arbiter as a channel leaves RUNNING (R52, R56, R59) -/

theorem heldBy_isSome_iff (a : Arbiter) : (heldBy a).isSome = true ↔ ∃ n, a.hold = .demand n ∨ a.hold = .block n := by
  unfold heldBy
  cases a.hold <;> simp

/-- The claim withdrawn: a hold, and a grant whose SETUP has not begun. -/
theorem releaseHold_eq (n : Fin 4) (s : State) :
    releaseHold n s = { s with arb := { s.arb with
      owner := if s.arb.owner = .channel n ∧ s.planner.cycle.isSome = false then .none else s.arb.owner
      hold := if heldBy s.arb = some n ∧ s.planner.cycle.isSome = false then .none else s.arb.hold
      holdEnding := if heldBy s.arb = some n then s.planner.cycle.isSome else s.arb.holdEnding
      burst := if heldBy s.arb = some n ∧ s.planner.cycle.isSome = false then 0 else s.arb.burst } } := by
  unfold releaseHold cycleRunning modArb
  cases s.planner.cycle.isSome <;> by_cases hheld : heldBy s.arb = some n <;>
    by_cases howner : s.arb.owner = .channel n <;> simp [hheld, howner]
  rw [← howner]

/-- The cascade grant and the hold timer withdrawn. -/
theorem endCascade_eq (n : Fin 4) (s : State) :
    endCascade n s = { s with arb := { s.arb with
      owner := if s.arb.grant = some n ∧ s.planner.master.isSome = false then .none else s.arb.owner
      hold := if s.arb.grant = some n ∧ s.planner.master.isSome = false then .none else s.arb.hold
      grant := if s.arb.grant = some n then none else s.arb.grant
      timerChannel := if s.arb.timerChannel = some n then none else s.arb.timerChannel
      timerElapsed := if s.arb.timerChannel = some n then 0 else s.arb.timerElapsed } } := by
  unfold endCascade stopHoldTimer modArb
  cases s.planner.master.isSome <;> by_cases hgrant : s.arb.grant = some n <;>
    by_cases htimer : s.arb.timerChannel = some n <;> simp [hgrant, htimer]

/-- Both together are the statements' `letGo`. -/
theorem endCascade_releaseHold (n : Fin 4) (s : State) :
    endCascade n (releaseHold n s) = { s with arb := letGo n s } := by
  rw [endCascade_eq, releaseHold_eq]
  have hheld : decide (s.arb.hold = .demand n ∨ s.arb.hold = .block n) = decide (heldBy s.arb = some n) := by
    simp only [heldBy_eq_some_iff]
  simp only [letGo, letsGo, hheld]
  congr 2
  · cases s.planner.cycle.isSome <;> cases s.planner.master.isSome <;> by_cases hgrant : s.arb.grant = some n <;>
      by_cases howner : s.arb.owner = .channel n <;> simp [hgrant, howner]
  · cases s.planner.cycle.isSome <;> cases s.planner.master.isSome <;> by_cases hgrant : s.arb.grant = some n <;>
      by_cases hh : heldBy s.arb = some n <;> simp [hgrant, hh]
  · simp
  · simp
  · simp

/-- A channel that has let go has nothing more to let go. -/
theorem letsGo_letsGo (c : Fin 4) (runs strobe : Bool) (a : Arbiter) :
    letsGo c runs strobe (letsGo c runs strobe a) = letsGo c runs strobe a := by
  simp only [letsGo]
  congr 1
  case e_owner =>
    by_cases hgrant : a.grant = some c <;> by_cases howner : a.owner = .channel c <;> cases runs <;> cases strobe <;>
      simp [hgrant, howner]
  case e_grant => by_cases hgrant : a.grant = some c <;> simp [hgrant]
  case e_timerChannel => by_cases htimer : a.timerChannel = some c <;> simp [htimer]
  case e_timerElapsed => by_cases htimer : a.timerChannel = some c <;> simp [htimer]
  all_goals
    by_cases hgrant : a.grant = some c <;> by_cases hhold : a.hold = .demand c ∨ a.hold = .block c <;> cases runs <;>
      cases strobe <;> simp [hgrant, hhold]

/-! ## Leaving RUNNING (R83) -/

/-- A channel that leaves RUNNING, as a record. -/
theorem leaveRunning_eq (n : Fin 4) (next : DmaState) (s : State) :
    leaveRunning n next s = { s with channels := upd s.channels n fun c => c.left next, arb := letGo n s } :=
  endCascade_releaseHold n (modChannel n (fun c => c.left next) s)

/-- Two changes of one member. -/
theorem upd_upd {α : Type} {n : Nat} (v : Vector α n) (i : Fin n) (f g : α → α) :
    upd (upd v i f) i g = upd v i fun x => g (f x) := by
  simp only [upd, Fin.getElem_fin, Vector.getElem_set_self, Vector.set_set]

theorem upd_congr {α : Type} {n : Nat} {v : Vector α n} {i : Fin n} {f g : α → α} (h : f v[i] = g v[i]) :
    upd v i f = upd v i g := by
  simp only [upd, h]

/-- A change that leaves its member as it is. -/
theorem upd_of_eq {α : Type} {n : Nat} {v : Vector α n} {i : Fin n} {f : α → α} (h : f v[i] = v[i]) :
    upd v i f = v := by
  rw [upd, h]
  exact Vector.set_getElem_self i.isLt

/-- The fields of a DMA_FAULT notice (R103). -/
def faultFields (n : Fin 4) (cause : DmaCause) (c : Channel) : List Byte :=
  [natByte n.val, cause.code, natByte c.owner.val, natByte c.page.val] ++ bytes2 c.offset.toNat ++ bytes2 c.count.toNat

/-- A fault of a RUNNING channel (R103): its context stopped, its hold and grant let go, the notice sent and the queue
told. -/
theorem faultChannel_of_running {n : Fin 4} {s : State} (h : s.channels[n].state = .running) (cause : DmaCause) :
    faultChannel n cause s = tellQueue n (notice 2 (faultFields n cause s.channels[n])
      { s with channels := upd s.channels n fun c => stopped c .faulted cause, arb := letGo n s }) := by
  rw [faultChannel, if_pos h, leaveRunning_eq, noticeDmaFault]
  simp only [modChannel, upd_upd, upd_self]
  rfl

theorem faultChannel_of_not_running {n : Fin 4} {s : State} (h : s.channels[n].state ≠ .running) (cause : DmaCause) :
    faultChannel n cause s = s := if_neg h

/-- CLEAR's effect on the context: Done off, the channel IDLE (R89). -/
def cleared (c : Channel) : Channel := { stopped c .idle c.cause with finished := false }

/-- The effect of CLEAR (R89). -/
theorem clearChannel_eq (n : Fin 4) (s : State) :
    clearChannel n s =
      if s.channels[n].state = .running then
        tellQueue n { s with channels := upd s.channels n cleared, arb := letGo n s }
      else { s with channels := upd s.channels n cleared, arb := letGo n s } := by
  rw [clearChannel, leaveRunning_eq]
  simp only [modChannel, upd_upd]
  rfl

/-- The waiting CLEARs answered (R89). -/
theorem answerClears_eq (n : Fin 4) (s : State) :
    answerClears n s = sendAll (answers 0x8C [0, s.channels[n].state.code] s.channels[n].waiting)
      { s with channels := upd s.channels n fun c => { c with waiting := [] } } := by
  have hcode : (upd s.channels n fun c => { c with waiting := [] })[n].state.code = s.channels[n].state.code := by
    rw [upd_self]
  rw [← hcode]
  exact foldl_replyLater 0x0C .ok (fun t => [t.channels[n].state.code]) (fun fs t => by rw [sendAll_channels]) _ _

section tellQueue

variable (n : Fin 4) (s : State)

@[simp] theorem tellQueue_channels : (tellQueue n s).channels = s.channels :=
  tellQueue_touches n s .channels (by decide)
@[simp] theorem tellQueue_slots : (tellQueue n s).slots = s.slots := tellQueue_touches n s .slots (by decide)
@[simp] theorem tellQueue_arb : (tellQueue n s).arb = s.arb := tellQueue_touches n s .arb (by decide)
@[simp] theorem tellQueue_planner : (tellQueue n s).planner = s.planner := tellQueue_touches n s .planner (by decide)
@[simp] theorem tellQueue_bus : (tellQueue n s).bus = s.bus := tellQueue_touches n s .bus (by decide)
@[simp] theorem tellQueue_lineSlots : (tellQueue n s).lineSlots = s.lineSlots :=
  tellQueue_touches n s .lineSlots (by decide)
@[simp] theorem tellQueue_settings : (tellQueue n s).settings = s.settings :=
  tellQueue_touches n s .settings (by decide)
@[simp] theorem tellQueue_timeBase : (tellQueue n s).timeBase = s.timeBase :=
  tellQueue_touches n s .timeBase (by decide)

end tellQueue

/-! ## The loss of an owner slot (R102) -/

/-- A transfer of the channel is under way: its access, or one of its cycles (R89). -/
theorem transferring_iff (s : State) (n : Fin 4) :
    transferring s n = true ↔
      s.channels[n].access ≠ none ∨ ∃ x, s.planner.cycle = some x ∧ x.initiator = .channel n := by
  rw [transferring, Bool.or_eq_true, cycle_any_initiator_iff, Option.isSome_iff_ne_none]

theorem finishClears_of_none {n : Fin 4} {s : State} (h : s.channels[n].waiting = []) : finishClears n s = s := by
  rw [finishClears, if_pos (by rw [h, List.isEmpty_nil])]

/-- CLEARs that waited on a channel a fault or an end has stopped: it goes to IDLE and they are answered (R89). -/
theorem finishClears_of_stopped {n : Fin 4} {s : State} (hw : s.channels[n].waiting ≠ [])
    (hs : s.channels[n].state ≠ .running) :
    finishClears n s = sendAll (answers 0x8C [0, 0] s.channels[n].waiting)
      { s with channels := upd s.channels n fun c => { cleared c with waiting := [] }, arb := letGo n s } := by
  rw [finishClears, if_neg (by simpa using hw), clearChannel_eq, if_neg hs, answerClears_eq]
  simp only [upd_upd, upd_self]
  rfl

/-- CLEARs that waited on a RUNNING channel: the queue is told too (R76, R89). -/
theorem finishClears_of_running {n : Fin 4} {s : State} (hw : s.channels[n].waiting ≠ [])
    (hs : s.channels[n].state = .running) :
    finishClears n s = sendAll (answers 0x8C [0, 0] s.channels[n].waiting)
      { tellQueue n { s with channels := upd s.channels n cleared, arb := letGo n s } with
        channels := upd s.channels n fun c => { cleared c with waiting := [] } } := by
  rw [finishClears, if_neg (by simpa using hw), clearChannel_eq, if_pos hs, answerClears_eq]
  simp only [tellQueue_channels, upd_upd, upd_self]
  rfl

/-- A cycle of the channel runs. -/
def channelCycle (s : State) (n : Fin 4) : Bool := s.planner.cycle.any fun x => decide (x.initiator = .channel n)

theorem channelCycle_iff (s : State) (n : Fin 4) :
    channelCycle s n = true ↔ ∃ x, s.planner.cycle = some x ∧ x.initiator = .channel n := by
  unfold channelCycle
  cases s.planner.cycle <;> simp

/-- A RUNNING channel that loses its owner: the whole state after it. -/
theorem loseOwner_of_running {n : Fin 4} {s : State} (h : s.channels[n].state = .running) :
    loseOwner n s =
      if s.channels[n].waiting = [] ∨ channelCycle s n then faultChannel n .ownerLost s
      else finishClears n (faultChannel n .ownerLost s) := by
  have hfault := faultChannel_of_running h .ownerLost
  have haccess : (faultChannel n .ownerLost s).channels[n] = stopped s.channels[n] .faulted .ownerLost := by
    rw [hfault]
    simp [-Fin.getElem_fin]
  have hplanner : (faultChannel n .ownerLost s).planner = s.planner := by
    rw [hfault]
    simp [-Fin.getElem_fin]
  have hunder : transferring (faultChannel n .ownerLost s) n = true ↔ channelCycle s n = true := by
    rw [transferring_iff, channelCycle_iff, haccess, hplanner]
    simp [stopped]
  rw [loseOwner, clearsOver]
  by_cases hcycle : channelCycle s n = true
  · rw [if_pos (hunder.mpr hcycle), if_pos (.inr hcycle)]
  · rw [if_neg fun ht => hcycle (hunder.mp ht)]
    by_cases hw : s.channels[n].waiting = []
    · rw [if_pos (.inl hw), finishClears_of_none]
      rw [haccess]
      exact hw
    · rw [if_neg (by simp [hw, hcycle, -Fin.getElem_fin])]

/-- The context of a channel that has lost its owner. -/
theorem loseOwner_channels {n : Fin 4} {s : State} (h : s.channels[n].state = .running) :
    (loseOwner n s).channels = upd s.channels n fun _ => ownerGone s n := by
  have hgone : (s.channels[n].waiting = [] ∨ ∃ x, s.planner.cycle = some x ∧ x.initiator = .channel n) ↔
      (s.channels[n].waiting = [] ∨ channelCycle s n = true) := by rw [channelCycle_iff]
  have hfault : (faultChannel n .ownerLost s).channels =
      upd s.channels n fun c => stopped c .faulted .ownerLost := by
    rw [faultChannel_of_running h, tellQueue_channels, notice_channels]
  rw [loseOwner_of_running h]
  by_cases hstays : s.channels[n].waiting = [] ∨ channelCycle s n = true
  · rw [if_pos hstays, hfault]
    exact upd_congr (by rw [ownerGone, if_pos (hgone.mpr hstays)])
  · have hw : s.channels[n].waiting ≠ [] := fun hw => hstays (.inl hw)
    rw [if_neg hstays, finishClears_of_stopped (by simpa [hfault, stopped, -Fin.getElem_fin] using hw)
      (by simp [hfault, stopped, -Fin.getElem_fin]),
      sendAll_channels]
    simp only [hfault, upd_upd]
    exact upd_congr (by rw [ownerGone, if_neg fun hg => hstays (hgone.mp hg)]; rfl)

/-- What the loss of an owner tells to `k`, for one channel (R35, R76, R89, R102, R103): the body of `departureTold`. -/
def lossTold (n : Fin 8) (s k : State) (c : Fin 4) : State :=
  if s.channels[c].state = .running ∧ s.channels[c].owner = n then
    sendAll (if channelCycle s c then [] else answers 0x8C [0, 0] s.channels[c].waiting)
      (tellQueue c (notice 2 ([natByte c.val, 3, natByte n.val, natByte s.channels[c].page.val] ++
        bytes2 s.channels[c].offset.toNat ++ bytes2 s.channels[c].count.toNat) { k with arb := letGo c k }))
  else k

theorem departureTold_eq (n : Fin 8) (s k : State) :
    departureTold n s k = allFour.foldl (lossTold n s) (masterCut n k) := rfl

namespace Alike

variable {s k : State}

theorem letGo (h : Alike s k) (n : Fin 4) : letGo n s = letGo n k := by
  simp only [Machine.letGo, h.planner, h.arb]

theorem left_channels (h : Alike s k) (v : Vector Channel 4) : Alike { s with channels := v } k :=
  ⟨h.link, h.queue, h.arb, h.planner, h.bus, h.settings, h.timeBase⟩

/-- The loss of its owner by one RUNNING channel is told as `lossTold` says. -/
theorem loseOwner (h : Alike s k) {n : Fin 4} (hrun : s.channels[n].state = .running) :
    Alike (loseOwner n s) (lossTold s.channels[n].owner s k n) := by
  have hfault : Alike (faultChannel n .ownerLost s)
      (Machine.tellQueue n (Machine.notice 2 (faultFields n .ownerLost s.channels[n])
        { k with arb := Machine.letGo n k })) := by
    rw [faultChannel_of_running hrun]
    refine Alike.tellQueue (Alike.notice ?_ _ _) _
    exact ⟨h.link, h.queue, h.letGo n, h.planner, h.bus, h.settings, h.timeBase⟩
  have htold : lossTold s.channels[n].owner s k n =
      Machine.sendAll (if channelCycle s n then [] else answers 0x8C [0, 0] s.channels[n].waiting)
        (Machine.tellQueue n (Machine.notice 2 (faultFields n .ownerLost s.channels[n])
          { k with arb := Machine.letGo n k })) := if_pos ⟨hrun, rfl⟩
  rw [loseOwner_of_running hrun, htold]
  by_cases hcycle : channelCycle s n = true
  · rw [if_pos (.inr hcycle), if_pos hcycle, sendAll_nil]
    exact hfault
  rw [if_neg hcycle]
  by_cases hw : s.channels[n].waiting = []
  · rw [if_pos (.inl hw), hw]
    exact (sendAll_nil _).symm ▸ hfault
  · have hchannel : (faultChannel n .ownerLost s).channels[n] = stopped s.channels[n] .faulted .ownerLost := by
      rw [faultChannel_of_running hrun]
      simp [-Fin.getElem_fin]
    have hagain : Machine.letGo n (faultChannel n .ownerLost s) = (faultChannel n .ownerLost s).arb := by
      rw [faultChannel_of_running hrun]
      simp only [Machine.letGo, tellQueue_arb, tellQueue_planner, notice_arb, notice_planner, letsGo_letsGo]
    rw [if_neg (by simp [hw, hcycle, -Fin.getElem_fin]), finishClears_of_stopped (by simpa [hchannel, stopped, -Fin.getElem_fin] using hw)
      (by simp [hchannel, stopped, -Fin.getElem_fin]), hchannel, hagain]
    exact Alike.sendAll (hfault.left_channels _) _

end Alike

/-- The channels of a list, one after another, lose their owner where it is the slot `n`. -/
def loseOwners (n : Fin 8) (cs : List (Fin 4)) (s : State) : State :=
  cs.foldl (fun t c => if t.channels[c].owner = n ∧ t.channels[c].state = .running then loseOwner c t else t) s

theorem ownerLost_eq (n : Fin 8) (s : State) : ownerLost n s = loseOwners n allFour s := rfl

/-- The context of a channel once the list has been gone through. -/
def afterLoss (n : Fin 8) (s : State) (c : Fin 4) : Channel :=
  if s.channels[c].state = .running ∧ s.channels[c].owner = n then ownerGone s c else s.channels[c]

theorem loseOwner_planner (c : Fin 4) (s : State) : (loseOwner c s).planner = s.planner :=
  loseOwner_touches c s .planner (by decide)

/-- What one channel of the list does: its context, and what is told to `k`. -/
theorem loseOwners_cons {n : Fin 8} {c : Fin 4} {s k : State} (h : Alike s k) :
    let t := if s.channels[c].owner = n ∧ s.channels[c].state = .running then loseOwner c s else s
    t.channels = upd s.channels c (fun _ => afterLoss n s c) ∧ Alike t (lossTold n s k c) := by
  by_cases hlost : s.channels[c].owner = n ∧ s.channels[c].state = .running
  · obtain ⟨rfl, hrun⟩ := hlost
    simp only [hrun, and_self, if_true]
    refine ⟨?_, h.loseOwner hrun⟩
    rw [loseOwner_channels hrun, afterLoss, if_pos ⟨hrun, rfl⟩]
  · have hlost' : ¬ (s.channels[c].state = .running ∧ s.channels[c].owner = n) := fun hl => hlost hl.symm
    simp only [if_neg hlost]
    refine ⟨?_, ?_⟩
    · rw [afterLoss, if_neg hlost']
      exact (upd_of_eq rfl).symm
    · rw [lossTold, if_neg hlost']
      exact h

/-- What is told of a channel depends on its own context and the running cycle. -/
theorem lossTold_congr {n : Fin 8} {s t k : State} {c : Fin 4} (hchannel : t.channels[c] = s.channels[c])
    (hcycle : t.planner.cycle = s.planner.cycle) : lossTold n t k c = lossTold n s k c := by
  have hruns : channelCycle t c = channelCycle s c := by rw [channelCycle, hcycle, channelCycle]
  by_cases hlost : s.channels[c].state = .running ∧ s.channels[c].owner = n
  · rw [lossTold, lossTold, if_pos hlost, if_pos (hchannel ▸ hlost), hruns, hchannel]
  · rw [lossTold, lossTold, if_neg hlost, if_neg (hchannel ▸ hlost)]

theorem afterLoss_congr {n : Fin 8} {s t : State} {c : Fin 4} (hchannel : t.channels[c] = s.channels[c])
    (hcycle : t.planner.cycle = s.planner.cycle) : afterLoss n t c = afterLoss n s c := by
  simp only [afterLoss, ownerGone, hchannel, hcycle]

/-- The loss of an owner by the channels of a list, each named once: their contexts, and what is told. -/
theorem loseOwners_tells (n : Fin 8) : ∀ (cs : List (Fin 4)) {s k : State}, cs.Nodup → Alike s k →
    (∀ c, (loseOwners n cs s).channels[c] = if c ∈ cs then afterLoss n s c else s.channels[c]) ∧
      Alike (loseOwners n cs s) (cs.foldl (lossTold n s) k)
  | [], s, k, _, h => ⟨fun c => by simp [loseOwners], h⟩
  | c :: cs, s, k, hnodup, h => by
    obtain ⟨hc, hcs⟩ := List.nodup_cons.mp hnodup
    obtain ⟨hchannels, halike⟩ := loseOwners_cons (n := n) (c := c) h
    generalize ht : (if s.channels[c].owner = n ∧ s.channels[c].state = .running then loseOwner c s else s) = t
      at hchannels halike
    have hcycle : t.planner.cycle = s.planner.cycle := by
      rw [← ht]
      split
      · rw [loseOwner_planner]
      · rfl
    have hother : ∀ d, d ≠ c → t.channels[d] = s.channels[d] := fun d hd => by
      rw [hchannels, upd_other _ _ _ _ hd.symm]
    have hfold : loseOwners n (c :: cs) s = loseOwners n cs t := by
      rw [loseOwners, List.foldl_cons, ht]
      rfl
    obtain ⟨ihchannels, ihalike⟩ := loseOwners_tells n cs hcs halike
    rw [hfold]
    refine ⟨fun d => ?_, ?_⟩
    · rw [ihchannels d]
      by_cases hd : d = c
      · subst hd
        rw [if_neg hc, if_pos (List.mem_cons_self ..), hchannels, upd_self]
      · simp only [List.mem_cons, hd, false_or, hother d hd, afterLoss_congr (hother d hd) hcycle]
    · rw [List.foldl_cons]
      have hsame : ∀ d ∈ cs, ∀ k, lossTold n t k d = lossTold n s k d := fun d hd k =>
        lossTold_congr (hother d fun e => hc (e ▸ hd)) hcycle
      have hfolds : cs.foldl (lossTold n t) (lossTold n s k c) = cs.foldl (lossTold n s) (lossTold n s k c) :=
        List.foldl_ext _ _ _ fun k d hd => hsame d hd k
      rw [← hfolds]
      exact ihalike

/-- The departure of an owner, all four channels: their contexts. -/
theorem ownerLost_channels (n : Fin 8) (s : State) (c : Fin 4) : (ownerLost n s).channels[c] = afterLoss n s c := by
  rw [ownerLost_eq, (loseOwners_tells n allFour (by decide) (Alike.refl s)).1 c, if_pos (by revert c; decide)]

/-- The departure of an owner, all four channels: what is told. -/
theorem ownerLost_alike (n : Fin 8) {s k : State} (h : Alike s k) :
    Alike (ownerLost n s) (allFour.foldl (lossTold n s) k) :=
  (loseOwners_tells n allFour (by decide) h).2

end Sys2Proof.Machine
end

section
/-! PROOFS. The slot controller's rules: requests that waited, a departure from ATTACHED, the start of watching, and the
change that falls due at one slot (R21, R33 to R37, R109, R111, R124). -/

namespace Sys2Proof.Machine

set_option Elab.async false

/-! ## Requests that waited (R33, R34) -/

/-- The pending change over, its requests taken off. -/
def settled (x : Slot) : Slot := { x with change := .none, waiting := [] }

theorem answerWaiting_eq (n : Fin 8) (status : Status) (s : State) :
    answerWaiting n status s = sendAll (answers 0x86 [status.code, s.slots[n].state.code] s.slots[n].waiting)
      (modSlot n settled s) := by
  have hcode : (upd s.slots n settled)[n].state.code = s.slots[n].state.code := by
    rw [upd_self]
    rfl
  rw [← hcode]
  exact foldl_replyLater 0x06 status (fun t => [t.slots[n].state.code]) (fun fs t => by rw [sendAll_slots]) _ _

/-! ## A master cycle that is cut (R34, R36, R59, R60) -/

/-- The state once no master strobe is asserted any more (R43, R44, R59, R60, R62). -/
def masterLost (s : State) : State :=
  { s with
    planner := { s.planner with master := none }
    bus := { s.bus with clock := s.settings.clock }
    arb := { s.arb with
      owner := if s.arb.grant = none then .none else s.arb.owner
      hold := if s.arb.grant = none then .none else s.arb.hold
      intervalUse := if s.arb.intervalSet then s.settings.refresh else s.arb.intervalUse
      interval := if s.arb.intervalSet then 0 else s.arb.interval
      intervalSet := false } }

theorem masterGone_eq (s : State) : masterGone s = masterLost s := by
  unfold masterGone masterLost applySettings applyInterval applyClock modArb modBus modPlanner
  cases hgrant : s.arb.grant <;> cases hset : s.arb.intervalSet <;> simp [hgrant, hset]
  rw [← hgrant, ← hset]

theorem masterCut_of_slot {n : Fin 8} {s : State} {m : MasterCycle} (hm : s.planner.master = some m)
    (hslot : m.slot = n) : masterCut n s = masterLost s := if_pos (by simp [hm, hslot])

theorem masterCut_of_other {n : Fin 8} {s : State} (h : ∀ m, s.planner.master = some m → m.slot ≠ n) :
    masterCut n s = s := by
  refine if_neg ?_
  simpa [Option.any_eq_true] using h

/-- A cut takes the master cycle of the slot, or nothing. -/
theorem masterCut_cases (n : Fin 8) (s : State) :
    (∃ m, s.planner.master = some m ∧ m.slot = n ∧ masterCut n s = masterLost s) ∨
      (∀ m, s.planner.master = some m → m.slot ≠ n) ∧ masterCut n s = s := by
  by_cases h : ∃ m, s.planner.master = some m ∧ m.slot = n
  · obtain ⟨m, hm, hslot⟩ := h
    exact .inl ⟨m, hm, hslot, masterCut_of_slot hm hslot⟩
  · have hother : ∀ m, s.planner.master = some m → m.slot ≠ n := fun m hm hslot => h ⟨m, hm, hslot⟩
    exact .inr ⟨hother, masterCut_of_other hother⟩

/-- A cut is the statements' `masterCut`. -/
theorem cutMaster_eq (n : Fin 8) (s : State) : cutMaster n s = masterCut n s := by
  unfold cutMaster
  cases hm : s.planner.master with
  | none => exact (masterCut_of_other fun m h => by simp [hm] at h).symm
  | some m =>
    by_cases h : m.slot = n
    · simp only [if_pos h, masterGone_eq, masterCut_of_slot hm h]
    · simp only [if_neg h]
      exact (masterCut_of_other fun m' h' => by simp_all).symm

theorem masterCut_touches (n : Fin 8) (s : State) : Touches [.planner, .arb, .bus] s (masterCut n s) :=
  cutMaster_eq n s ▸ cutMaster_touches n s

/-- A cut leaves the driven cycle. -/
theorem masterCut_cycle (n : Fin 8) (s : State) : (masterCut n s).planner.cycle = s.planner.cycle := by
  obtain ⟨_, _, _, h⟩ | ⟨_, h⟩ := masterCut_cases n s
  · rw [h]
    rfl
  · rw [h]

/-- A cut leaves the bus state. -/
theorem masterCut_busState (n : Fin 8) (s : State) : (masterCut n s).bus.state = s.bus.state := by
  obtain ⟨_, _, _, h⟩ | ⟨_, h⟩ := masterCut_cases n s
  · rw [h]
    rfl
  · rw [h]

/-- A cut takes the master cycle of its slot alone. -/
theorem masterCut_planner (n : Fin 8) (s : State) :
    (masterCut n s).planner = { s.planner with
      master := match s.planner.master with
        | some m => if m.slot = n then none else some m
        | none => none } := by
  obtain ⟨m, hm, hslot, h⟩ | ⟨hother, h⟩ := masterCut_cases n s
  · simp only [h, hm, if_pos hslot]
    rfl
  · cases hm : s.planner.master with
    | none => simp only [h, ← hm]
    | some m => simp only [h, if_neg (hother m hm), ← hm]

theorem Alike.masterLost {s k : State} (h : Alike s k) : Alike (masterLost s) (masterLost k) :=
  ⟨h.link, h.queue, by simp only [Machine.masterLost, h.arb, h.settings],
    by simp only [Machine.masterLost, h.planner], by simp only [Machine.masterLost, h.bus, h.settings], h.settings,
    h.timeBase⟩

theorem Alike.masterCut {s k : State} (h : Alike s k) (n : Fin 8) : Alike (masterCut n s) (masterCut n k) :=
  ite (by rw [h.planner]) h.masterLost h

/-- A notice and a cut do not meet: neither reads what the other writes. -/
theorem Alike.notice_masterCut (n : Fin 8) (kind : Nat) (fields : List Byte) (s : State) :
    Alike (Machine.notice kind fields (Machine.masterCut n s)) (Machine.masterCut n (Machine.notice kind fields s)) := by
  have hlink : (Machine.notice kind fields (Machine.masterLost s)).link = (Machine.notice kind fields s).link :=
    notice_link_congr kind fields rfl rfl rfl
  obtain ⟨m, hm, hslot, h⟩ | ⟨hother, h⟩ := masterCut_cases n s
  · have hm' : (Machine.notice kind fields s).planner.master = some m := by rw [notice_planner, hm]
    rw [h, masterCut_of_slot hm' hslot]
    refine ⟨hlink, ?_, ?_, ?_, ?_, ?_, ?_⟩ <;> simp [Machine.masterLost]
  · rw [h, masterCut_of_other (by rwa [notice_planner])]
    exact .refl _

/-- The running cycle marked when the buffers of its target close (R21). -/
def marked (n : Fin 8) (p : Planner) : Planner :=
  { p with cycle := p.cycle.map fun c => if c.target = .slot n then { c with lost := true } else c }

theorem loseTarget_eq (n : Fin 8) (s : State) : loseTarget n s = modPlanner (marked n) s := rfl

/-- A mark and a cut do not meet. -/
theorem marked_masterCut (n m : Fin 8) (s : State) :
    modPlanner (marked n) (masterCut m s) = masterCut m (modPlanner (marked n) s) := by
  obtain ⟨x, hx, hslot, h⟩ | ⟨hother, h⟩ := masterCut_cases m s
  · rw [h, masterCut_of_slot (s := modPlanner (marked n) s) hx hslot]
    rfl
  · rw [h, masterCut_of_other (s := modPlanner (marked n) s) hother]

/-- A mark changes no cycle's initiator. -/
theorem channelCycle_marked (n : Fin 8) (s : State) (c : Fin 4) :
    channelCycle (modPlanner (marked n) s) c = channelCycle s c := by
  have hinit : ∀ x : Cycle, (if x.target = .slot n then { x with lost := true } else x).initiator = x.initiator := by
    intro x
    split <;> rfl
  simp only [channelCycle, modPlanner, marked, Option.any_map, hinit]

/-! ## A departure from ATTACHED (R35, R124) -/

/-- The line-slots of a slot that departs, and of the others. -/
theorem dropSlotLines_lineSlots (n : Fin 8) (s : State) (l : Fin 12) (k : Fin 8) :
    (dropSlotLines n s).lineSlots[l][k] =
      if k = n then quietLine s.lineSlots[l][k] else s.lineSlots[l][k] := by
  simp only [dropSlotLines, mapAll_get, upd_get, eq_comm (a := n)]
  rfl

theorem reportDeparture_channels (n : Fin 8) (s : State) (c : Fin 4) :
    (reportDeparture n s).channels[c] = afterLoss n s c := ownerLost_channels n (dropSlotLines n s) c

theorem reportDeparture_lineSlots (n : Fin 8) (s : State) (l : Fin 12) (k : Fin 8) :
    (reportDeparture n s).lineSlots[l][k] =
      if k = n then quietLine s.lineSlots[l][k] else s.lineSlots[l][k] := by
  have hsame : (reportDeparture n s).lineSlots = (dropSlotLines n s).lineSlots :=
    ownerLost_touches n _ .lineSlots (by decide)
  rw [hsame, dropSlotLines_lineSlots]

/-- Where no channel RUNNING is owned by the slot nothing is told of one. -/
theorem lossTold_congr_left {n : Fin 8} {s t : State} (hchannels : t.channels = s.channels)
    (hcycle : ∀ c, channelCycle t c = channelCycle s c) : lossTold n t = lossTold n s := by
  funext k c
  simp only [lossTold, hchannels, hcycle]

/-- What a departure tells, its line-slots aside. -/
theorem reportDeparture_alike (n : Fin 8) {s k : State} (h : Alike s k) :
    Alike (reportDeparture n s) (allFour.foldl (lossTold n s) k) :=
  ownerLost_alike n (s := dropSlotLines n s) ⟨h.link, h.queue, h.arb, h.planner, h.bus, h.settings, h.timeBase⟩

/-! ## Line-slots changed one after another (R109, R111, R119, R122) -/

/-- What an evaluation makes of its own line-slot (R111). -/
def evaluated (s : State) (l : Fin 12) (n : Fin 8) (x : LineSlot) : LineSlot :=
  { x with pending := x.pending || ((s.lines[l].sense == .level) && watched s n && asserted s l n && !x.inService &&
      !x.stuck) }

theorem lineSlotOf_evaluate (l l' : Fin 12) (n n' : Fin 8) (s : State) :
    lineSlotOf (evaluate l n s) l' n' =
      if l = l' ∧ n = n' then evaluated s l n (lineSlotOf s l' n') else lineSlotOf s l' n' := by
  by_cases hkey : l = l' ∧ n = n'
  · obtain ⟨rfl, rfl⟩ := hkey
    rw [if_pos ⟨rfl, rfl⟩, evaluate, evaluated]
    split
    · next hset =>
      rw [lineSlotOf_mod_self, hset, Bool.or_true]
    · next hstays =>
      rw [Bool.eq_false_iff.mpr hstays, Bool.or_false]
  · rw [if_neg hkey, evaluate_other hkey]

/-- What the part sees of a line depends on neither line-slots nor link. -/
theorem evaluated_congr {s t : State} (h : Touches [.lineSlots] s t) (l : Fin 12) (n : Fin 8) :
    evaluated t l n = evaluated s l n := by
  have hlines : t.lines = s.lines := h .lines (by decide)
  have hslots : t.slots = s.slots := h .slots (by decide)
  have hcards : t.cards = s.cards := h .cards (by decide)
  have hbus : t.bus = s.bus := h .bus (by decide)
  funext x
  simp only [evaluated, watched, asserted, attached, hlines, hslots, hcards, hbus]

/-- Line-slots changed one after another, each once: the value each one takes, and the others as they were. -/
theorem lineSlotOf_foldl {α : Type} {key : α → Fin 12 × Fin 8} {g : State → α → State}
    {val : State → α → LineSlot → LineSlot} (htouch : ∀ s a, Touches [.lineSlots] s (g s a))
    (hval : ∀ s a l n, lineSlotOf (g s a) l n =
      if (key a).1 = l ∧ (key a).2 = n then val s a (lineSlotOf s l n) else lineSlotOf s l n)
    (hcongr : ∀ s t a, Touches [.lineSlots] s t → val t a = val s a) :
    ∀ (as : List α) (s : State) (l : Fin 12) (n : Fin 8), (as.map key).Nodup →
      (∀ a ∈ as, key a = (l, n) → lineSlotOf (as.foldl g s) l n = val s a (lineSlotOf s l n)) ∧
        ((l, n) ∉ as.map key → lineSlotOf (as.foldl g s) l n = lineSlotOf s l n)
  | [], s, l, n, _ => ⟨by simp, fun _ => rfl⟩
  | a :: as, s, l, n, hnodup => by
    obtain ⟨hnew, hrest⟩ := List.nodup_cons.mp hnodup
    obtain ⟨ihin, ihout⟩ := lineSlotOf_foldl htouch hval hcongr as (g s a) l n hrest
    rw [List.foldl_cons]
    by_cases hkey : key a = (l, n)
    · have hhead : lineSlotOf (as.foldl g (g s a)) l n = val s a (lineSlotOf s l n) := by
        rw [ihout (hkey ▸ hnew), hval, if_pos (by simp [hkey])]
      refine ⟨fun b hb hbkey => ?_, fun hout => absurd (by simp [hkey]) hout⟩
      obtain rfl | hb := List.mem_cons.mp hb
      · exact hhead
      · exact absurd (hkey ▸ hbkey ▸ List.mem_map_of_mem hb) hnew
    · have hskip : lineSlotOf (g s a) l n = lineSlotOf s l n := by
        rw [hval, if_neg fun h => hkey (Prod.ext h.1 h.2)]
      refine ⟨fun b hb hbkey => ?_, fun hout => ?_⟩
      · obtain rfl | hb := List.mem_cons.mp hb
        · exact absurd hbkey hkey
        · rw [ihin b hb hbkey, hskip, hcongr s _ b (htouch s a)]
      · rw [ihout fun h => hout (List.mem_cons_of_mem _ h), hskip]

/-- Every line of one slot, changed in turn. -/
theorem lineSlotOf_foldl_lines {n : Fin 8} {g : State → Fin 12 → State} {val : State → Fin 12 → LineSlot → LineSlot}
    (htouch : ∀ s l, Touches [.lineSlots] s (g s l))
    (hval : ∀ s l l' k, lineSlotOf (g s l) l' k = if l = l' ∧ n = k then val s l (lineSlotOf s l' k) else lineSlotOf s l' k)
    (hcongr : ∀ s t l, Touches [.lineSlots] s t → val t l = val s l) (s : State) (l : Fin 12) (k : Fin 8) :
    lineSlotOf (allLines.foldl g s) l k = if k = n then val s l (lineSlotOf s l k) else lineSlotOf s l k := by
  have hlines : ∀ m : Fin 12, m ∈ allLines := by decide
  have hnodup : (allLines.map fun m => (m, n)).Nodup := List.Nodup.map (fun a b h => (Prod.mk.inj h).1) (by decide)
  obtain ⟨hin, hout⟩ := lineSlotOf_foldl (key := fun m : Fin 12 => (m, n)) htouch hval hcongr allLines s l k hnodup
  split
  · next h => exact hin l (hlines l) (by rw [h])
  · next h =>
    refine hout fun hmem => ?_
    obtain ⟨m, -, hm⟩ := List.mem_map.mp hmem
    exact h (Prod.mk.inj hm).2.symm

/-- Every slot of one line, changed in turn. -/
theorem lineSlotOf_foldl_slots {l : Fin 12} {g : State → Fin 8 → State} {val : State → Fin 8 → LineSlot → LineSlot}
    (htouch : ∀ s n, Touches [.lineSlots] s (g s n))
    (hval : ∀ s n l' k, lineSlotOf (g s n) l' k = if l = l' ∧ n = k then val s n (lineSlotOf s l' k) else lineSlotOf s l' k)
    (hcongr : ∀ s t n, Touches [.lineSlots] s t → val t n = val s n) (s : State) (l' : Fin 12) (k : Fin 8) :
    lineSlotOf (allSlots.foldl g s) l' k = if l' = l then val s k (lineSlotOf s l' k) else lineSlotOf s l' k := by
  have hslots : ∀ m : Fin 8, m ∈ allSlots := by decide
  have hnodup : (allSlots.map fun m => (l, m)).Nodup := List.Nodup.map (fun a b h => (Prod.mk.inj h).2) (by decide)
  obtain ⟨hin, hout⟩ := lineSlotOf_foldl (key := fun m : Fin 8 => (l, m)) htouch hval hcongr allSlots s l' k hnodup
  split
  · next h => exact hin k (hslots k) (by rw [h])
  · next h =>
    refine hout fun hmem => ?_
    obtain ⟨m, -, hm⟩ := List.mem_map.mp hmem
    exact h (Prod.mk.inj hm).1.symm

/-- The reference levels taken as watching starts (R109). -/
theorem lineSlotOf_takeReferences (n k : Fin 8) (s : State) (l : Fin 12) :
    lineSlotOf (takeReferences n s) l k =
      if k = n then { lineSlotOf s l k with reference := asserted s l n } else lineSlotOf s l k := by
  refine lineSlotOf_foldl_lines (g := fun t l => modLineSlot l n (fun x => { x with reference := asserted t l n }) t)
    (val := fun s l x => { x with reference := asserted s l n }) (fun _ _ => touches_lineSlots _ _) (fun s l l' k => lineSlotOf_mod l l' n k _ s) (fun s t l h => ?_) s l k
  have hslots : t.slots = s.slots := h .slots (by decide)
  have hcards : t.cards = s.cards := h .cards (by decide)
  simp only [asserted, attached, hslots, hcards]

theorem lineSlotOf_evaluateSlot (n k : Fin 8) (s : State) (l : Fin 12) :
    lineSlotOf (evaluateSlot n s) l k = if k = n then evaluated s l n (lineSlotOf s l k) else lineSlotOf s l k :=
  lineSlotOf_foldl_lines (fun _ _ => evaluate_touches _ _ _) (fun s l l' k => lineSlotOf_evaluate l l' n k s)
    (fun _ _ l h => evaluated_congr h l n) s l k

/-- Watching starts at an ATTACHED slot of a live bus (R109, R111). -/
theorem startWatching_lineSlots {n : Fin 8} {s : State} (hslot : s.slots[n].state = .attached)
    (hlive : s.bus.state.live = true) (l : Fin 12) (k : Fin 8) :
    (startWatching n s).lineSlots[l][k] = if k = n then watchStarted s l n else s.lineSlots[l][k] := by
  have hattached : attached s n = true := by simp only [attached, hslot, beq_self_eq_true]
  have hasserted : ∀ l, asserted s l n = s.cards[n].lines[l] := fun l => by
    rw [asserted, hattached, Bool.true_and]
  have hwatched : watched s n = true := by rw [watched, hattached, hlive, Bool.and_self]
  show lineSlotOf (startWatching n s) l k = _
  rw [startWatching, if_pos hwatched, lineSlotOf_evaluateSlot, lineSlotOf_takeReferences,
    evaluated_congr (takeReferences_touches n s)]
  split
  · next h =>
    subst h
    simp only [evaluated, hwatched, hasserted, Bool.and_true]
    rfl
  · rfl

theorem startWatching_of_unwatched {n : Fin 8} {s : State} (h : watched s n = false) : startWatching n s = s :=
  if_neg (by simp [h])

end Sys2Proof.Machine
end

section
/-! PROOFS. The slot controller's moves: ISOLATE at once, from FAULTED, and pending; ATTACH; the change that falls due at
one slot, and those at several (R33 to R35, R102). -/

namespace Sys2Proof.Machine

set_option Elab.async false

/-! ## ISOLATE (R34, R35) -/

/-- The slot records are not looked at. -/
theorem Alike.modSlot {s k : State} (h : Alike s k) (n : Fin 8) (f : Slot → Slot) : Alike (modSlot n f s) k :=
  ⟨h.link, h.queue, h.arb, h.planner, h.bus, h.settings, h.timeBase⟩

/-- What is told of a departure, from a state in which the slot's own records and its master cycle have changed. -/
theorem reportDeparture_alike_departureTold {n : Fin 8} {s u k : State} (hchannels : u.channels = s.channels)
    (hcycle : ∀ c, channelCycle u c = channelCycle s c) (h : Alike u (masterCut n k)) :
    Alike (reportDeparture n u) (departureTold n s k) := by
  rw [departureTold_eq, ← lossTold_congr_left hchannels hcycle]
  exact reportDeparture_alike n h

/-- An ISOLATED slot record with nothing pending. -/
def isolatedSlot (x : Slot) : Slot := { x with state := .isolated, fault := .none, change := .none, waiting := [] }

/-- The state of an ISOLATE before its departure is reported. -/
def isolating (n : Fin 8) (cause : SlotCause) (s : State) : State :=
  noticeSlotChange n .attached .isolated cause
    (masterCut n (modSlot n (fun x => { x with state := .isolated, fault := .none }) s))

section isolating

variable (n : Fin 8) (cause : SlotCause) (s : State)

theorem isolating_slots :
    (isolating n cause s).slots = upd s.slots n fun x => { x with state := .isolated, fault := .none } := by
  rw [isolating, noticeSlotChange, notice_slots]
  exact masterCut_touches n _ .slots (by decide)

theorem isolating_channels : (isolating n cause s).channels = s.channels := by
  rw [isolating, noticeSlotChange, notice_channels]
  exact masterCut_touches n _ .channels (by decide)

theorem isolating_lineSlots : (isolating n cause s).lineSlots = s.lineSlots := by
  rw [isolating, noticeSlotChange, notice_lineSlots]
  exact masterCut_touches n _ .lineSlots (by decide)

/-- A cut does not read the slot records. -/
theorem masterCut_modSlot_alike (m : Fin 8) (f : Slot → Slot) : Alike (masterCut m (modSlot n f s)) (masterCut m s) :=
  Alike.masterCut (s := modSlot n f s) (k := s) ⟨rfl, rfl, rfl, rfl, rfl, rfl, rfl⟩ m

theorem isolating_planner : (isolating n cause s).planner = (masterCut n s).planner := by
  rw [isolating, noticeSlotChange, notice_planner]
  exact (masterCut_modSlot_alike n s n _).planner

theorem isolating_bus : (isolating n cause s).bus = (masterCut n s).bus := by
  rw [isolating, noticeSlotChange, notice_bus]
  exact (masterCut_modSlot_alike n s n _).bus

theorem isolating_channelCycle (c : Fin 4) : channelCycle (isolating n cause s) c = channelCycle s c := by
  rw [channelCycle, isolating_planner, masterCut_cycle]
  rfl

theorem isolating_alike {k : State} (h : Alike s k) :
    Alike (isolating n cause s) (masterCut n (notice 5 [natByte n.val, 2, 1, cause.code] k)) := by
  have hmod := h.modSlot n fun x => { x with state := .isolated, fault := .none }
  exact (Alike.notice_masterCut n 5 [natByte n.val, 2, 1, cause.code] _).trans ((hmod.notice _ _).masterCut n)

end isolating

theorem isolateNow_eq (n : Fin 8) (cause : SlotCause) (s : State) :
    isolateNow n cause s = sendAll (answers 0x86 [0, 1] s.slots[n].waiting)
      (modSlot n settled (reportDeparture n (isolating n cause s))) := by
  have hslots : (reportDeparture n (isolating n cause s)).slots =
      upd s.slots n fun x => { x with state := .isolated, fault := .none } :=
    (reportDeparture_touches n _ .slots (by decide) : _ = (isolating n cause s).slots).trans (isolating_slots n cause s)
  have hnow : isolateNow n cause s = answerWaiting n .ok (reportDeparture n (isolating n cause s)) := by
    rw [isolateNow, cutMaster_eq]
    rfl
  rw [hnow, answerWaiting_eq, hslots, upd_self]
  rfl

section isolateNow

variable (n : Fin 8) (cause : SlotCause) (s : State)

theorem isolateNow_slots : (isolateNow n cause s).slots = upd s.slots n isolatedSlot := by
  have hslots : (reportDeparture n (isolating n cause s)).slots = (isolating n cause s).slots :=
    reportDeparture_touches n _ .slots (by decide)
  rw [isolateNow_eq, sendAll_slots, modSlot_slots, hslots, isolating_slots, upd_upd]
  rfl

theorem isolateNow_channels (c : Fin 4) : (isolateNow n cause s).channels[c] = afterLoss n s c := by
  rw [isolateNow_eq, sendAll_channels, modSlot_channels, reportDeparture_channels]
  exact afterLoss_congr (by rw [isolating_channels]) (by rw [isolating_planner, masterCut_cycle])

theorem isolateNow_lineSlots (l : Fin 12) (k : Fin 8) :
    (isolateNow n cause s).lineSlots[l][k] = if k = n then quietLine s.lineSlots[l][k] else s.lineSlots[l][k] := by
  rw [isolateNow_eq, sendAll_lineSlots, modSlot_lineSlots, reportDeparture_lineSlots, isolating_lineSlots]

theorem isolateNow_planner : (isolateNow n cause s).planner = (masterCut n s).planner := by
  rw [isolateNow_eq, sendAll_planner, modSlot_planner, ← isolating_planner n cause s]
  exact reportDeparture_touches n _ .planner (by decide)

theorem isolateNow_bus : (isolateNow n cause s).bus = (masterCut n s).bus := by
  rw [isolateNow_eq, sendAll_bus, modSlot_bus, ← isolating_bus n cause s]
  exact reportDeparture_touches n _ .bus (by decide)

theorem isolateNow_alike {k : State} (h : Alike s k) :
    Alike (isolateNow n cause s) (sendAll (answers 0x86 [0, 1] s.slots[n].waiting)
      (departureTold n s (notice 5 [natByte n.val, 2, 1, cause.code] k))) := by
  have hdeparted := reportDeparture_alike_departureTold (isolating_channels n cause s)
    (isolating_channelCycle n cause s) (isolating_alike n cause s h)
  rw [isolateNow_eq]
  exact (hdeparted.modSlot n settled).sendAll _

end isolateNow

/-- A notice does not read the slot records. -/
theorem notice_modSlot (kind : Nat) (fields : List Byte) (n : Fin 8) (f : Slot → Slot) (s : State) :
    notice kind fields (modSlot n f s) = modSlot n f (notice kind fields s) := by
  have hlink : (notice kind fields (modSlot n f s)).link = (notice kind fields s).link :=
    notice_link_congr kind fields rfl rfl rfl
  calc notice kind fields (modSlot n f s)
    _ = { modSlot n f s with link := (notice kind fields (modSlot n f s)).link } := (notice_touches _ _ _).eq_link
    _ = modSlot n f { s with link := (notice kind fields s).link } := by
      rw [hlink]
      rfl
    _ = modSlot n f (notice kind fields s) := by rw [← (notice_touches kind fields s).eq_link]

theorem modSlot_modSlot (n : Fin 8) (f g : Slot → Slot) (s : State) :
    modSlot n g (modSlot n f s) = modSlot n (fun x => g (f x)) s := by
  simp only [modSlot, upd_upd]

/-- ISOLATE from FAULTED (R34): no departure is reported. -/
theorem isolateFaulted_eq (n : Fin 8) (s : State) :
    isolateFaulted n s = sendAll (answers 0x86 [0, 1] s.slots[n].waiting)
      (modSlot n isolatedSlot (notice 5 [natByte n.val, 3, 1, 1] s)) := by
  have hnow : isolateFaulted n s = answerWaiting n .ok (notice 5 [natByte n.val, 3, 1, 1]
    (modSlot n (fun x => { x with state := .isolated, fault := .none }) s)) := rfl
  rw [hnow, notice_modSlot, answerWaiting_eq, modSlot_modSlot, modSlot_slots, notice_slots, upd_self]
  rfl

/-! ## ATTACH (R33) -/

/-- A slot that enters ATTACHED, before it is watched. -/
def attaching (n : Fin 8) (s : State) : State :=
  modSlot n (fun x => { x with state := .attached }) (notice 5 [natByte n.val, 1, 2, 1] s)

theorem attachNow_eq (n : Fin 8) (s : State) : attachNow n s = startWatching n (attaching n s) :=
  congrArg (startWatching n) (notice_modSlot 5 [natByte n.val, 1, 2, 1] n (fun x => { x with state := .attached }) s)

theorem attachNow_slots (n : Fin 8) (s : State) :
    (attachNow n s).slots = upd s.slots n fun x => { x with state := .attached } := by
  have hslots : (startWatching n (attaching n s)).slots = (attaching n s).slots :=
    startWatching_touches n _ .slots (by decide)
  rw [attachNow_eq, hslots, attaching, modSlot_slots, notice_slots]

/-- The line-slots of a slot that enters ATTACHED: watched from here on while the bus is live. -/
theorem attachNow_lineSlots (n : Fin 8) (s : State) (l : Fin 12) (k : Fin 8) :
    (attachNow n s).lineSlots[l][k] =
      if k = n ∧ s.bus.state.live = true then watchStarted s l n else s.lineSlots[l][k] := by
  have hbus : (attaching n s).bus = s.bus := notice_bus _ _ _
  have hlineSlots : (attaching n s).lineSlots = s.lineSlots := notice_lineSlots _ _ _
  have hcards : (attaching n s).cards = s.cards := notice_cards _ _ _
  have hlines : (attaching n s).lines = s.lines := notice_lines _ _ _
  rw [attachNow_eq]
  by_cases hlive : s.bus.state.live = true
  · rw [startWatching_lineSlots (by rw [attaching, modSlot_slots, upd_self]) (by rw [hbus, hlive])]
    simp only [watchStarted, hlineSlots, hcards, hlines, hlive, and_true]
  · rw [startWatching_of_unwatched (by rw [watched, hbus, Bool.eq_false_iff.mpr hlive, Bool.and_false]), hlineSlots,
      if_neg fun h => hlive h.2]

theorem attachNow_alike {n : Fin 8} {s k : State} (h : Alike s k) :
    Alike (attachNow n s) (notice 5 [natByte n.val, 1, 2, 1] k) := by
  rw [attachNow_eq]
  exact (Alike.of_touches (startWatching_touches n _)).trans ((h.notice 5 [natByte n.val, 1, 2, 1]).modSlot n _)

theorem answerWaiting_alike {n : Fin 8} {s k : State} (h : Alike s k) (status : Status) :
    Alike (answerWaiting n status s)
      (sendAll (answers 0x86 [status.code, s.slots[n].state.code] s.slots[n].waiting) k) := by
  rw [answerWaiting_eq]
  exact (h.modSlot n settled).sendAll _

end Sys2Proof.Machine
end

section
/-! PROOFS. The change that falls due at one slot, and those at several (R33 to R35, R102, R109, R111, R124): the slot
records, the line-slots, the channels, and what is told of them. -/

namespace Sys2Proof.Machine

set_option Elab.async false

theorem ownsTransfer_iff (s : State) (n : Fin 8) : ownsTransfer s n = true ↔ OwnsTransfer s n := by
  have hall : ∀ k : Fin 4, k ∈ allFour := by decide
  simp only [ownsTransfer, List.any_eq_true, Bool.and_eq_true, beq_iff_eq, Option.isSome_iff_ne_none, hall, true_and,
    and_assoc]

theorem mayAttach_iff (s : State) (n : Fin 8) (h : s.slots[n].change = .attach) :
    mayAttach s n = true ↔ joinsNow s n := by
  simp only [mayAttach, joinsNow, Bool.and_eq_true, Bool.or_eq_true, beq_iff_eq, h, true_and, or_assoc]
  exact and_comm

/-! ## What one change leaves -/

/-- A slot record after the change that was due there. -/
def slotAfter (s : State) (n : Fin 8) : Slot :=
  if leavesNow s n then
    if s.slots[n].state = .attached ∨ s.slots[n].state = .faulted then isolatedSlot s.slots[n] else settled s.slots[n]
  else if s.slots[n].change = .attach then
    { settled s.slots[n] with state := if joinsNow s n then .attached else s.slots[n].state }
  else s.slots[n]

/-- A line-slot after the change that was due at its slot. -/
def lineAfter (s : State) (l : Fin 12) (n : Fin 8) : LineSlot :=
  if leavesNow s n ∧ s.slots[n].state = .attached then quietLine s.lineSlots[l][n]
  else if joinsNow s n ∧ s.bus.state ≠ .off then watchStarted s l n else s.lineSlots[l][n]

/-- What a change at one slot comes to. -/
structure ChangeMade (n : Fin 8) (s k t : State) : Prop where
  slots : t.slots = upd s.slots n fun _ => slotAfter s n
  lineSlots : ∀ (l : Fin 12) (m : Fin 8), t.lineSlots[l][m] = if m = n then lineAfter s l n else s.lineSlots[l][m]
  channels : ∀ c : Fin 4, t.channels[c] =
    if leavesNow s n ∧ s.slots[n].state = .attached then afterLoss n s c else s.channels[c]
  told : Alike t (changeTold s k n)

section

variable {n : Fin 8} {s k : State}

theorem not_joinsNow_of_isolate (h : s.slots[n].change = .isolate) : ¬ joinsNow s n := by
  rintro ⟨hattach, -⟩
  rw [h] at hattach
  exact nomatch hattach

theorem not_leavesNow_of_attach (h : s.slots[n].change = .attach) : ¬ leavesNow s n := by
  rintro ⟨hisolate, -⟩
  rw [h] at hisolate
  exact nomatch hisolate

/-- A change that moves no slot into or out of ATTACHED leaves the line-slots and the channels. -/
theorem ChangeMade.of_staying {t : State} (hleaves : ¬ (leavesNow s n ∧ s.slots[n].state = .attached))
    (hjoins : ¬ joinsNow s n) (hslots : t.slots = upd s.slots n fun _ => slotAfter s n)
    (hlines : t.lineSlots = s.lineSlots) (hchannels : t.channels = s.channels) (htold : Alike t (changeTold s k n)) :
    ChangeMade n s k t where
  slots := hslots
  lineSlots l m := by
    by_cases hm : m = n
    · rw [if_pos hm, lineAfter, if_neg hleaves, if_neg fun hj => hjoins hj.1, hlines, hm]
    · rw [if_neg hm, hlines]
  channels c := by rw [hchannels, if_neg hleaves]
  told := htold

/-- A pending ISOLATE is made (R34). -/
theorem isolatePending_made (h : Alike s k) (hleaves : leavesNow s n) : ChangeMade n s k (isolatePending n s) := by
  have hjoins := not_joinsNow_of_isolate hleaves.1
  have hstays {x : SlotState} (hx : s.slots[n].state = x) (hne : x ≠ .attached) :
      ¬ (leavesNow s n ∧ s.slots[n].state = .attached) := fun ha => hne (hx.symm.trans ha.2)
  have hwaiting (hattached : s.slots[n].state ≠ .attached) (hfaulted : s.slots[n].state ≠ .faulted) :
      ChangeMade n s k (answerWaiting n .ok s) := by
    have hwaits := answerWaiting_alike (n := n) h .ok
    have hcode : (if s.slots[n].state = .empty then 0 else 1 : Byte) = s.slots[n].state.code := by
      cases hstate : s.slots[n].state with
      | attached => exact absurd hstate hattached
      | faulted => exact absurd hstate hfaulted
      | isolated | empty => rfl
    refine .of_staying (fun ha => hattached ha.2) hjoins ?_ ?_ ?_ ?_
    · rw [answerWaiting_eq, sendAll_slots, modSlot_slots]
      exact upd_congr (by rw [slotAfter, if_pos hleaves, if_neg fun ho => ho.elim hattached hfaulted])
    · rw [answerWaiting_eq, sendAll_lineSlots, modSlot_lineSlots]
    · rw [answerWaiting_eq, sendAll_channels, modSlot_channels]
    · rw [changeTold, if_pos hleaves, if_neg hattached, if_neg hfaulted, hcode]
      exact hwaits
  unfold isolatePending
  split
  next hstate =>
    refine ⟨?_, fun l m => ?_, fun c => ?_, ?_⟩
    · rw [isolateNow_slots]
      exact upd_congr (by rw [slotAfter, if_pos hleaves, if_pos (.inl hstate)])
    · rw [isolateNow_lineSlots]
      by_cases hm : m = n
      · rw [if_pos hm, if_pos hm, lineAfter, if_pos ⟨hleaves, hstate⟩, hm]
      · rw [if_neg hm, if_neg hm]
    · rw [isolateNow_channels, if_pos ⟨hleaves, hstate⟩]
    · rw [changeTold, if_pos hleaves, if_pos hstate, hstate]
      exact isolateNow_alike n .request s h
  next hstate =>
    refine .of_staying (hstays hstate (by decide)) hjoins ?_ ?_ ?_ ?_
    · rw [isolateFaulted_eq, sendAll_slots, modSlot_slots, notice_slots]
      exact upd_congr (by rw [slotAfter, if_pos hleaves, if_pos (.inr hstate)])
    · rw [isolateFaulted_eq, sendAll_lineSlots, modSlot_lineSlots, notice_lineSlots]
    · rw [isolateFaulted_eq, sendAll_channels, modSlot_channels, notice_channels]
    · rw [changeTold, if_pos hleaves, hstate, isolateFaulted_eq]
      exact ((h.notice _ _).modSlot n _).sendAll _
  next hstate => exact hwaiting (by rw [hstate]; decide) (by rw [hstate]; decide)
  next hstate => exact hwaiting (by rw [hstate]; decide) (by rw [hstate]; decide)

/-- The change that falls due at one slot (R33, R34). -/
theorem changeDue_made (h : Alike s k) : ChangeMade n s k (changeDue n s) := by
  have hnone (hleaves : ¬ leavesNow s n) (hattach : s.slots[n].change ≠ .attach) : ChangeMade n s k s := by
    have hjoins : ¬ joinsNow s n := fun hj => hattach hj.1
    refine .of_staying (fun hl => hleaves hl.1) hjoins ?_ rfl rfl ?_
    · exact (upd_of_eq (by rw [slotAfter, if_neg hleaves, if_neg hattach])).symm
    · rw [changeTold, if_neg hleaves, if_neg hjoins, if_neg hattach]
      exact h
  unfold changeDue
  cases hchange : s.slots[n].change with
  | none =>
    refine hnone ?_ (by rw [hchange]; decide)
    rintro ⟨hisolate, -⟩
    rw [hchange] at hisolate
    exact nomatch hisolate
  | isolate =>
    by_cases howns : OwnsTransfer s n
    · have hkept := hnone (fun hl => hl.2 howns) (by rw [hchange]; decide)
      simpa only [if_pos ((ownsTransfer_iff s n).mpr howns)] using hkept
    · have hmade := isolatePending_made (k := k) h ⟨hchange, howns⟩
      simpa only [if_neg fun ho => howns ((ownsTransfer_iff s n).mp ho)] using hmade
  | attach =>
    have hleaves := not_leavesNow_of_attach hchange
    by_cases hjoins : joinsNow s n
    · have hlive : s.bus.state.live = true ↔ s.bus.state ≠ .off := by
        obtain ⟨-, -, hbus⟩ := hjoins
        obtain hbus | hbus | hbus := hbus <;> simp [hbus, BusState.live]
      have hmade : ChangeMade n s k (answerWaiting n .ok (attachNow n s)) := by
        refine ⟨?_, fun l m => ?_, fun c => ?_, ?_⟩
        · rw [answerWaiting_eq, sendAll_slots, modSlot_slots, attachNow_slots, upd_upd]
          exact upd_congr (by rw [slotAfter, if_neg hleaves, if_pos hchange, if_pos hjoins]; rfl)
        · rw [answerWaiting_eq, sendAll_lineSlots, modSlot_lineSlots, attachNow_lineSlots]
          by_cases hm : m = n
          · rw [if_pos hm, lineAfter, if_neg (c := leavesNow s n ∧ _) fun hl => hleaves hl.1]
            by_cases hbus : s.bus.state = .off
            · rw [if_neg fun hw => hlive.mp hw.2 hbus, if_neg fun hw => hw.2 hbus, hm]
            · rw [if_pos ⟨hm, hlive.mpr hbus⟩, if_pos ⟨hjoins, hbus⟩]
          · rw [if_neg hm, if_neg fun hw => hm hw.1]
        · rw [answerWaiting_eq, sendAll_channels, modSlot_channels, if_neg fun hl => hleaves hl.1,
            (attachNow_touches n s .channels (by decide) : (attachNow n s).channels = s.channels)]
        · have hattached := answerWaiting_alike (n := n) (attachNow_alike (n := n) h) .ok
          rw [attachNow_slots, upd_self] at hattached
          rw [changeTold, if_neg hleaves, if_pos hjoins]
          exact hattached
      simpa only [if_pos ((mayAttach_iff s n hchange).mpr hjoins)] using hmade
    · have hmade : ChangeMade n s k (answerWaiting n .badState s) := by
        refine .of_staying (fun hl => hleaves hl.1) hjoins ?_ ?_ ?_ ?_
        · rw [answerWaiting_eq, sendAll_slots, modSlot_slots]
          exact upd_congr (by rw [slotAfter, if_neg hleaves, if_pos hchange, if_neg hjoins]; rfl)
        · rw [answerWaiting_eq, sendAll_lineSlots, modSlot_lineSlots]
        · rw [answerWaiting_eq, sendAll_channels, modSlot_channels]
        · rw [changeTold, if_neg hleaves, if_neg hjoins, if_pos hchange]
          exact answerWaiting_alike h .badState
      simpa only [if_neg fun hm => hjoins ((mayAttach_iff s n hchange).mp hm)] using hmade

end

end Sys2Proof.Machine
end

section
/-! PROOFS. The changes that fall due at several slots, one slot after another (R33 to R35): no slot's change looks at
what another's has written. -/

namespace Sys2Proof.Machine

set_option Elab.async false

/-! ## What is told keeps the running cycle and the bus state -/

theorem lossTold_planner (n : Fin 8) (s k : State) (c : Fin 4) : (lossTold n s k c).planner = k.planner := by
  unfold lossTold
  split
  · rw [sendAll_planner, tellQueue_planner, notice_planner]
  · rfl

theorem lossTold_bus (n : Fin 8) (s k : State) (c : Fin 4) : (lossTold n s k c).bus = k.bus := by
  unfold lossTold
  split
  · rw [sendAll_bus, tellQueue_bus, notice_bus]
  · rfl

theorem departureTold_planner (n : Fin 8) (s k : State) : (departureTold n s k).planner = (masterCut n k).planner := by
  rw [departureTold_eq]
  exact List.foldlRecOn (motive := fun t => t.planner = (masterCut n k).planner) allFour _ rfl
    fun t ht c _ => (lossTold_planner n s t c).trans ht

theorem departureTold_bus (n : Fin 8) (s k : State) : (departureTold n s k).bus = (masterCut n k).bus := by
  rw [departureTold_eq]
  exact List.foldlRecOn (motive := fun t => t.bus = (masterCut n k).bus) allFour _ rfl
    fun t ht c _ => (lossTold_bus n s t c).trans ht

/-- A change, told, leaves the running cycle and the bus state. -/
theorem changeTold_cycle_busState (s k : State) (n : Fin 8) :
    (changeTold s k n).planner.cycle = k.planner.cycle ∧ (changeTold s k n).bus.state = k.bus.state := by
  unfold changeTold
  dsimp only
  split
  · rw [sendAll_planner, sendAll_bus]
    split
    · rw [departureTold_planner, departureTold_bus, masterCut_cycle, masterCut_busState, notice_planner, notice_bus]
      exact ⟨rfl, rfl⟩
    · split
      · rw [notice_planner, notice_bus]
        exact ⟨rfl, rfl⟩
      · exact ⟨rfl, rfl⟩
  · split
    · rw [sendAll_planner, sendAll_bus, notice_planner, notice_bus]
      exact ⟨rfl, rfl⟩
    · split
      · rw [sendAll_planner, sendAll_bus]
        exact ⟨rfl, rfl⟩
      · exact ⟨rfl, rfl⟩

/-! ## Slots whose change has yet to fall due -/

/-- A state that the changes of other slots have come to shows the slots of `ns` as `r` does. -/
structure Untouched (ns : List (Fin 8)) (r x : State) : Prop where
  slots : ∀ n ∈ ns, x.slots[n] = r.slots[n]
  lineSlots : ∀ n ∈ ns, ∀ l : Fin 12, x.lineSlots[l][n] = r.lineSlots[l][n]
  owner : ∀ c : Fin 4, x.channels[c].owner = r.channels[c].owner
  channels : ∀ c : Fin 4, r.channels[c].owner ∈ ns → x.channels[c] = r.channels[c]
  cycle : x.planner.cycle = r.planner.cycle
  busState : x.bus.state = r.bus.state
  cards : x.cards = r.cards
  lines : x.lines = r.lines

theorem Untouched.refl (ns : List (Fin 8)) (r : State) : Untouched ns r r :=
  ⟨fun _ _ => rfl, fun _ _ _ => rfl, fun _ => rfl, fun _ _ => rfl, rfl, rfl, rfl, rfl⟩

/-- A channel after the change that was due at its owner slot `n`. -/
def ownedAfter (n : Fin 8) (r : State) (c : Fin 4) : Channel :=
  if leavesNow r n ∧ r.slots[n].state = .attached then afterLoss n r c else r.channels[c]

/-- A channel after the changes that were due at all slots: it has lost its owner, or stays as it was. -/
def channelAfter (r : State) (c : Fin 4) : Channel := ownedAfter r.channels[c].owner r c

theorem afterLoss_of_other {n : Fin 8} {r : State} {c : Fin 4} (h : r.channels[c].owner ≠ n) :
    afterLoss n r c = r.channels[c] := if_neg fun ho => h ho.2

theorem afterLoss_owner (n : Fin 8) (r : State) (c : Fin 4) : (afterLoss n r c).owner = r.channels[c].owner := by
  unfold afterLoss ownerGone
  split
  · split <;> rfl
  · rfl

namespace Untouched

variable {ns : List (Fin 8)} {n : Fin 8} {r x : State}

theorem ownsTransfer (h : Untouched (n :: ns) r x) : OwnsTransfer x n ↔ OwnsTransfer r n := by
  have hchannel (c : Fin 4) (ho : r.channels[c].owner = n) : x.channels[c] = r.channels[c] :=
    h.channels c (ho ▸ List.mem_cons_self ..)
  constructor
  · rintro ⟨c, hrun, howner, haccess⟩
    have ho : r.channels[c].owner = n := (h.owner c).symm.trans howner
    rw [hchannel c ho] at hrun haccess
    exact ⟨c, hrun, ho, haccess⟩
  · rintro ⟨c, hrun, howner, haccess⟩
    exact ⟨c, by rwa [hchannel c howner], by rwa [hchannel c howner], by rwa [hchannel c howner]⟩

theorem leavesNow (h : Untouched (n :: ns) r x) : leavesNow x n ↔ leavesNow r n := by
  rw [Machine.leavesNow, Machine.leavesNow, h.slots n (List.mem_cons_self ..), h.ownsTransfer]

theorem joinsNow (h : Untouched (n :: ns) r x) : joinsNow x n ↔ joinsNow r n := by
  rw [Machine.joinsNow, Machine.joinsNow, h.slots n (List.mem_cons_self ..), h.busState]

theorem slotAfter (h : Untouched (n :: ns) r x) : slotAfter x n = slotAfter r n := by
  simp only [Machine.slotAfter, h.leavesNow, h.joinsNow, h.slots n (List.mem_cons_self ..)]

theorem lineAfter (h : Untouched (n :: ns) r x) (l : Fin 12) : lineAfter x l n = lineAfter r l n := by
  simp only [Machine.lineAfter, h.leavesNow, h.joinsNow, h.slots n (List.mem_cons_self ..),
    h.lineSlots n (List.mem_cons_self ..) l, h.busState, watchStarted, h.cards, h.lines]

theorem afterLoss (h : Untouched (n :: ns) r x) (c : Fin 4) (ho : r.channels[c].owner = n) :
    afterLoss n x c = afterLoss n r c :=
  afterLoss_congr (h.channels c (ho ▸ List.mem_cons_self ..)) h.cycle

theorem lossTold (h : Untouched (n :: ns) r x) (k : State) (c : Fin 4) : lossTold n x k c = lossTold n r k c := by
  by_cases ho : r.channels[c].owner = n
  · exact lossTold_congr (h.channels c (ho ▸ List.mem_cons_self ..)) h.cycle
  · rw [Machine.lossTold, Machine.lossTold, if_neg fun hl => ho ((h.owner c).symm.trans hl.2), if_neg fun hl => ho hl.2]

theorem departureTold (h : Untouched (n :: ns) r x) (k : State) : departureTold n x k = departureTold n r k := by
  rw [departureTold_eq, departureTold_eq]
  exact List.foldl_ext _ _ _ fun k c _ => h.lossTold k c

theorem changeTold (h : Untouched (n :: ns) r x) (k : State) : changeTold x k n = changeTold r k n := by
  simp only [Machine.changeTold, h.leavesNow, h.joinsNow, h.slots n (List.mem_cons_self ..), h.departureTold]

/-- A channel after the change at slot `n`. -/
theorem channel_made (h : Untouched (n :: ns) r x) {k t : State} (ht : ChangeMade n x k t) (c : Fin 4) :
    t.channels[c] = if r.channels[c].owner = n then channelAfter r c else x.channels[c] := by
  rw [ht.channels c]
  by_cases ho : r.channels[c].owner = n
  · rw [if_pos ho, channelAfter, ho]
    simp only [ownedAfter]
    simp only [h.leavesNow, h.slots n (List.mem_cons_self ..), h.afterLoss c ho,
      h.channels c (ho ▸ List.mem_cons_self ..)]
  · rw [if_neg ho, afterLoss_of_other fun hx => ho ((h.owner c).symm.trans hx), ite_self]

/-- Once slot `n` has changed, the rest still stands as in `r`. -/
theorem step (h : Untouched (n :: ns) r x) (hn : n ∉ ns) {k : State} (hk : Alike x k)
    (ht : ChangeMade n x k (changeDue n x)) : Untouched ns r (changeDue n x) where
  slots m hm := by
    rw [ht.slots, upd_other _ _ _ _ (fun e : n = m => hn (e ▸ hm)), h.slots m (List.mem_cons_of_mem _ hm)]
  lineSlots m hm l := by
    rw [ht.lineSlots, if_neg fun e : m = n => hn (e ▸ hm), h.lineSlots m (List.mem_cons_of_mem _ hm)]
  owner c := by
    rw [ht.channels c, ← h.owner c]
    split
    · rw [afterLoss_owner]
    · rfl
  channels c hc := by
    rw [h.channel_made ht, if_neg fun e : r.channels[c].owner = n => hn (e ▸ hc), h.channels c (List.mem_cons_of_mem _ hc)]
  cycle := by rw [ht.told.planner, (changeTold_cycle_busState x k n).1, ← hk.planner, h.cycle]
  busState := by rw [ht.told.bus, (changeTold_cycle_busState x k n).2, ← hk.bus, h.busState]
  cards := (changeDue_touches n x .cards (by decide) : (changeDue n x).cards = x.cards).trans h.cards
  lines := (changeDue_touches n x .lines (by decide) : (changeDue n x).lines = x.lines).trans h.lines

end Untouched

/-- The changes of a list of slots, each named once, from a state that shows them as `r` does. -/
structure ChangesMadeAt (ns : List (Fin 8)) (r x k w : State) : Prop where
  slots : ∀ m : Fin 8, w.slots[m] = if m ∈ ns then slotAfter r m else x.slots[m]
  lineSlots : ∀ (l : Fin 12) (m : Fin 8), w.lineSlots[l][m] = if m ∈ ns then lineAfter r l m else x.lineSlots[l][m]
  channels : ∀ c : Fin 4, w.channels[c] = if r.channels[c].owner ∈ ns then channelAfter r c else x.channels[c]
  told : Alike w (ns.foldl (changeTold r) k)

theorem changesMadeAt (r : State) : ∀ (ns : List (Fin 8)) {x k : State}, ns.Nodup → Untouched ns r x → Alike x k →
    ChangesMadeAt ns r x k (ns.foldl (fun t n => changeDue n t) x)
  | [], x, k, _, _, hk => ⟨fun _ => by simp, fun _ _ => by simp, fun _ => by simp, hk⟩
  | n :: ns, x, k, hnodup, hx, hk => by
    obtain ⟨hn, hns⟩ := List.nodup_cons.mp hnodup
    have hmade : ChangeMade n x k (changeDue n x) := changeDue_made hk
    have htold := hmade.told
    rw [hx.changeTold] at htold
    obtain ⟨hslots, hlines, hchannels, halike⟩ := changesMadeAt r ns hns (hx.step hn hk hmade) htold
    refine ⟨fun m => ?_, fun l m => ?_, fun c => ?_, halike⟩
    · rw [List.foldl_cons, hslots, hmade.slots]
      by_cases hm : m = n
      · subst hm
        rw [if_neg hn, if_pos (List.mem_cons_self ..), upd_self, hx.slotAfter]
      · simp only [List.mem_cons, hm, false_or, upd_other _ _ _ _ (Ne.symm hm)]
    · rw [List.foldl_cons, hlines, hmade.lineSlots]
      by_cases hm : m = n
      · subst hm
        rw [if_neg hn, if_pos (List.mem_cons_self ..), if_pos rfl, hx.lineAfter]
      · simp only [List.mem_cons, hm, false_or, if_false]
    · rw [List.foldl_cons, hchannels, hx.channel_made hmade]
      by_cases hc : r.channels[c].owner = n
      · rw [if_neg (hc ▸ hn), if_pos (List.mem_cons.mpr (.inl hc)), if_pos hc]
      · simp only [List.mem_cons, hc, false_or, if_false]

/-! ## The statements' relation -/

theorem slotAfter_of_none {r : State} {n : Fin 8}
    (h : r.slots[n].change = .none ∨ (r.slots[n].change = .isolate ∧ OwnsTransfer r n)) :
    slotAfter r n = r.slots[n] ∧ ∀ l, lineAfter r l n = r.lineSlots[l][n] := by
  have hleaves : ¬ leavesNow r n := by
    rintro ⟨hisolate, howns⟩
    obtain hnone | ⟨-, ho⟩ := h
    · exact nomatch hnone.symm.trans hisolate
    · exact howns ho
  have hattach : r.slots[n].change ≠ .attach := by
    intro ha
    obtain hnone | ⟨hisolate, -⟩ := h
    · exact nomatch hnone.symm.trans ha
    · exact nomatch hisolate.symm.trans ha
  refine ⟨?_, fun l => ?_⟩
  · rw [slotAfter, if_neg hleaves, if_neg hattach]
  · rw [lineAfter, if_neg fun hl => hleaves hl.1, if_neg fun hj => hattach hj.1.1]

theorem ChangesMadeAt.changesMade {ns : List (Fin 8)} {due : Fin 8 → Bool} {r w : State}
    (h : ChangesMadeAt ns r r r w) (hdue : ∀ n, due n = true ↔ n ∈ ns)
    (hsame : (∀ n ∈ ns, r.slots[n].change = .none) → w = r)
    (htouches : Touches [.slots, .planner, .arb, .bus, .link, .lineSlots, .channels, .queue] r w)
    (htold : changesTold due r = ns.foldl (changeTold r) r) : ChangesMade due r w := by
  refine ⟨htouches, fun hnone => hsame fun n hn => hnone n ((hdue n).mpr hn), fun n hn => ?_, fun n hn hleaves => ?_,
    fun n hn hattach => ?_, fun c hc => ?_, fun c hc => ?_, fun told ht => ?_⟩
  · by_cases hm : n ∈ ns
    · have hstays := slotAfter_of_none (hn.resolve_left (by simp [(hdue n).mpr hm]))
      refine ⟨?_, fun l => ?_⟩
      · rw [h.slots, if_pos hm, hstays.1]
      · rw [h.lineSlots, if_pos hm, hstays.2]
    · refine ⟨?_, fun l => ?_⟩
      · rw [h.slots, if_neg hm]
      · rw [h.lineSlots, if_neg hm]
  · have hm := (hdue n).mp hn
    refine ⟨fun hstate => ?_, fun hstate => ?_, fun l => ?_⟩
    · rw [h.slots, if_pos hm, slotAfter, if_pos hleaves, if_pos hstate]
      rfl
    · have hnot : ¬ (r.slots[n].state = .attached ∨ r.slots[n].state = .faulted) := by
        obtain hs | hs := hstate <;> simp [hs, -Fin.getElem_fin]
      rw [h.slots, if_pos hm, slotAfter, if_pos hleaves, if_neg hnot]
      rfl
    · rw [h.lineSlots, if_pos hm, lineAfter]
      by_cases hstate : r.slots[n].state = .attached
      · rw [if_pos ⟨hleaves, hstate⟩, if_pos hstate]
      · rw [if_neg fun hl => hstate hl.2, if_neg fun hj => not_joinsNow_of_isolate hleaves.1 hj.1, if_neg hstate]
  · have hm := (hdue n).mp hn
    have hleaves := not_leavesNow_of_attach hattach
    refine ⟨?_, fun l => ?_⟩
    · rw [h.slots, if_pos hm, slotAfter, if_neg hleaves, if_pos hattach]
      rfl
    · rw [h.lineSlots, if_pos hm, lineAfter, if_neg fun hl => hleaves hl.1]
  · obtain ⟨hrun, hd, hleaves, hstate⟩ := hc
    rw [h.channels, if_pos ((hdue _).mp hd), channelAfter, ownedAfter, if_pos ⟨hleaves, hstate⟩, afterLoss, if_pos ⟨hrun, rfl⟩]
  · rw [h.channels]
    by_cases hm : r.channels[c].owner ∈ ns
    · rw [if_pos hm, channelAfter, ownedAfter]
      by_cases hleaves : leavesNow r r.channels[c].owner ∧ r.slots[r.channels[c].owner].state = .attached
      · rw [if_pos hleaves, afterLoss, if_neg fun hl => hc ⟨hl.1, (hdue _).mpr hm, hleaves.1, hleaves.2⟩]
      · rw [if_neg hleaves]
    · rw [if_neg hm]
  · rw [ht, htold]
    exact ⟨h.told.link, h.told.queue, h.told.arb, h.told.planner, h.told.bus⟩

theorem changeDue_of_none {n : Fin 8} {s : State} (h : s.slots[n].change = .none) : changeDue n s = s := by
  rw [changeDue, h]

theorem changesDue_of_none (ns : List (Fin 8)) {s : State} (h : ∀ n ∈ ns, s.slots[n].change = .none) :
    ns.foldl (fun t n => changeDue n t) s = s :=
  List.foldlRecOn (motive := fun t => t = s) ns _ rfl fun t ht n hn => by
    rw [ht]
    exact changeDue_of_none (h n hn)

/-- Every pending change falls due (R33, R34). -/
theorem changesDue_made (s : State) : ChangesMade (fun _ => true) s (changesDue s) := by
  have hat := changesMadeAt s allSlots (by decide) (.refl _ s) (Alike.refl s)
  refine hat.changesMade (fun n => ⟨fun _ => by revert n; decide, fun _ => rfl⟩) (changesDue_of_none _)
    (changesDue_touches s) ?_
  simp only [changesTold, if_true]

/-- The change at one slot alone falls due. -/
theorem changeDue_changesMade (n : Fin 8) (s : State) : ChangesMade (fun m => decide (m = n)) s (changeDue n s) := by
  have hat := changesMadeAt s [n] (by simp) (.refl _ s) (Alike.refl s)
  refine hat.changesMade (fun m => by simp) (fun hnone => changeDue_of_none (hnone n (by simp)))
    (changeDue_touches n s) ?_
  have hfold : ∀ n : Fin 8, allSlots.filter (fun m => decide (m = n)) = [n] := by decide
  rw [changesTold, ← hfold n, List.foldl_filter]

end Sys2Proof.Machine
end

section
/-! PROOFS. O19 and O20: SLOT QUERY, SLOT ATTACH and SLOT ISOLATE (R32 to R35). -/

namespace Sys2Proof.Machine

set_option Elab.async false

/-! ## A request taken while the part listens -/

theorem heard_touches (s : State) : Touches [.link] s (heard s) := touches_link _ _

theorem heard_ready {s : State} (hs : Listening s) : (heard s).link.ready = true := hs.1

/-- A refusal of a request taken while the part listens (R188). -/
theorem refuse_heard_of_listening {s : State} (hs : Listening s) (kind tag : Byte) (status : Status) :
    refuse kind tag status (heard s) = answered (kind + 0x80) tag [status.code] s :=
  reply_heard_of_listening hs kind tag status []

section slotRows

variable {s : State} (hs : Listening s) (tag slot : Byte)
include hs

theorem exec_slotQuery_of_listening : exec (.slotQuery tag slot) s = .next (serveSlotQuery tag slot (heard s)) :=
  exec_of_listening (i := .slotQuery tag slot) hs rfl rfl (by decide) (of_decide_eq_true rfl)

theorem exec_slotAttach_of_listening : exec (.slotAttach tag slot) s = .next (serveSlotAttach tag slot (heard s)) :=
  exec_of_listening (i := .slotAttach tag slot) hs rfl rfl (by decide) (of_decide_eq_true rfl)

theorem exec_slotIsolate_of_listening : exec (.slotIsolate tag slot) s = .next (serveSlotIsolate tag slot (heard s)) :=
  exec_of_listening (i := .slotIsolate tag slot) hs rfl rfl (by decide) (of_decide_eq_true rfl)

/-- A reply with the slot's state (R32). -/
theorem replySlot_heard (status : Status) (n : Fin 8) :
    replySlot tag status n (heard s) = answered 0x86 tag [status.code, s.slots[n].state.code] s :=
  reply_heard_of_listening hs 0x06 tag status _

end slotRows

/-! ## SLOT QUERY and the range check (R32) -/

theorem slotQuery_answers {s : State} (hs : Listening s) (tag : Byte) (n : Fin 8) :
    exec (.slotQuery tag (natByte n.val)) s = .next (answered 0x86 tag
      [0, s.slots[n].state.code, if s.slots[n].present then 1 else 0, if s.slots[n].wide then 1 else 0,
        s.slots[n].fault.code, s.slots[n].change.code] s) := by
  rw [exec_slotQuery_of_listening hs, serveSlotQuery, indexBelow_natByte (by decide) n]
  exact congrArg _ (reply_heard_of_listening hs 0x06 tag .ok (slotFields s.slots[n]))

theorem slotRequests_outOfRange {s : State} (hs : Listening s) (tag : Byte) {slot : Byte} (h : 8 ≤ slot.toNat) :
    exec (.slotQuery tag slot) s = .next (answered 0x86 tag [3] s) ∧
    exec (.slotAttach tag slot) s = .next (answered 0x86 tag [3] s) ∧
    exec (.slotIsolate tag slot) s = .next (answered 0x86 tag [3] s) := by
  have hrefused : refuse 0x06 tag .range (heard s) = answered 0x86 tag [3] s := refuse_heard_of_listening hs 0x06 tag .range
  rw [exec_slotQuery_of_listening hs, exec_slotAttach_of_listening hs, exec_slotIsolate_of_listening hs,
    serveSlotQuery, serveSlotAttach, serveSlotIsolate, indexBelow_of_le h]
  exact ⟨congrArg _ hrefused, congrArg _ hrefused, congrArg _ hrefused⟩

/-! ## SLOT ATTACH (R33) -/

theorem serveSlotAttach_of_closed {s : State} (tag : Byte) (n : Fin 8)
    (hbus : s.bus.state = .run ∨ s.bus.state = .resetting ∨ s.bus.state = .down) :
    serveSlotAttach tag (natByte n.val) s = replySlot tag .badState n s := by
  rw [serveSlotAttach, indexBelow_natByte (by decide) n]
  obtain hbus | hbus | hbus := hbus <;> simp only [hbus]

theorem serveSlotAttach_of_open {s : State} (tag : Byte) (n : Fin 8)
    (hbus : s.bus.state = .off ∨ s.bus.state = .hold ∨ s.bus.state = .stop) :
    serveSlotAttach tag (natByte n.val) s = attachSlot tag n s := by
  rw [serveSlotAttach, indexBelow_natByte (by decide) n]
  obtain hbus | hbus | hbus := hbus <;> simp only [hbus]

theorem attachSlot_of_attached {s : State} (tag : Byte) {n : Fin 8} (h : s.slots[n].state = .attached) :
    attachSlot tag n s = replySlot tag .ok n s := by rw [attachSlot, h]

theorem attachSlot_of_isolated {s : State} (tag : Byte) {n : Fin 8} (h : s.slots[n].state = .isolated) :
    attachSlot tag n s =
      if cycleRunning s then waitFor n .attach tag s else settle (replySlot tag .ok n (attachNow n s)) := by
  rw [attachSlot, h]

theorem attachSlot_of_refused {s : State} (tag : Byte) {n : Fin 8}
    (h : s.slots[n].state = .empty ∨ s.slots[n].state = .faulted) :
    attachSlot tag n s = replySlot tag .badState n s := by
  obtain h | h := h <;> rw [attachSlot, h]

/-- An ISOLATED slot enters ATTACHED at once. -/
theorem attachSlot_now {s : State} (hs : Listening s) (tag : Byte) {n : Fin 8} (hstate : s.slots[n].state = .isolated)
    (hcycle : s.planner.cycle = none) :
    attachSlot tag n (heard s) = settle (withReply 0x86 tag [0, 2] (attachNow n (heard s))) := by
  have hidle : cycleRunning (heard s) = false := by
    rw [cycleRunning, Option.isSome_eq_false_iff, Option.isNone_iff_eq_none]
    exact hcycle
  have hready : (attachNow n (heard s)).link.ready = true := by
    rw [(attachNow_alike (n := n) (Alike.refl (heard s))).link, notice_ready]
    exact heard_ready hs
  rw [attachSlot_of_isolated tag (s := heard s) hstate, hidle, replySlot, attachNow_slots, upd_self,
    reply_of_ready hready]
  rfl

theorem attachNow_leaves (n : Fin 8) (s : State) :
    Touches [.slots, .link, .lineSlots] s (attachNow n (heard s)) ∧
      (attachNow n (heard s)).slots = upd s.slots n (fun x => { x with state := .attached }) ∧
      (attachNow n (heard s)).link = (notice 5 [natByte n.val, 1, 2, 1] (heard s)).link ∧
      (s.bus.state = .off → (attachNow n (heard s)).lineSlots = s.lineSlots) ∧
      ((s.bus.state = .hold ∨ s.bus.state = .stop) → WatchingStarted n s (attachNow n (heard s))) := by
  refine ⟨((heard_touches s).mono (by decide)).trans ((attachNow_touches n _).mono (by decide)),
    attachNow_slots n (heard s), (attachNow_alike (Alike.refl (heard s))).link, fun hoff => ?_, fun hlive l k => ?_⟩
  · have hunwatched : watched (attaching n (heard s)) n = false := by
      have hbus : (attaching n (heard s)).bus.state = .off := by
        rw [attaching, modSlot_bus, notice_bus]
        exact hoff
      rw [watched, hbus]
      exact Bool.and_false _
    rw [attachNow_eq, startWatching_of_unwatched hunwatched, attaching, modSlot_lineSlots, notice_lineSlots]
    rfl
  · have hbus : (heard s).bus.state.live = true := by
      obtain h | h := hlive <;> simp only [heard, h] <;> rfl
    rw [attachNow_lineSlots]
    simp only [hbus, and_true]
    rfl

/-- Settles O19: the requests by bus state and slot state. -/
theorem slotQueryAndAttachAct : Obligations.SlotQueryAndAttachAct := by
  unfold Obligations.SlotQueryAndAttachAct
  refine ⟨fun tag n s hs => slotQuery_answers hs tag n, fun tag slot s hs h => slotRequests_outOfRange hs tag h,
    fun tag n s hs => ⟨fun hrefused => ?_, fun hopen => ⟨fun hattached => ?_, fun hisolated hruns => ?_,
      fun hisolated hidle => ?_⟩⟩⟩
  · have hreply := replySlot_heard hs tag .badState n
    rw [exec_slotAttach_of_listening hs]
    by_cases hclosed : s.bus.state = .run ∨ s.bus.state = .resetting ∨ s.bus.state = .down
    · rw [serveSlotAttach_of_closed (s := heard s) tag n hclosed, hreply]
      rfl
    · have hslot : s.slots[n].state = .empty ∨ s.slots[n].state = .faulted := by
        obtain h | h | h | h := hrefused
        · exact absurd (.inl h) hclosed
        · exact absurd (.inr (.inl h)) hclosed
        · exact absurd (.inr (.inr h)) hclosed
        · exact h
      have hbus : s.bus.state = .off ∨ s.bus.state = .hold ∨ s.bus.state = .stop := by
        cases h : s.bus.state <;> simp [h] at hclosed <;> simp
      rw [serveSlotAttach_of_open (s := heard s) tag n hbus, attachSlot_of_refused (s := heard s) tag hslot, hreply]
      rfl
  · rw [exec_slotAttach_of_listening hs, serveSlotAttach_of_open (s := heard s) tag n hopen,
      attachSlot_of_attached (s := heard s) tag hattached, replySlot_heard hs, hattached]
    rfl
  · have hcycle : cycleRunning (heard s) = true := Option.isSome_iff_ne_none.mpr hruns
    rw [exec_slotAttach_of_listening hs, serveSlotAttach_of_open (s := heard s) tag n hopen,
      attachSlot_of_isolated (s := heard s) tag hisolated, if_pos hcycle]
    rfl
  · obtain ⟨htouches, hslots, hlink, hoff, hlive⟩ := attachNow_leaves n s
    refine ⟨attachNow n (heard s), ?_, htouches, hslots, hlink, hoff, fun hne => hlive (hopen.resolve_left hne)⟩
    rw [exec_slotAttach_of_listening hs, serveSlotAttach_of_open (s := heard s) tag n hopen, attachSlot_now hs tag hisolated hidle]

/-! ## The link stays ready -/

theorem reply_ready (kind tag : Byte) (status : Status) (fields : List Byte) (s : State) :
    (reply kind tag status fields s).link.ready = s.link.ready := sendAll_ready _ _

theorem buildReply_ready (s : State) (f : OpenFrame) : (buildReply s f).link.ready = s.link.ready := by
  unfold buildReply
  split
  · exact reply_ready _ _ _ _ _
  · rfl

theorem closeFrames_ready (s : State) : (closeFrames s).link.ready = s.link.ready := by
  unfold closeFrames
  refine List.foldlRecOn (motive := fun t => t.link.ready = s.link.ready) _ _ ?_
    fun t ht f _ => (buildReply_ready t f).trans ht
  rfl

theorem endOp_ready (status : OpStatus) (s : State) : (endOp status s).link.ready = s.link.ready := by
  unfold endOp
  split
  · rfl
  · exact closeFrames_ready _

theorem tellQueue_ready (n : Fin 4) (s : State) : (tellQueue n s).link.ready = s.link.ready := by
  unfold tellQueue
  split
  · split
    · split
      · exact endOp_ready _ _
      · rfl
    · rfl
    · rfl
    · rfl
  · rfl

theorem masterCut_ready (n : Fin 8) (s : State) : (masterCut n s).link.ready = s.link.ready :=
  congrArg Link.ready (masterCut_touches n s .link (by decide) : (masterCut n s).link = s.link)

theorem lossTold_ready (n : Fin 8) (s k : State) (c : Fin 4) : (lossTold n s k c).link.ready = k.link.ready := by
  unfold lossTold
  split
  · rw [sendAll_ready, tellQueue_ready, notice_ready]
  · rfl

theorem departureTold_ready (n : Fin 8) (s k : State) : (departureTold n s k).link.ready = k.link.ready := by
  rw [departureTold_eq]
  exact List.foldlRecOn (motive := fun t => t.link.ready = k.link.ready) allFour _ (masterCut_ready n k)
    fun t ht c _ => (lossTold_ready n s t c).trans ht

theorem isolateNow_ready (n : Fin 8) (cause : SlotCause) (s : State) :
    (isolateNow n cause s).link.ready = s.link.ready := by
  rw [(isolateNow_alike n cause s (Alike.refl s)).link, sendAll_ready, departureTold_ready, notice_ready]

/-! ## SLOT ISOLATE (R34, R35) -/

theorem involved_iff (s : State) {n : Fin 8} (hstate : s.slots[n].state = .attached) :
    involved s n = true ↔ Involves s n := by
  rw [involved, Bool.or_eq_true, ownsTransfer_iff, Involves]
  refine or_congr Iff.rfl ?_
  cases hcycle : s.planner.cycle with
  | none => simp
  | some c =>
    have hkind : (c.kind != .access) = true ↔ c.kind = .probe ∨ c.kind = .refresh := by cases c.kind <;> decide
    have hattached : attached s n = true := by simp only [attached, hstate, beq_self_eq_true]
    simp only [Option.any_some, Bool.or_eq_true, Bool.and_eq_true, beq_iff_eq, hkind, hattached, and_true,
      Option.some.injEq, exists_eq_left', hstate, or_assoc]
    cases c.cardSide <;> simp

theorem masterCut_bus_of_other {n : Fin 8} {s : State} (h : ∀ m, s.planner.master = some m → m.slot ≠ n) :
    (masterCut n s).bus = s.bus := by
  rw [masterCut_of_other h]

theorem masterCut_bus_of_slot {n : Fin 8} {s : State} {m : MasterCycle} (hm : s.planner.master = some m)
    (h : m.slot = n) : (masterCut n s).bus = { s.bus with clock := s.settings.clock } := by
  rw [masterCut_of_slot hm h]
  rfl

/-- A master cycle of the slot is cut: what that leaves of the bus controller. -/
theorem masterCut_bus (n : Fin 8) (s : State) :
    ((∀ m, s.planner.master = some m → m.slot ≠ n) → (masterCut n s).bus = s.bus) ∧
      ∀ m, s.planner.master = some m → m.slot = n → (masterCut n s).bus = { s.bus with clock := s.settings.clock } :=
  ⟨masterCut_bus_of_other, fun _ hm hslot => masterCut_bus_of_slot hm hslot⟩

theorem isolateNow_departs (n : Fin 8) (cause : SlotCause) (s : State) : SlotDeparted n s (isolateNow n cause s) :=
  ⟨isolateNow_lineSlots n cause s, isolateNow_channels n cause s⟩

section

variable {s : State} {n : Fin 8} (tag : Byte)

theorem isolateSlot_of_empty (h : s.slots[n].state = .empty) : isolateSlot tag n s = replySlot tag .badState n s := by
  rw [isolateSlot, h]

theorem isolateSlot_of_isolated (h : s.slots[n].state = .isolated) : isolateSlot tag n s =
    replySlot tag .ok n (if s.slots[n].change = .attach then answerWaiting n .badState s else s) := by
  rw [isolateSlot, h]

theorem isolateSlot_of_faulted (h : s.slots[n].state = .faulted) :
    isolateSlot tag n s = replySlot tag .ok n (isolateFaulted n s) := by rw [isolateSlot, h]

theorem isolateSlot_of_attached (h : s.slots[n].state = .attached) : isolateSlot tag n s =
    if involved s n then waitFor n .isolate tag s
    else settle (replySlot tag .ok n (isolateNow n .request s)) := by rw [isolateSlot, h]

end

/-- ISOLATE of a slot that no cycle involves, up to what it lets go on. -/
theorem isolateSlot_now {s : State} (hs : Listening s) (tag : Byte) {n : Fin 8} (hstate : s.slots[n].state = .attached)
    (hfree : ¬ Involves s n) : isolateSlot tag n (heard s) =
      settle (withReply 0x86 tag [0, 1] (isolateNow n .request (heard s))) := by
  have hnot : ¬ involved (heard s) n = true := fun hi => hfree ((involved_iff s hstate).mp hi)
  have hready : (isolateNow n .request (heard s)).link.ready = true :=
    (isolateNow_ready n .request (heard s)).trans hs.1
  rw [isolateSlot_of_attached tag (s := heard s) hstate, if_neg hnot, replySlot, isolateNow_slots, upd_self,
    reply_of_ready hready]
  rfl

/-- Settles O20: by the slot's state. -/
theorem slotIsolateActs : Obligations.SlotIsolateActs := by
  unfold Obligations.SlotIsolateActs
  intro tag n s hs
  rw [exec_slotIsolate_of_listening hs, serveSlotIsolate, indexBelow_natByte (by decide) n]
  refine ⟨fun hempty => ?_, fun hisolated hnone => ?_, fun hisolated hattach => ?_, fun hfaulted => ?_,
    fun hattached hinvolved => ?_, fun hattached hfree => ?_⟩
  · refine congrArg _ ((isolateSlot_of_empty (s := heard s) tag hempty).trans ?_)
    rw [replySlot_heard hs, hempty]
    rfl
  · refine congrArg _ ((isolateSlot_of_isolated (s := heard s) tag hisolated).trans ?_)
    rw [if_neg (c := (heard s).slots[n].change = .attach) hnone, replySlot_heard hs, hisolated]
    rfl
  · refine congrArg _ ((isolateSlot_of_isolated (s := heard s) tag hisolated).trans ?_)
    have hready : (sendAll (answers 0x86 [Status.badState.code, (heard s).slots[n].state.code] (heard s).slots[n].waiting)
        (modSlot n settled (heard s))).link.ready = true := (sendAll_ready _ _).trans hs.1
    have hcode : (heard s).slots[n].state.code = 1 := by
      rw [show (heard s).slots[n].state = .isolated from hisolated]
      rfl
    rw [if_pos (c := (heard s).slots[n].change = .attach) hattach, replySlot, answerWaiting_eq, reply_of_ready hready,
      sendAll_slots, modSlot_slots, upd_self, show (settled (heard s).slots[n]).state = (heard s).slots[n].state from rfl,
      hcode]
    rfl
  · refine congrArg _ ((isolateSlot_of_faulted (s := heard s) tag hfaulted).trans ?_)
    have hready : (sendAll (answers 0x86 [0, 1] (heard s).slots[n].waiting)
        (modSlot n isolatedSlot (notice 5 [natByte n.val, 3, 1, 1] (heard s)))).link.ready = true :=
      (sendAll_ready _ (modSlot n isolatedSlot _)).trans ((notice_ready 5 _ (heard s)).trans hs.1)
    rw [replySlot, isolateFaulted_eq, reply_of_ready hready, sendAll_slots, modSlot_slots, upd_self, ← notice_modSlot]
    rfl
  · have hi : involved (heard s) n = true := (involved_iff s hattached).mpr hinvolved
    refine congrArg _ ((isolateSlot_of_attached (s := heard s) tag hattached).trans ?_)
    rw [if_pos hi]
    rfl
  · obtain ⟨hbusOther, hbusSlot⟩ := masterCut_bus n (heard s)
    have hbus := isolateNow_bus n .request (heard s)
    refine ⟨isolateNow n .request (heard s), congrArg _ (isolateSlot_now hs tag hattached hfree),
      ((heard_touches s).mono (by decide)).trans ((isolateNow_touches n .request _).mono (by decide)),
      isolateNow_slots n .request (heard s), isolateNow_departs n .request (heard s),
      (isolateNow_planner n .request (heard s)).trans (masterCut_planner n (heard s)),
      fun hother => hbus.trans (hbusOther hother), fun m hm hslot => hbus.trans (hbusSlot m hm hslot), fun told ht => ?_⟩
    have htold := isolateNow_alike n .request (heard s) (Alike.refl (heard s))
    subst ht
    refine ⟨htold.link, htold.queue.trans (sendAll_queue _ _), htold.arb.trans (sendAll_arb _ _)⟩

end Sys2Proof.Machine
end

section
/-! PROOFS. O21: presence arrival and loss (R29, R30). -/

namespace Sys2Proof.Machine

set_option Elab.async false

/-! ## Changes that handing frames over and telling the queue do not read -/

/-- A change of fields beside the link and the queue, and beside what a notice is made from. -/
structure Aside (f : State → State) : Prop where
  link : ∀ s, (f s).link = s.link
  queue : ∀ s, (f s).queue = s.queue
  settings : ∀ s, (f s).settings = s.settings
  timeBase : ∀ s, (f s).timeBase = s.timeBase
  withLink : ∀ s l, { f s with link := l } = f { s with link := l }
  withQueue : ∀ s q, { f s with queue := q } = f { s with queue := q }

namespace Aside

variable {f : State → State} (h : Aside f) (s : State)
include h

theorem sendAll (fs : List Frame) : sendAll fs (f s) = f (sendAll fs s) := by
  unfold Machine.sendAll
  rw [h.link]
  split
  · exact h.withLink s _
  · rfl

theorem notice (kind : Nat) (fields : List Byte) : notice kind fields (f s) = f (notice kind fields s) := by
  unfold Machine.notice
  rw [h.link, h.settings, h.timeBase]
  split
  · split
    · exact h.sendAll s _
    · rw [← h.withLink s { s.link with overflow := true }]
      simp only [h.settings, h.timeBase]
  · rfl

theorem buildReply (o : OpenFrame) : buildReply (f s) o = f (buildReply s o) := by
  unfold Machine.buildReply
  split
  · exact h.sendAll s _
  · rfl

theorem closeFrames : closeFrames (f s) = f (closeFrames s) := by
  have hopen : modQueue (fun q => { q with frames := q.frames.filter fun o => !o.complete }) (f s) =
      f (modQueue (fun q => { q with frames := q.frames.filter fun o => !o.complete }) s) := by
    unfold modQueue
    rw [h.queue]
    exact h.withQueue s _
  unfold Machine.closeFrames
  dsimp only
  rw [h.queue, hopen]
  exact List.foldl_hom f fun t o => h.buildReply t o

theorem endOp (status : OpStatus) : endOp status (f s) = f (endOp status s) := by
  unfold Machine.endOp
  rw [h.queue]
  split
  · rfl
  · dsimp only
    rw [h.withQueue]
    exact h.closeFrames _

theorem endWaitDma : endWaitDma (f s) = f (endWaitDma s) := by
  unfold Machine.endWaitDma modQueue
  rw [h.queue, h.withQueue]
  exact h.endOp _ .ok

theorem tellQueue (n : Fin 4) : tellQueue n (f s) = f (tellQueue n s) := by
  unfold Machine.tellQueue
  rw [h.queue]
  split
  · split
    · split
      · exact h.endWaitDma s
      · rfl
    · rfl
    · rfl
    · rfl
  · rfl

end Aside

theorem aside_modPlanner (f : Planner → Planner) : Aside (modPlanner f) :=
  ⟨fun _ => rfl, fun _ => rfl, fun _ => rfl, fun _ => rfl, fun _ _ => rfl, fun _ _ => rfl⟩

/-- The arbiter and the channels set to given values. -/
theorem aside_arb_channels (a : Arbiter) (v : Vector Channel 4) : Aside fun s => { s with arb := a, channels := v } :=
  ⟨fun _ => rfl, fun _ => rfl, fun _ => rfl, fun _ => rfl, fun _ _ => rfl, fun _ _ => rfl⟩

/-- A mark is not seen by what a departure tells. -/
theorem lossTold_marked (m n : Fin 8) (s k : State) (c : Fin 4) :
    lossTold n s (modPlanner (marked m) k) c = modPlanner (marked m) (lossTold n s k c) := by
  have hlets : letGo c (modPlanner (marked m) k) = letGo c k := by
    simp only [letGo, modPlanner, marked, Option.isSome_map]
  unfold lossTold
  split
  · rw [hlets, ← (aside_modPlanner _).sendAll, ← (aside_modPlanner _).tellQueue, ← (aside_modPlanner _).notice]
    rfl
  · rfl

theorem departureTold_marked (m n : Fin 8) (s k : State) :
    departureTold n s (modPlanner (marked m) k) = modPlanner (marked m) (departureTold n s k) := by
  rw [departureTold_eq, departureTold_eq, ← marked_masterCut]
  exact List.foldl_hom (modPlanner (marked m)) fun t c => lossTold_marked m n s t c

namespace Alike

variable {k k' : State}

theorem lossTold (h : Alike k k') (n : Fin 8) (s : State) (c : Fin 4) : Alike (lossTold n s k c) (lossTold n s k' c) := by
  refine ite Iff.rfl (sendAll (tellQueue (notice ?_ _ _) _) _) h
  exact ⟨h.link, h.queue, h.letGo c, h.planner, h.bus, h.settings, h.timeBase⟩

theorem departureTold (h : Alike k k') (n : Fin 8) (s : State) : Alike (departureTold n s k) (departureTold n s k') :=
  foldl (fun _ _ c h => h.lossTold n s c) _ (h.masterCut n)

end Alike

/-! ## Presence loss (R30) -/

/-- A slot record whose card is gone, its pending change over. -/
def emptiedSlot (x : Slot) : Slot :=
  { x with state := .empty, present := false, fault := .none, change := .none, waiting := [] }

/-- The state of a presence loss before a departure is reported. -/
def emptying (n : Fin 8) (s : State) : State :=
  notice 5 [natByte n.val, s.slots[n].state.code, 0, 0]
    (sendAll (answers 0x86 [if s.slots[n].change = .attach then 4 else 0, 0] s.slots[n].waiting)
      (modSlot n emptiedSlot (modPlanner (marked n) (masterCut n s))))

theorem masterCut_modSlot (m n : Fin 8) (f : Slot → Slot) (s : State) :
    masterCut m (modSlot n f s) = modSlot n f (masterCut m s) := by
  obtain ⟨x, hx, hslot, h⟩ | ⟨hother, h⟩ := masterCut_cases m s
  · rw [h, masterCut_of_slot (s := modSlot n f s) hx hslot]
    rfl
  · rw [h, masterCut_of_other (s := modSlot n f s) hother]

theorem emptySlot_eq (n : Fin 8) (s : State) :
    emptySlot n s = if s.slots[n].state = .attached then reportDeparture n (emptying n s) else emptying n s := by
  have hslots : (masterCut n s).slots = s.slots := masterCut_touches n s .slots (by decide)
  have hstate : noticeSlotChange n s.slots[n].state .empty .presence
      (answerWaiting n (if s.slots[n].change = .attach then .badState else .ok)
        (loseTarget n (cutMaster n (modSlot n (fun x => { x with state := .empty, present := false, fault := .none }) s)))) =
      emptying n s := by
    rw [cutMaster_eq, masterCut_modSlot, loseTarget_eq, answerWaiting_eq]
    have hhead : (modPlanner (marked n) (modSlot n
        (fun x => { x with state := .empty, present := false, fault := .none }) (masterCut n s))).slots[n] =
          { s.slots[n] with state := .empty, present := false, fault := .none } := by
      rw [modPlanner_slots, modSlot_slots, upd_self, hslots]
    have hcode : (if s.slots[n].change = .attach then Status.badState else .ok).code =
        if s.slots[n].change = .attach then 4 else 0 := apply_ite Status.code _ _ _
    have hmod : modSlot n settled (modPlanner (marked n) (modSlot n
        (fun x => { x with state := .empty, present := false, fault := .none }) (masterCut n s))) =
          modSlot n emptiedSlot (modPlanner (marked n) (masterCut n s)) :=
      modSlot_modSlot n _ settled (modPlanner (marked n) (masterCut n s))
    rw [hhead, hcode, hmod]
    rfl
  rw [← hstate]
  rfl

section emptying

variable (n : Fin 8) (s : State)

theorem emptying_touches : Touches [.slots, .planner, .arb, .bus, .link] s (emptying n s) := by
  have hcut := (masterCut_touches n s).mono (m := [.slots, .planner, .arb, .bus, .link])
  have hmarked := hcut.trans (touches_planner (masterCut n s) (marked n (masterCut n s).planner))
  have hslots := hmarked.trans (touches_slots (modPlanner (marked n) (masterCut n s))
    (upd (masterCut n s).slots n emptiedSlot))
  exact (hslots.trans ((sendAll_touches _ _).mono)).trans ((notice_touches _ _ _).mono)

theorem emptying_slots : (emptying n s).slots = upd s.slots n emptiedSlot := by
  rw [emptying, notice_slots, sendAll_slots, modSlot_slots, modPlanner_slots,
    (masterCut_touches n s .slots (by decide) : (masterCut n s).slots = s.slots)]

theorem emptying_planner : (emptying n s).planner = marked n (masterCut n s).planner := by
  rw [emptying, notice_planner, sendAll_planner, modSlot_planner]
  rfl

theorem emptying_bus : (emptying n s).bus = (masterCut n s).bus := by
  rw [emptying, notice_bus, sendAll_bus, modSlot_bus]
  rfl

theorem emptying_arb : (emptying n s).arb = (masterCut n s).arb := by
  rw [emptying, notice_arb, sendAll_arb, modSlot_arb]
  rfl

theorem emptying_channelCycle (c : Fin 4) : channelCycle (emptying n s) c = channelCycle s c := by
  have hcut : channelCycle (masterCut n s) c = channelCycle s c := by rw [channelCycle, masterCut_cycle, channelCycle]
  rw [← hcut, ← channelCycle_marked n (masterCut n s) c, channelCycle, emptying_planner]
  rfl

/-- The SLOT_CHANGE notice of a presence loss, after the requests that waited (R30). -/
def emptiedTold : State :=
  notice 5 [natByte n.val, s.slots[n].state.code, 0, 0]
    (sendAll (answers 0x86 [if s.slots[n].change = .attach then 4 else 0, 0] s.slots[n].waiting) s)

/-- Handing frames over and a cut do not meet. -/
theorem sendAll_masterCut (fs : List Frame) : sendAll fs (masterCut n s) = masterCut n (sendAll fs s) := by
  have hplanner : (sendAll fs s).planner = s.planner := sendAll_planner fs s
  obtain ⟨m, hm, hslot, h⟩ | ⟨hother, h⟩ := masterCut_cases n s
  · rw [h, masterCut_of_slot (hplanner ▸ hm) hslot]
    by_cases hready : s.link.ready = true
    · rw [sendAll_of_ready hready, sendAll_of_ready (s := masterLost s) hready]
      rfl
    · rw [sendAll, sendAll, if_neg hready, if_neg (c := (masterLost s).link.ready = true) hready]
  · rw [h, masterCut_of_other (hplanner ▸ hother)]

theorem emptying_alike : Alike (emptying n s) (masterCut n (modPlanner (marked n) (emptiedTold n s))) := by
  have hslots := (((Alike.refl (modPlanner (marked n) (masterCut n s))).modSlot n emptiedSlot).sendAll
    (answers 0x86 [if s.slots[n].change = .attach then 4 else 0, 0] s.slots[n].waiting)).notice 5
      [natByte n.val, s.slots[n].state.code, 0, 0]
  have hcut := (Alike.notice_masterCut n 5 [natByte n.val, s.slots[n].state.code, 0, 0]
    (sendAll (answers 0x86 [if s.slots[n].change = .attach then 4 else 0, 0] s.slots[n].waiting) s)).modPlanner (marked n)
  rw [← marked_masterCut]
  rw [(aside_modPlanner _).sendAll, (aside_modPlanner _).notice, sendAll_masterCut] at hslots
  exact hslots.trans hcut

end emptying

/-- A presence loss of an ATTACHED slot, as it is told. -/
theorem emptySlot_alike_of_attached {n : Fin 8} {s : State} (h : s.slots[n].state = .attached) :
    Alike (emptySlot n s) (modPlanner (marked n) (departureTold n s (emptiedTold n s))) := by
  have hchannels : (emptying n s).channels = s.channels := emptying_touches n s .channels (by decide)
  rw [emptySlot_eq, if_pos h, ← departureTold_marked]
  exact reportDeparture_alike_departureTold hchannels (emptying_channelCycle n s) (emptying_alike n s)

theorem emptySlot_of_other {n : Fin 8} {s : State} (h : s.slots[n].state ≠ .attached) : emptySlot n s = emptying n s := by
  rw [emptySlot_eq, if_neg h]

section emptySlot

variable (n : Fin 8) (s : State)

theorem emptySlot_slots : (emptySlot n s).slots = upd s.slots n emptiedSlot := by
  rw [emptySlot_eq, ← emptying_slots]
  split
  · exact reportDeparture_touches n _ .slots (by decide)
  · rfl

theorem emptySlot_planner : (emptySlot n s).planner = marked n (masterCut n s).planner := by
  rw [emptySlot_eq, ← emptying_planner]
  split
  · exact reportDeparture_touches n _ .planner (by decide)
  · rfl

theorem emptySlot_bus : (emptySlot n s).bus = (masterCut n s).bus := by
  rw [emptySlot_eq, ← emptying_bus]
  split
  · exact reportDeparture_touches n _ .bus (by decide)
  · rfl

theorem emptySlot_departs (h : s.slots[n].state = .attached) : SlotDeparted n s (emptySlot n s) := by
  have hchannels : (emptying n s).channels = s.channels := emptying_touches n s .channels (by decide)
  have hlines : (emptying n s).lineSlots = s.lineSlots := emptying_touches n s .lineSlots (by decide)
  rw [emptySlot_eq, if_pos h]
  refine ⟨fun l k => ?_, fun c => ?_⟩
  · rw [reportDeparture_lineSlots, hlines]
  · have hgone : (∃ x, (emptying n s).planner.cycle = some x ∧ x.initiator = .channel c) ↔
        ∃ x, s.planner.cycle = some x ∧ x.initiator = .channel c := by
      rw [← channelCycle_iff, emptying_channelCycle, channelCycle_iff]
    rw [reportDeparture_channels]
    simp only [afterLoss, ownerGone, hchannels, hgone]

end emptySlot

/-- Settles O21: an arrival moves an EMPTY slot; a loss is `emptySlot`, whose fields and frames stand above. -/
theorem presenceMovesSlots : Obligations.PresenceMovesSlots := by
  unfold Obligations.PresenceMovesSlots
  refine ⟨fun n s => rfl, fun n s hempty => congrArg _ (if_pos hempty), fun n s hstate => ?_⟩
  have hlost (u : State) (hu : u = { s with cards := upd s.cards n fun _ => quietCard }) :
      exec (.presenceLoss n) s = .next (settle (emptySlot n u)) ∧
        Alike (emptiedTold n u) (emptiedTold n s) ∧ Alike u s := by
    have hsame : Alike u s := hu ▸ Alike.of_touches (touches_cards (l := [.cards]) s _)
    subst hu
    exact ⟨congrArg _ (if_neg hstate), (hsame.sendAll _).notice 5 _, hsame⟩
  obtain ⟨hexec, htold, hsame⟩ := hlost _ rfl
  generalize hu : ({ s with cards := upd s.cards n fun _ => quietCard } : State) = u at hexec htold hsame
  have hplanner : (masterCut n u).planner = (masterCut n s).planner := (hsame.masterCut n).planner
  have hbus : (emptySlot n u).bus = (masterCut n s).bus := (emptySlot_bus n u).trans (hsame.masterCut n).bus
  obtain ⟨hbusOther, hbusSlot⟩ := masterCut_bus n s
  have htouches : Touches [.slots, .cards, .planner, .arb, .bus, .link, .lineSlots, .channels, .queue] s (emptySlot n u) := by
    have hcards := touches_cards (l := [.cards]) s (upd s.cards n fun _ => quietCard)
    rw [hu] at hcards
    exact (hcards.mono (by decide)).trans ((emptySlot_touches n u).mono (by decide))
  refine ⟨emptySlot n u, hexec, htouches, ?_, ?_, ?_, fun h => hbus.trans (hbusOther h),
    fun m hm h => hbus.trans (hbusSlot m hm h), fun hattached => ?_, fun hother => ?_, fun moved hmoved => ⟨fun hattached => ?_, fun hother => ?_⟩⟩
  · rw [emptySlot_slots, ← hu]
    rfl
  · rw [(emptySlot_touches n u .cards (by decide) : (emptySlot n u).cards = u.cards), ← hu]
  · rw [emptySlot_planner, hplanner, masterCut_planner]
    rfl
  · rw [← hu]
    exact emptySlot_departs n { s with cards := upd s.cards n fun _ => quietCard } hattached
  · have hu' : u.slots[n].state ≠ .attached := hu ▸ hother
    rw [emptySlot_of_other hu', (emptying_touches n u .channels (by decide) : (emptying n u).channels = u.channels),
      (emptying_touches n u .lineSlots (by decide) : (emptying n u).lineSlots = u.lineSlots), ← hu]
    exact ⟨rfl, rfl⟩
  · have hu' : u.slots[n].state = .attached := hu ▸ hattached
    have hdepart : departureTold n u = departureTold n s := by rw [← hu]; rfl
    have halike := emptySlot_alike_of_attached hu'
    have hdeparted := htold.departureTold n s
    rw [hdepart] at halike
    rw [hmoved]
    exact ⟨halike.link.trans hdeparted.link, halike.queue.trans hdeparted.queue, halike.arb.trans hdeparted.arb⟩
  · have hu' : u.slots[n].state ≠ .attached := hu ▸ hother
    have halike := emptying_alike n u
    have hcut := masterCut_touches n (modPlanner (marked n) (emptiedTold n u))
    rw [emptySlot_of_other hu', emptying_arb, (hsame.masterCut n).arb]
    refine ⟨(halike.link.trans (hcut .link (by decide))).trans (htold.link.trans (hmoved ▸ rfl)),
      (halike.queue.trans (hcut .queue (by decide))).trans (htold.queue.trans ?_), rfl⟩
    rw [emptiedTold, notice_queue, sendAll_queue]

end Sys2Proof.Machine
end

section
/-! PROOFS. O32: the master hold limit faults the channel and its owner slot (R36, R59, R61). -/

namespace Sys2Proof.Machine

set_option Elab.async false

/-! ## A slot that faults (R36) -/

/-- A slot record at the hold limit. -/
def faultedSlot (x : Slot) : Slot := { x with state := .faulted, fault := .holdLimit }

/-- The state of a hold-limit fault before the departure is reported. -/
def faulting (n : Fin 8) (s : State) : State :=
  notice 5 [natByte n.val, 2, 3, 2] (modSlot n faultedSlot (modPlanner (marked n) (masterCut n s)))

theorem faultSlot_of_attached {n : Fin 8} {s : State} (h : s.slots[n].state = .attached) :
    faultSlot n s =
      if cycleRunning (reportDeparture n (faulting n s)) then reportDeparture n (faulting n s)
      else changeDue n (reportDeparture n (faulting n s)) := by
  have hstate : noticeSlotChange n .attached .faulted .holdLimit
      (loseTarget n (cutMaster n (modSlot n (fun x => { x with state := .faulted, fault := .holdLimit }) s))) =
        faulting n s := by
    rw [cutMaster_eq, masterCut_modSlot, loseTarget_eq]
    rfl
  rw [← hstate, faultSlot, if_pos h]

section faulting

variable (n : Fin 8) (s : State)

theorem faulting_touches : Touches [.slots, .planner, .arb, .bus, .link] s (faulting n s) := by
  have hcut := (masterCut_touches n s).mono (m := [.slots, .planner, .arb, .bus, .link])
  have hmarked := hcut.trans (touches_planner (masterCut n s) (marked n (masterCut n s).planner))
  have hslots := hmarked.trans (touches_slots (modPlanner (marked n) (masterCut n s))
    (upd (masterCut n s).slots n faultedSlot))
  exact hslots.trans ((notice_touches _ _ _).mono)

theorem faulting_slots : (faulting n s).slots = upd s.slots n faultedSlot := by
  rw [faulting, notice_slots, modSlot_slots, modPlanner_slots,
    (masterCut_touches n s .slots (by decide) : (masterCut n s).slots = s.slots)]

theorem faulting_planner : (faulting n s).planner = marked n (masterCut n s).planner := by
  rw [faulting, notice_planner, modSlot_planner]
  rfl

theorem faulting_bus : (faulting n s).bus = (masterCut n s).bus := by
  rw [faulting, notice_bus, modSlot_bus]
  rfl

theorem marked_channelCycle {t : State} (h : t.planner = marked n (masterCut n s).planner) (c : Fin 4) :
    channelCycle t c = channelCycle s c := by
  have hcut : channelCycle (masterCut n s) c = channelCycle s c := by rw [channelCycle, masterCut_cycle, channelCycle]
  rw [← hcut, ← channelCycle_marked n (masterCut n s) c, channelCycle, h]
  rfl

theorem faulting_alike {k : State} (h : Alike s k) :
    Alike (faulting n s) (modPlanner (marked n) (masterCut n (notice 5 [natByte n.val, 2, 3, 2] k))) := by
  have hslots := ((Alike.refl (modPlanner (marked n) (masterCut n s))).modSlot n faultedSlot).notice 5
    [natByte n.val, 2, 3, 2]
  rw [(aside_modPlanner _).notice] at hslots
  exact hslots.trans (((Alike.notice_masterCut n 5 [natByte n.val, 2, 3, 2] s).trans
    ((h.notice 5 _).masterCut n)).modPlanner _)

end faulting

/-! ## The fault with its departure reported -/

/-- The slot FAULTED, its departure reported; a change that waits has yet to fall due. -/
def faultReported (n : Fin 8) (s : State) : State := reportDeparture n (faulting n s)

section faultReported

variable (n : Fin 8) (s : State)

theorem faultReported_slots : (faultReported n s).slots = upd s.slots n faultedSlot := by
  rw [← faulting_slots]
  exact reportDeparture_touches n _ .slots (by decide)

theorem faultReported_planner : (faultReported n s).planner = marked n (masterCut n s).planner := by
  rw [← faulting_planner]
  exact reportDeparture_touches n _ .planner (by decide)

theorem faultReported_bus : (faultReported n s).bus = (masterCut n s).bus := by
  rw [← faulting_bus]
  exact reportDeparture_touches n _ .bus (by decide)

theorem faultReported_channels (c : Fin 4) : (faultReported n s).channels[c] = afterLoss n s c := by
  have hchannels : (faulting n s).channels = s.channels := faulting_touches n s .channels (by decide)
  have hgone : (∃ x, (faulting n s).planner.cycle = some x ∧ x.initiator = .channel c) ↔
      ∃ x, s.planner.cycle = some x ∧ x.initiator = .channel c := by
    rw [← channelCycle_iff, marked_channelCycle n s (faulting_planner n s), channelCycle_iff]
  rw [faultReported, reportDeparture_channels]
  simp only [afterLoss, ownerGone, hchannels, hgone]

theorem faultReported_lineSlots (l : Fin 12) (k : Fin 8) :
    (faultReported n s).lineSlots[l][k] = if k = n then quietLine s.lineSlots[l][k] else s.lineSlots[l][k] := by
  have hlines : (faulting n s).lineSlots = s.lineSlots := faulting_touches n s .lineSlots (by decide)
  rw [faultReported, reportDeparture_lineSlots, hlines]

theorem faultReported_alike {s u k : State} (hchannels : s.channels = u.channels)
    (hcycle : ∀ c, channelCycle s c = channelCycle u c) (h : Alike s k) :
    Alike (faultReported n s) (modPlanner (marked n) (departureTold n u (notice 5 [natByte n.val, 2, 3, 2] k))) := by
  have hsame : (faulting n s).channels = s.channels := faulting_touches n s .channels (by decide)
  have htold := reportDeparture_alike_departureTold (n := n) (s := u) (u := faulting n s)
    (k := modPlanner (marked n) (notice 5 [natByte n.val, 2, 3, 2] k)) (hsame.trans hchannels)
    (fun c => (marked_channelCycle n s (faulting_planner n s) c).trans (hcycle c))
    (by rw [← marked_masterCut]; exact faulting_alike n s h)
  rw [departureTold_marked] at htold
  exact htold

/-- No RUNNING channel of the slot is left. -/
theorem faultReported_not_ownsTransfer : ¬ OwnsTransfer (faultReported n s) n := by
  rintro ⟨c, hrun, howner, -⟩
  rw [faultReported_channels] at hrun howner
  rw [afterLoss_owner] at howner
  unfold afterLoss ownerGone at hrun
  split at hrun
  · split at hrun <;> exact nomatch hrun
  · next hnot => exact hnot ⟨hrun, howner⟩

end faultReported

/-- The change that waits at a slot that has faulted: an ISOLATE is made, an ATTACH is not (log entry 15). -/
theorem changeDue_faultReported (n : Fin 8) (s : State) : changeDue n (faultReported n s) =
    if s.slots[n].change = .none then faultReported n s
    else if s.slots[n].change = .isolate then
      sendAll (answers 0x86 [0, 1] s.slots[n].waiting)
        (modSlot n isolatedSlot (notice 5 [natByte n.val, 3, 1, 1] (faultReported n s)))
    else sendAll (answers 0x86 [4, 3] s.slots[n].waiting) (modSlot n settled (faultReported n s)) := by
  have hslot : (faultReported n s).slots[n] = faultedSlot s.slots[n] := by rw [faultReported_slots, upd_self]
  have hchange : (faultReported n s).slots[n].change = s.slots[n].change := by rw [hslot]; rfl
  have hstate : (faultReported n s).slots[n].state = .faulted := by rw [hslot]; rfl
  have hwaiting : (faultReported n s).slots[n].waiting = s.slots[n].waiting := by rw [hslot]; rfl
  have hattach : mayAttach (faultReported n s) n = false := by rw [mayAttach, hstate]; exact Bool.and_false _
  have howns : ownsTransfer (faultReported n s) n = false :=
    Bool.eq_false_iff.mpr fun ho => faultReported_not_ownsTransfer n s ((ownsTransfer_iff _ n).mp ho)
  rw [changeDue, hchange]
  cases s.slots[n].change with
  | none => rfl
  | isolate =>
    simp only [howns, isolatePending, hstate, isolateFaulted_eq, hwaiting, reduceCtorEq, if_false, if_true,
      Bool.false_eq_true]
  | attach =>
    simp only [hattach, answerWaiting_eq, hstate, hwaiting, reduceCtorEq, if_false, Bool.false_eq_true]
    rfl

/-! ## The cascade grant that ends stays ended -/

/-- Neither the grant in force nor the hold is channel `n`'s cascade. -/
def NoCascade (n : Fin 4) (a : Arbiter) : Prop := a.grant ≠ some n ∧ a.hold ≠ .cascade n

theorem NoCascade.letsGo {n : Fin 4} {a : Arbiter} (h : NoCascade n a) (c : Fin 4) (runs strobe : Bool) :
    NoCascade n (letsGo c runs strobe a) := by
  obtain ⟨hgrant, hhold⟩ := h
  refine ⟨?_, ?_⟩
  · simp only [Machine.letsGo]
    split
    · exact nofun
    · exact hgrant
  · simp only [Machine.letsGo]
    split
    · exact nofun
    · exact hhold

theorem NoCascade.masterCut {n : Fin 4} {s : State} (h : NoCascade n s.arb) (m : Fin 8) :
    NoCascade n (masterCut m s).arb := by
  obtain ⟨x, hx, hslot, hcut⟩ | ⟨hother, hcut⟩ := masterCut_cases m s
  · rw [hcut]
    refine ⟨h.1, ?_⟩
    show (if s.arb.grant = none then Hold.none else s.arb.hold) ≠ .cascade n
    split
    · exact nofun
    · exact h.2
  · rw [hcut]
    exact h

theorem NoCascade.departureTold {n : Fin 4} {k : State} (h : NoCascade n k.arb) (m : Fin 8) (s : State) :
    NoCascade n (departureTold m s k).arb := by
  rw [departureTold_eq]
  refine List.foldlRecOn (motive := fun t : State => NoCascade n t.arb) allFour _ (h.masterCut m) fun t ht c _ => ?_
  unfold lossTold
  split
  · rw [sendAll_arb, tellQueue_arb, notice_arb]
    exact ht.letsGo c _ _
  · exact ht

/-! ## The expiry (R61) -/

/-- The arbiter with the hold timer stopped, and with no master of channel `n` as owner. -/
def timerOver (n : Fin 4) (a : Arbiter) : Arbiter :=
  { a with timerChannel := none, timerElapsed := 0, owner := if a.owner = .master n then .none else a.owner }

/-- The grant in force and the hold of channel `n`'s cascade end. -/
def cascadeGone (n : Fin 4) (a : Arbiter) : Arbiter :=
  { a with
    grant := if a.grant = some n then none else a.grant
    hold := if a.hold = .cascade n then .none else a.hold }

theorem noCascade_cascadeGone (n : Fin 4) (a : Arbiter) : NoCascade n (cascadeGone n a) := by
  refine ⟨?_, ?_⟩
  · simp only [cascadeGone]
    split
    · exact nofun
    · assumption
  · simp only [cascadeGone]
    split
    · exact nofun
    · assumption

/-- The channel of the hold timer has faulted (R61, R103). -/
def limitFault (n : Fin 4) (s : State) : State := faultChannel n .holdLimit (modArb (cascadeGone n) s)

theorem holdExpired_of_timer {s : State} {n : Fin 4} (htimer : s.arb.timerChannel = some n)
    (hlimit : s.arb.timerLimit ≠ 0) :
    holdExpired s = settle (modArb (timerOver n) (faultSlot s.channels[n].owner (limitFault n s))) := by
  simp only [holdExpired, htimer, if_neg hlimit]
  rfl

section limitFault

variable (n : Fin 4) (s : State)

/-- The arbiter once the channel has faulted. -/
def limitArb : Arbiter :=
  if s.channels[n].state = .running then
    letsGo n s.planner.cycle.isSome s.planner.master.isSome (cascadeGone n s.arb)
  else cascadeGone n s.arb

theorem noCascade_limitArb : NoCascade n (limitArb n s) := by
  unfold limitArb
  split
  · exact (noCascade_cascadeGone n s.arb).letsGo n _ _
  · exact noCascade_cascadeGone n s.arb

/-- The channel contexts once it has faulted. -/
def limitChannels : Vector Channel 4 :=
  upd s.channels n fun c => if c.state = .running then stopped c .faulted .holdLimit else c

/-- The state with what the fault tells: its notice, and the queue. -/
def limitTold : State :=
  if s.channels[n].state = .running then tellQueue n (notice 2 (faultFields n .holdLimit s.channels[n]) s) else s

theorem limitFault_touches : Touches [.channels, .arb, .link, .queue] s (limitFault n s) := by
  have harb := touches_arb (l := [.channels, .arb, .link, .queue]) s (cascadeGone n s.arb)
  exact harb.trans ((faultChannel_touches n .holdLimit _).mono)

theorem limitFault_channels : (limitFault n s).channels = limitChannels n s := by
  unfold limitFault limitChannels
  by_cases hrun : s.channels[n].state = .running
  · rw [faultChannel_of_running (s := modArb (cascadeGone n) s) hrun, tellQueue_channels, notice_channels]
    exact upd_congr (f := fun c => stopped c .faulted .holdLimit) (if_pos hrun).symm
  · rw [faultChannel_of_not_running (s := modArb (cascadeGone n) s) hrun]
    exact (upd_of_eq (if_neg hrun)).symm

theorem limitFault_alike : Alike (limitFault n s) { limitTold n s with arb := limitArb n s } := by
  unfold limitFault limitTold limitArb
  by_cases hrun : s.channels[n].state = .running
  · rw [faultChannel_of_running (s := modArb (cascadeGone n) s) hrun, if_pos hrun, if_pos hrun]
    have haside := aside_arb_channels (letGo n (modArb (cascadeGone n) s))
      (upd s.channels n fun c => stopped c .faulted .holdLimit)
    have htold : tellQueue n (notice 2 (faultFields n .holdLimit s.channels[n]) { s with
        arb := letGo n (modArb (cascadeGone n) s), channels := upd s.channels n fun c => stopped c .faulted .holdLimit }) =
        { tellQueue n (notice 2 (faultFields n .holdLimit s.channels[n]) s) with
          arb := letGo n (modArb (cascadeGone n) s)
          channels := upd s.channels n fun c => stopped c .faulted .holdLimit } := by
      rw [haside.notice, haside.tellQueue]
    have halike : Alike (tellQueue n (notice 2 (faultFields n .holdLimit s.channels[n]) { s with
        arb := letGo n (modArb (cascadeGone n) s), channels := upd s.channels n fun c => stopped c .faulted .holdLimit }))
        { tellQueue n (notice 2 (faultFields n .holdLimit s.channels[n]) s) with
          arb := letGo n (modArb (cascadeGone n) s) } := by
      rw [htold]
      exact ⟨rfl, rfl, rfl, rfl, rfl, rfl, rfl⟩
    exact halike
  · rw [faultChannel_of_not_running (s := modArb (cascadeGone n) s) hrun, if_neg hrun, if_neg hrun]
    exact .refl _

/-- The fault changes no cycle. -/
theorem limitFault_planner : (limitFault n s).planner = s.planner := limitFault_touches n s .planner (by decide)

theorem limitChannels_self : (limitChannels n s)[n] =
    if s.channels[n].state = .running then stopped s.channels[n] .faulted .holdLimit else s.channels[n] := by
  rw [limitChannels, upd_self]

theorem limitChannels_other {m : Fin 4} (hm : m ≠ n) : (limitChannels n s)[m] = s.channels[m] := by
  rw [limitChannels, upd_other _ _ _ _ hm.symm]

/-- The faulted channel is not RUNNING, so that its owner's departure finds it as it is. -/
theorem limitChannels_not_running : (limitChannels n s)[n].state ≠ .running := by
  rw [limitChannels_self]
  split
  · exact nofun
  · assumption

end limitFault

/-! ## The owner slot's part -/

/-- The state in which the departure of the owner slot is told: the faulted channel is no longer RUNNING. -/
def others (n : Fin 4) (s : State) : State := { s with channels := limitChannels n s }

/-- What the expiry tells at an ATTACHED owner slot, up to a change that waits there. -/
def limitDeparted (n : Fin 4) (s : State) : State :=
  departureTold s.channels[n].owner (others n s)
    (notice 5 [natByte s.channels[n].owner.val, 2, 3, 2] { limitTold n s with arb := limitArb n s })

/-- The state once the owner slot has faulted, its departure reported. -/
def limitReported (n : Fin 4) (s : State) : State := faultReported s.channels[n].owner (limitFault n s)

section

variable (n : Fin 4) (s : State)

theorem limitReported_alike :
    Alike (limitReported n s) (modPlanner (marked s.channels[n].owner) (limitDeparted n s)) := by
  refine faultReported_alike s.channels[n].owner (u := others n s) (limitFault_channels n s) (fun c => ?_)
    (limitFault_alike n s)
  rw [channelCycle, limitFault_planner]
  rfl

theorem limitReported_slots : (limitReported n s).slots = upd s.slots s.channels[n].owner faultedSlot := by
  rw [limitReported, faultReported_slots, (limitFault_touches n s .slots (by decide) : (limitFault n s).slots = s.slots)]

theorem limitReported_planner :
    (limitReported n s).planner = marked s.channels[n].owner (masterCut s.channels[n].owner s).planner := by
  rw [limitReported, faultReported_planner, masterCut_planner, masterCut_planner, limitFault_planner]

theorem limitFault_bus : (limitFault n s).bus = s.bus := limitFault_touches n s .bus (by decide)

theorem limitReported_bus (m : Fin 8) (hm : m = s.channels[n].owner) :
    ((∀ x, s.planner.master = some x → x.slot ≠ m) → (limitReported n s).bus = s.bus) ∧
      ∀ x, s.planner.master = some x → x.slot = m → (limitReported n s).bus = { s.bus with clock := s.settings.clock } := by
  have hsettings : (limitFault n s).settings = s.settings := limitFault_touches n s .settings (by decide)
  obtain ⟨hother, hslot⟩ := masterCut_bus s.channels[n].owner (limitFault n s)
  rw [limitFault_planner, limitFault_bus] at hother hslot
  rw [hsettings] at hslot
  rw [limitReported, faultReported_bus, hm]
  exact ⟨hother, hslot⟩

theorem limitReported_channels (c : Fin 4) : (limitReported n s).channels[c] =
    if c = n then (limitChannels n s)[n] else afterLoss s.channels[n].owner s c := by
  have hchannels := limitFault_channels n s
  rw [limitReported, faultReported_channels]
  by_cases hc : c = n
  · subst hc
    rw [if_pos rfl, afterLoss, hchannels, if_neg fun hl => limitChannels_not_running c s hl.1]
  · rw [if_neg hc]
    exact afterLoss_congr (by rw [hchannels, limitChannels_other n s hc]) (by rw [limitFault_planner])

theorem limitReported_lineSlots (l : Fin 12) (k : Fin 8) : (limitReported n s).lineSlots[l][k] =
    if k = s.channels[n].owner then quietLine s.lineSlots[l][k] else s.lineSlots[l][k] := by
  rw [limitReported, faultReported_lineSlots,
    (limitFault_touches n s .lineSlots (by decide) : (limitFault n s).lineSlots = s.lineSlots)]

end

/-- A change waits at the slot that faults, and falls due at once (log entry 15). -/
def movesOn (n : Fin 4) (s : State) : Bool :=
  decide (s.slots[s.channels[n].owner].change ≠ .none ∧ s.planner.cycle = none)

/-- The state after a change at the slot that has faulted. -/
def limitMoved (n : Fin 4) (s : State) : State :=
  let slot := s.channels[n].owner
  if movesOn n s then
    if s.slots[slot].change = .isolate then
      sendAll (answers 0x86 [0, 1] s.slots[slot].waiting)
        (modSlot slot isolatedSlot (notice 5 [natByte slot.val, 3, 1, 1] (limitReported n s)))
    else sendAll (answers 0x86 [4, 3] s.slots[slot].waiting) (modSlot slot settled (limitReported n s))
  else limitReported n s

section

variable {n : Fin 4} {s : State}

theorem limitReported_cycleRunning : cycleRunning (limitReported n s) = s.planner.cycle.isSome := by
  have hcycle : (limitReported n s).planner.cycle =
      (masterCut s.channels[n].owner s).planner.cycle.map fun c =>
        if c.target = .slot s.channels[n].owner then { c with lost := true } else c :=
    congrArg Planner.cycle (limitReported_planner n s)
  rw [cycleRunning, hcycle, Option.isSome_map, masterCut_cycle]

theorem faultSlot_limitFault (h : s.slots[s.channels[n].owner].state = .attached) :
    faultSlot s.channels[n].owner (limitFault n s) = limitMoved n s := by
  have hslots : (limitFault n s).slots = s.slots := limitFault_touches n s .slots (by decide)
  have hstate : (limitFault n s).slots[s.channels[n].owner].state = .attached := by rw [hslots, h]
  have hdue := changeDue_faultReported s.channels[n].owner (limitFault n s)
  rw [hslots] at hdue
  rw [faultSlot_of_attached hstate]
  show (if cycleRunning (limitReported n s) then limitReported n s
    else changeDue s.channels[n].owner (limitReported n s)) = _
  have hdue' : changeDue s.channels[n].owner (limitReported n s) = _ := hdue
  rw [hdue', limitReported_cycleRunning, limitMoved, movesOn]
  cases hcycle : s.planner.cycle with
  | some c => simp
  | none =>
    by_cases hchange : s.slots[s.channels[n].owner].change = .none
    · rw [if_pos hchange]
      simp [hchange, -Fin.getElem_fin]
      rfl
    · rw [if_neg hchange]
      simp [hchange, -Fin.getElem_fin]
      rfl

theorem limitMoved_touches : Touches [.slots, .link] (limitReported n s) (limitMoved n s) := by
  have hslots (t : State) (f : Slot → Slot) (m : Fin 8) : Touches [.slots, .link] t (modSlot m f t) := touches_slots _ _
  unfold limitMoved
  refine .ite (.ite ?_ ?_) (.refl _ _)
  · exact (((notice_touches _ _ _).mono).trans (hslots _ _ _)).trans ((sendAll_touches _ _).mono)
  · exact (hslots _ _ _).trans ((sendAll_touches _ _).mono)

theorem limitMoved_slots : (limitMoved n s).slots = upd s.slots s.channels[n].owner fun x =>
    if movesOn n s then (if x.change = .isolate then isolatedSlot x else settled (faultedSlot x)) else faultedSlot x := by
  have hslots := limitReported_slots n s
  unfold limitMoved
  dsimp only
  by_cases hm : movesOn n s = true
  · rw [if_pos hm]
    by_cases hi : s.slots[s.channels[n].owner].change = .isolate
    · rw [if_pos hi, sendAll_slots, modSlot_slots, notice_slots, hslots, upd_upd]
      exact upd_congr (by simp only [hm, hi, if_true]; rfl)
    · rw [if_neg hi, sendAll_slots, modSlot_slots, hslots, upd_upd]
      exact upd_congr (by simp only [hm, hi, if_true, if_false])
  · rw [if_neg hm, hslots]
    exact upd_congr (by simp only [hm, if_false, Bool.false_eq_true])

theorem limitMoved_link : (limitMoved n s).link =
    (if movesOn n s then
      (if s.slots[s.channels[n].owner].change = .isolate then
        sendAll (answers 0x86 [0, 1] s.slots[s.channels[n].owner].waiting)
          (notice 5 [natByte s.channels[n].owner.val, 3, 1, 1] (limitDeparted n s))
       else sendAll (answers 0x86 [4, 3] s.slots[s.channels[n].owner].waiting) (limitDeparted n s))
     else limitDeparted n s).link := by
  have halike := limitReported_alike n s
  unfold limitMoved
  dsimp only
  by_cases hm : movesOn n s = true
  · rw [if_pos hm, if_pos hm]
    by_cases hi : s.slots[s.channels[n].owner].change = .isolate
    · have htold := ((halike.notice 5 [natByte s.channels[n].owner.val, 3, 1, 1]).modSlot s.channels[n].owner
        isolatedSlot).sendAll (answers 0x86 [0, 1] s.slots[s.channels[n].owner].waiting)
      rw [(aside_modPlanner _).notice, (aside_modPlanner _).sendAll] at htold
      rw [if_pos hi, if_pos hi]
      exact htold.link
    · have htold := (halike.modSlot s.channels[n].owner settled).sendAll
        (answers 0x86 [4, 3] s.slots[s.channels[n].owner].waiting)
      rw [(aside_modPlanner _).sendAll] at htold
      rw [if_neg hi, if_neg hi]
      exact htold.link
  · rw [if_neg hm, if_neg hm]
    exact halike.link

end

theorem faultSlot_of_other {n : Fin 8} {s : State} (h : s.slots[n].state ≠ .attached) : faultSlot n s = s := if_neg h

/-- Settles O32: the channel's fault, then the owner slot's, then the timer's end. -/
theorem holdTimerExpiryFaults : Obligations.HoldTimerExpiryFaults := by
  unfold Obligations.HoldTimerExpiryFaults
  refine ⟨fun s hnone => ?_, ?_⟩
  · refine congrArg Host.Outcome.next (?_ : holdExpired s = s)
    unfold holdExpired
    split
    · next n htimer =>
      have hzero : s.arb.timerLimit = 0 := hnone.resolve_left (by rw [htimer]; exact nofun)
      rw [if_pos hzero]
    · rfl
  intro s base n slot moves htimer hlimit hslot hmoves hbase gone after hgone hafter
  subst hslot
  have hmoves' : moves = movesOn n s := hmoves
  have hbase' : base = limitTold n s := hbase
  have hafter' : after = limitArb n s := by
    rw [hafter, hgone]
    rfl
  clear hmoves hbase hafter hgone
  subst hmoves' hbase' hafter'
  have hexec : exec .holdTimerExpiry s =
      .next (settle (modArb (timerOver n) (faultSlot s.channels[n].owner (limitFault n s)))) :=
    congrArg _ (holdExpired_of_timer htimer hlimit)
  have hnever (a : Arbiter) (ha : NoCascade n a) : (timerOver n a).timerChannel = none ∧
      (timerOver n a).timerElapsed = 0 ∧ (timerOver n a).grant ≠ some n ∧ (timerOver n a).hold ≠ .cascade n ∧
        (timerOver n a).owner ≠ .master n := by
    refine ⟨rfl, rfl, ha.1, ha.2, ?_⟩
    show (if a.owner = .master n then Owner.none else a.owner) ≠ .master n
    split
    · exact nofun
    · assumption
  have htouches : Touches [.slots, .planner, .arb, .bus, .link, .lineSlots, .channels, .queue] s
      (modArb (timerOver n) (faultSlot s.channels[n].owner (limitFault n s))) :=
    (((limitFault_touches n s).mono (by decide)).trans ((faultSlot_touches _ _).mono (by decide))).trans
      (touches_arb _ _)
  by_cases hattached : s.slots[s.channels[n].owner].state = .attached
  · have hmoved := limitMoved_touches (n := n) (s := s)
    have halike := limitReported_alike n s
    have harb : (limitMoved n s).arb = (limitDeparted n s).arb :=
      (hmoved .arb (by decide) : _ = (limitReported n s).arb).trans halike.arb
    have hqueue : (limitMoved n s).queue = (limitDeparted n s).queue :=
      (hmoved .queue (by decide) : _ = (limitReported n s).queue).trans halike.queue
    have hchannels : (limitMoved n s).channels = (limitReported n s).channels := hmoved .channels (by decide)
    have hlines : (limitMoved n s).lineSlots = (limitReported n s).lineSlots := hmoved .lineSlots (by decide)
    have hplanner : (limitMoved n s).planner = (limitReported n s).planner := hmoved .planner (by decide)
    have hbus : (limitMoved n s).bus = (limitReported n s).bus := hmoved .bus (by decide)
    obtain ⟨hbusOther, hbusSlot⟩ := limitReported_bus n s _ rfl
    rw [faultSlot_limitFault hattached] at hexec htouches
    obtain ⟨htimer0, helapsed, hgrant, hhold, howner⟩ :=
      hnever _ (NoCascade.departureTold (k := notice 5 [natByte s.channels[n].owner.val, 2, 3, 2]
        { limitTold n s with arb := limitArb n s }) (by rw [notice_arb]; exact noCascade_limitArb n s)
        s.channels[n].owner (others n s))
    have hgone : (departureTold s.channels[n].owner (others n s) (notice 5 [natByte s.channels[n].owner.val, 2, 3, 2]
        { limitTold n s with arb := limitArb n s })).arb = (limitMoved n s).arb := harb.symm
    rw [hgone] at htimer0 helapsed hgrant hhold howner
    refine ⟨_, hexec, htouches, htimer0, helapsed, hgrant, hhold, howner, ?_, fun _ => ⟨fun k hk => ?_, fun hm => ?_,
      fun hm hi => ?_, fun hm ha => ?_, fun m hm => ?_, fun l k => ?_, ?_, fun h => hbus.trans (hbusOther h),
      fun m hm h => hbus.trans (hbusSlot m hm h), fun o told ho htold => ?_⟩, fun hother => absurd hattached hother⟩
    · rw [modArb_channels, hchannels, limitReported_channels, if_pos rfl, limitChannels_self]
    · rw [modArb_slots, limitMoved_slots, upd_other _ _ _ _ hk.symm]
    · rw [modArb_slots, limitMoved_slots, upd_self, if_neg (by simp [hm])]
      rfl
    · rw [modArb_slots, limitMoved_slots, upd_self, if_pos hm, if_pos hi]
      rfl
    · rw [modArb_slots, limitMoved_slots, upd_self, if_pos hm, if_neg (by rw [ha]; decide)]
      rfl
    · rw [modArb_channels, hchannels, limitReported_channels, if_neg hm]
      rfl
    · rw [modArb_lineSlots, hlines, limitReported_lineSlots]
    · rw [modArb_planner, hplanner, limitReported_planner, masterCut_planner]
      rfl
    · have htold' : told = limitDeparted n s := by
        rw [htold, ho]
        rfl
      rw [htold']
      refine ⟨hqueue, ?_, limitMoved_link⟩
      rw [← harb]
      rfl
  · have hslots : (limitFault n s).slots = s.slots := limitFault_touches n s .slots (by decide)
    have hlineSlots : (limitFault n s).lineSlots = s.lineSlots := limitFault_touches n s .lineSlots (by decide)
    have halike := limitFault_alike n s
    rw [faultSlot_of_other (by rw [hslots]; exact hattached)] at hexec htouches
    obtain ⟨htimer0, helapsed, hgrant, hhold, howner⟩ := hnever _ (noCascade_limitArb n s)
    have harb : (limitFault n s).arb = limitArb n s := halike.arb
    rw [← harb] at htimer0 helapsed hgrant hhold howner
    refine ⟨_, hexec, htouches, htimer0, helapsed, hgrant, hhold, howner, ?_, fun ha => absurd ha hattached,
      fun _ => ⟨hslots, hlineSlots, limitFault_planner n s, limitFault_bus n s, fun m hm => ?_, halike.link,
        halike.queue, ?_⟩⟩
    · rw [modArb_channels, limitFault_channels, limitChannels_self]
    · rw [modArb_channels, limitFault_channels, limitChannels_other n s hm]
    · rw [← harb]
      rfl

end Sys2Proof.Machine
end

section
/-! PROOFS. The entry to OFF, RESETTING and DOWN (R24, R33, R34, R37, R65, R80, R104, R125, R141, R148): what it closes,
block by block, and what it hands to the link. -/

namespace Sys2Proof.Machine

set_option Elab.async false

/-! ## States that agree on the link -/

/-- Two states that agree on the link and on what a notice is made from. -/
structure Linked (s t : State) : Prop where
  link : s.link = t.link
  settings : s.settings = t.settings
  timeBase : s.timeBase = t.timeBase

namespace Linked

variable {s t u : State}

theorem refl (s : State) : Linked s s := ⟨rfl, rfl, rfl⟩

theorem trans (h : Linked s t) (k : Linked t u) : Linked s u :=
  ⟨h.link.trans k.link, h.settings.trans k.settings, h.timeBase.trans k.timeBase⟩

/-- A change of other fields. -/
theorem of_touches {l : List Field} (h : Touches l s t)
    (hl : Field.link ∉ l ∧ Field.settings ∉ l ∧ Field.timeBase ∉ l := by decide) : Linked t s :=
  ⟨h .link hl.1, h .settings hl.2.1, h .timeBase hl.2.2⟩

theorem sendAll (h : Linked s t) (fs : List Frame) : Linked (sendAll fs s) (sendAll fs t) := by
  refine ⟨?_, ?_, ?_⟩
  · simp only [Machine.sendAll, apply_ite State.link, h.link]
  · rw [sendAll_settings, sendAll_settings, h.settings]
  · rw [sendAll_timeBase, sendAll_timeBase, h.timeBase]

theorem notice (h : Linked s t) (kind : Nat) (fields : List Byte) :
    Linked (notice kind fields s) (notice kind fields t) := by
  refine ⟨notice_link_congr kind fields h.link h.settings h.timeBase, ?_, ?_⟩
  · rw [notice_settings, notice_settings, h.settings]
  · rw [notice_timeBase, notice_timeBase, h.timeBase]

end Linked

/-! ## The channels (R104) -/

/-- The arbiter names no channel. -/
structure ArbFree (a : Arbiter) : Prop where
  owner : a.owner = .none
  hold : a.hold = .none
  grant : a.grant = none
  timer : a.timerChannel = none

/-- Then no channel has anything to let go. -/
theorem letsGo_of_free {a : Arbiter} (h : ArbFree a) (n : Fin 4) (runs strobe : Bool) : letsGo n runs strobe a = a := by
  obtain ⟨howner, hhold, hgrant, htimer⟩ := h
  cases a
  dsimp only at howner hhold hgrant htimer
  subst howner hhold hgrant htimer
  simp [letsGo]

theorem letGo_of_free {s : State} (h : ArbFree s.arb) (n : Fin 4) : letGo n s = s.arb := letsGo_of_free h n _ _

/-- A channel context at the entry. -/
def closedChannel (c : Channel) : Channel :=
  if c.state = .running then { stopped c .idle .aborted with waiting := [] }
  else if c.waiting = [] then c
  else { stopped c .idle c.cause with finished := false, waiting := [] }

theorem closedChannel_not_running (c : Channel) : (closedChannel c).state ≠ .running := by
  unfold closedChannel
  split
  · exact nofun
  · split
    · assumption
    · exact nofun

theorem answers_nil (kind : Byte) (payload : List Byte) : answers kind payload [] = [] := rfl

/-- One channel at the entry. -/
theorem abortChannel_eq {s : State} (h : ArbFree s.arb) (n : Fin 4) :
    abortChannel n s = sendAll (answers 0x8C [0, 0] s.channels[n].waiting)
      { s with channels := upd s.channels n closedChannel } := by
  unfold abortChannel
  by_cases hrun : s.channels[n].state = .running
  · rw [if_pos hrun, answerClears_eq]
    simp only [modChannel, upd_upd, upd_self]
    have hclosed : (upd s.channels n fun c => { { c.left .idle with cause := .aborted } with waiting := [] }) =
        upd s.channels n closedChannel := upd_congr (if_pos hrun).symm
    rw [hclosed]
    rfl
  · rw [if_neg hrun]
    by_cases hw : s.channels[n].waiting = []
    · rw [finishClears_of_none hw, hw, answers_nil, sendAll_nil,
        upd_of_eq (f := closedChannel) ((if_neg hrun).trans (if_pos hw))]
    · have hclosed : (upd s.channels n fun c => { cleared c with waiting := [] }) = upd s.channels n closedChannel :=
        upd_congr ((if_neg hrun).trans (if_neg hw)).symm
      rw [finishClears_of_stopped hw hrun, letGo_of_free h, hclosed]

/-- The contexts of a list of channels closed. -/
def closeChannels (cs : List (Fin 4)) (v : Vector Channel 4) : Vector Channel 4 :=
  cs.foldl (fun v n => upd v n closedChannel) v

/-- The replies to the CLEARs that wait at a list of channels. -/
def clearsOf (cs : List (Fin 4)) (v : Vector Channel 4) : List Frame :=
  (cs.map fun n => answers 0x8C [0, 0] v[n].waiting).flatten

theorem aside_channels (v : Vector Channel 4) : Aside fun s => { s with channels := v } :=
  ⟨fun _ => rfl, fun _ => rfl, fun _ => rfl, fun _ => rfl, fun _ _ => rfl, fun _ _ => rfl⟩

theorem abortChannels_list : ∀ (cs : List (Fin 4)) {s : State}, cs.Nodup → ArbFree s.arb →
    cs.foldl (fun t n => abortChannel n t) s =
      sendAll (clearsOf cs s.channels) { s with channels := closeChannels cs s.channels }
  | [], s, _, _ => (sendAll_nil s).symm
  | n :: cs, s, hnodup, h => by
    obtain ⟨hn, hcs⟩ := List.nodup_cons.mp hnodup
    have hfree : ArbFree (abortChannel n s).arb := by
      rw [abortChannel_eq h, sendAll_arb]
      exact h
    have hrest : clearsOf cs (upd s.channels n closedChannel) = clearsOf cs s.channels := by
      refine congrArg List.flatten (List.map_congr_left fun m hm => ?_)
      rw [upd_other _ _ _ _ fun e : n = m => hn (e ▸ hm)]
    have hset (fs : List Frame) (v w : Vector Channel 4) : { sendAll fs { s with channels := v } with channels := w } =
        sendAll fs { s with channels := w } := ((aside_channels w).sendAll { s with channels := v } fs).symm
    rw [List.foldl_cons, abortChannels_list cs hcs hfree, abortChannel_eq h, sendAll_channels, hrest, hset,
      ← sendAll_append]
    rfl

theorem closeChannels_get : ∀ (cs : List (Fin 4)) (v : Vector Channel 4) (n : Fin 4), cs.Nodup →
    (closeChannels cs v)[n] = if n ∈ cs then closedChannel v[n] else v[n]
  | [], v, n, _ => by simp [closeChannels]
  | c :: cs, v, n, hnodup => by
    obtain ⟨hc, hcs⟩ := List.nodup_cons.mp hnodup
    have hcons : closeChannels (c :: cs) v = closeChannels cs (upd v c closedChannel) := rfl
    rw [hcons, closeChannels_get cs _ n hcs]
    by_cases hn : n = c
    · subst hn
      rw [if_neg hc, if_pos (List.mem_cons_self ..), upd_self]
    · rw [upd_other _ _ _ _ (Ne.symm hn)]
      simp only [List.mem_cons, hn, false_or]

theorem abortChannels_eq {s : State} (h : ArbFree s.arb) :
    abortChannels s = sendAll (clearReplies s) { s with channels := closeChannels allFour s.channels } :=
  abortChannels_list allFour (by decide) h

theorem closeChannels_all (v : Vector Channel 4) (n : Fin 4) : (closeChannels allFour v)[n] = closedChannel v[n] := by
  rw [closeChannels_get allFour v n (by decide), if_pos (by revert n; decide)]

/-! ## The slots (R33, R34, R37) -/

/-- Nothing on the card side is in progress: no channel is RUNNING, no master cycle runs. -/
structure CardQuiet (s : State) : Prop where
  channels : ∀ c : Fin 4, s.channels[c].state ≠ .running
  master : s.planner.master = none

/-- A departure in such a state touches the slot's line-slots alone. -/
theorem reportDeparture_of_quiet {s : State} (h : CardQuiet s) (n : Fin 8) : reportDeparture n s = dropSlotLines n s := by
  have hstays (cs : List (Fin 4)) : loseOwners n cs (dropSlotLines n s) = dropSlotLines n s :=
    List.foldlRecOn (motive := fun t => t = dropSlotLines n s) cs _ rfl fun t ht c _ => by
      rw [ht]
      exact if_neg fun hl => h.channels c hl.2
  exact hstays allFour

/-- One slot at the entry. -/
def closeSlot (new : BusState) (n : Fin 8) (s : State) : State :=
  if new = .resetting then changeCut n s else isolateForBus n s

/-- What one slot at the entry comes to: its record, the frames it hands over, and line-slots that may have dropped. -/
structure SlotClosedOut (new : BusState) (n : Fin 8) (s t : State) : Prop where
  slots : t.slots = upd s.slots n (slotClosed new)
  link : ∀ k, Linked s k → Linked t (slotTold new s k n)
  lines : ∀ (l : Fin 12) (m : Fin 8), quietLine t.lineSlots[l][m] = quietLine s.lineSlots[l][m]
  rest : Touches [.slots, .link, .lineSlots] s t

section

variable {new : BusState} {n : Fin 8} {s : State}

theorem Linked.modSlot {k : State} (h : Linked s k) (n : Fin 8) (f : Slot → Slot) : Linked (modSlot n f s) k :=
  ⟨h.link, h.settings, h.timeBase⟩

/-- An ATTACHED slot is isolated. -/
theorem isolateNow_closes (h : CardQuiet s) (hstate : s.slots[n].state = .attached) (cause : SlotCause)
    (hclosed : slotClosed new s.slots[n] = isolatedSlot s.slots[n])
    (hcause : cause.code = if decide (s.slots[n].state = .attached ∧ new ≠ .resetting) = true then 3 else 1)
    (hanswer : s.slots[n].change = .attach → new ≠ .resetting) :
    SlotClosedOut new n s (isolateNow n cause s) := by
  have hcut : isolating n cause s = notice 5 [natByte n.val, 2, 1, cause.code]
      (modSlot n (fun x => { x with state := .isolated, fault := .none }) s) := by
    have hmaster : (modSlot n (fun x => { x with state := .isolated, fault := .none }) s).planner.master = none := h.master
    rw [isolating, masterCut_of_other fun m hm => nomatch hmaster.symm.trans hm]
    rfl
  have hquiet : CardQuiet (isolating n cause s) := by
    refine ⟨fun c => ?_, ?_⟩
    · rw [isolating_channels]
      exact h.channels c
    · rw [hcut, notice_planner]
      exact h.master
  refine ⟨?_, fun k hk => ?_, fun l m => ?_, ?_⟩
  · rw [isolateNow_slots]
    exact upd_congr hclosed.symm
  · have hcode : (if s.slots[n].change = .attach ∧ decide (s.slots[n].state = .attached ∧ new ≠ .resetting) = false
        then (4 : Byte) else 0) = 0 := by
      refine if_neg fun hb => ?_
      exact of_decide_eq_false hb.2 ⟨hstate, hanswer hb.1⟩
    have htold : slotTold new s k n = sendAll (answers 0x86 [0, 1] s.slots[n].waiting)
        (notice 5 [natByte n.val, 2, 1, cause.code] k) := by
      have hmoves : (isolatedSlot s.slots[n]).state ≠ s.slots[n].state := by
        rw [hstate]
        exact nofun
      unfold slotTold
      dsimp only
      rw [hcode, hclosed, hcause, if_pos (show (isolatedSlot s.slots[n]).waiting = [] from rfl), if_neg hmoves, hstate]
      rfl
    rw [htold, isolateNow_eq, reportDeparture_of_quiet hquiet, hcut]
    refine (Linked.modSlot ((Linked.of_touches (dropSlotLines_touches n _)).trans ?_) n settled).sendAll _
    exact (hk.modSlot n _).notice _ _
  · rw [isolateNow_lineSlots]
    split <;> rfl
  · rw [isolateNow_eq, reportDeparture_of_quiet hquiet, hcut]
    have hslots (t : State) (f : Slot → Slot) : Touches [.slots, .link, .lineSlots] t (modSlot n f t) := touches_slots _ _
    exact ((((hslots _ _).trans ((notice_touches _ _ _).mono)).trans ((dropSlotLines_touches n _).mono)).trans
      (hslots _ _)).trans ((sendAll_touches _ _).mono)

/-- The requests that wait at a slot are answered, and it stays where it is. -/
theorem answerWaiting_closes (status : Status) (hclosed : slotClosed new s.slots[n] = settled s.slots[n])
    (hcode : status.code =
      if s.slots[n].change = .attach ∧ decide (s.slots[n].state = .attached ∧ new ≠ .resetting) = false then 4 else 0) :
    SlotClosedOut new n s (answerWaiting n status s) := by
  rw [answerWaiting_eq]
  refine ⟨?_, fun k hk => ?_, fun l m => ?_, ?_⟩
  · rw [sendAll_slots, modSlot_slots]
    exact upd_congr hclosed.symm
  · have htold : slotTold new s k n =
        sendAll (answers 0x86 [status.code, s.slots[n].state.code] s.slots[n].waiting) k := by
      simp only [slotTold, hclosed, hcode, settled, if_true]
    rw [htold]
    exact (hk.modSlot n settled).sendAll _
  · rw [sendAll_lineSlots, modSlot_lineSlots]
  · exact (touches_slots (l := [.slots, .link, .lineSlots]) s (upd s.slots n settled)).trans ((sendAll_touches _ _).mono)

/-- A FAULTED slot's ISOLATE that waits is made. -/
theorem isolateFaulted_closes (hstate : s.slots[n].state = .faulted) (hchange : s.slots[n].change = .isolate) :
    SlotClosedOut new n s (isolateFaulted n s) := by
  have hstays : ¬ (s.slots[n].state = .attached ∧ new ≠ .resetting) := fun ha => nomatch hstate.symm.trans ha.1
  have hclosed : slotClosed new s.slots[n] = isolatedSlot s.slots[n] := by
    rw [slotClosed, if_neg hstays, hchange]
    exact if_pos (.inr hstate)
  have htold (k : State) : slotTold new s k n = sendAll (answers 0x86 [0, 1] s.slots[n].waiting)
      (notice 5 [natByte n.val, 3, 1, 1] k) := by
    have hmoves : (isolatedSlot s.slots[n]).state ≠ s.slots[n].state := by
      rw [hstate]
      exact nofun
    unfold slotTold
    dsimp only
    rw [hclosed, if_pos (show (isolatedSlot s.slots[n]).waiting = [] from rfl), if_neg hmoves, decide_eq_false hstays,
      hchange, hstate]
    rfl
  rw [isolateFaulted_eq]
  refine ⟨?_, fun k hk => ?_, fun l m => ?_, ?_⟩
  · rw [sendAll_slots, modSlot_slots, notice_slots]
    exact upd_congr hclosed.symm
  · rw [htold]
    exact ((hk.notice _ _).modSlot n isolatedSlot).sendAll _
  · rw [sendAll_lineSlots, modSlot_lineSlots, notice_lineSlots]
  · have hslots (t : State) (f : Slot → Slot) : Touches [.slots, .link, .lineSlots] t (modSlot n f t) := touches_slots _ _
    exact (((notice_touches _ _ _).mono).trans (hslots _ _)).trans ((sendAll_touches _ _).mono)

/-- A slot with nothing to close. -/
theorem staysSlot_closes (hstate : ¬ (s.slots[n].state = .attached ∧ new ≠ .resetting))
    (hchange : s.slots[n].change = .none) : SlotClosedOut new n s s := by
  have hclosed : slotClosed new s.slots[n] = s.slots[n] := by
    rw [slotClosed, if_neg hstate, hchange]
  refine ⟨(upd_of_eq hclosed).symm, fun k hk => ?_, fun _ _ => rfl, .refl _ _⟩
  have htold : slotTold new s k n = k := by
    unfold slotTold
    dsimp only
    rw [hclosed, if_pos (c := s.slots[n].state = s.slots[n].state) rfl]
    by_cases hwaiting : s.slots[n].waiting = []
    · rw [if_pos hwaiting, hwaiting, answers_nil, sendAll_nil]
    · rw [if_neg hwaiting, sendAll_nil]
  rw [htold]
  exact hk

/-- A change that waits at a slot the bus does not isolate. -/
theorem changeCut_closes (h : CardQuiet s) (hstate : ¬ (s.slots[n].state = .attached ∧ new ≠ .resetting)) :
    SlotClosedOut new n s (changeCut n s) := by
  unfold changeCut
  split
  next hchange => exact staysSlot_closes hstate hchange
  next hchange =>
    have hclosed : slotClosed new s.slots[n] =
        if s.slots[n].state = .attached ∨ s.slots[n].state = .faulted then isolatedSlot s.slots[n]
        else settled s.slots[n] := by
      rw [slotClosed, if_neg hstate, hchange]
      rfl
    have hanswered (ha : s.slots[n].state ≠ .attached) (hf : s.slots[n].state ≠ .faulted) :
        SlotClosedOut new n s (answerWaiting n .ok s) :=
      answerWaiting_closes .ok (hclosed.trans (if_neg fun ho => ho.elim ha hf)) (by rw [hchange, if_neg nofun]; rfl)
    unfold isolatePending
    split
    next hs =>
      exact isolateNow_closes h hs .request (hclosed.trans (if_pos (.inl hs)))
        (by rw [decide_eq_false hstate]; rfl) (fun ha => nomatch hchange.symm.trans ha)
    next hs => exact isolateFaulted_closes hs hchange
    next hs => exact hanswered (by rw [hs]; exact nofun) (by rw [hs]; exact nofun)
    next hs => exact hanswered (by rw [hs]; exact nofun) (by rw [hs]; exact nofun)
  next hchange =>
    refine answerWaiting_closes .badState ?_ ?_
    · rw [slotClosed, if_neg hstate, hchange]
      rfl
    · rw [decide_eq_false hstate, hchange]
      rfl

theorem isolateForBus_of_other (h : s.slots[n].state ≠ .attached) : isolateForBus n s = changeCut n s := if_neg h

theorem closeSlot_closes (h : CardQuiet s) : SlotClosedOut new n s (closeSlot new n s) := by
  unfold closeSlot
  by_cases hnew : new = .resetting
  · rw [if_pos hnew]
    exact changeCut_closes h fun ha => ha.2 hnew
  · rw [if_neg hnew]
    by_cases hs : s.slots[n].state = .attached
    · rw [isolateForBus, if_pos hs]
      exact isolateNow_closes h hs .bus (if_pos ⟨hs, hnew⟩) (by rw [decide_eq_true ⟨hs, hnew⟩]; rfl) fun _ => hnew
    · rw [isolateForBus_of_other hs]
      exact changeCut_closes h fun ha => hs ha.1

end

/-- What a list of slots comes to at the entry, told from the state `r` before them. -/
structure SlotsClosedOut (new : BusState) (ns : List (Fin 8)) (r s t : State) : Prop where
  slots : ∀ m : Fin 8, t.slots[m] = if m ∈ ns then slotClosed new r.slots[m] else s.slots[m]
  link : ∀ k, Linked s k → Linked t (ns.foldl (slotTold new r) k)
  lines : ∀ (l : Fin 12) (m : Fin 8), quietLine t.lineSlots[l][m] = quietLine s.lineSlots[l][m]
  rest : Touches [.slots, .link, .lineSlots] s t

theorem CardQuiet.of_touches {s t : State} (h : CardQuiet s) (ht : Touches [.slots, .link, .lineSlots] s t) :
    CardQuiet t := by
  have hchannels : t.channels = s.channels := ht .channels (by decide)
  have hplanner : t.planner = s.planner := ht .planner (by decide)
  exact ⟨fun c => by rw [hchannels]; exact h.channels c, by rw [hplanner]; exact h.master⟩

theorem closeSlots (new : BusState) (r : State) : ∀ (ns : List (Fin 8)) {s : State}, ns.Nodup →
    (∀ n ∈ ns, s.slots[n] = r.slots[n]) → CardQuiet s →
    SlotsClosedOut new ns r s (ns.foldl (fun t n => closeSlot new n t) s)
  | [], s, _, _, _ => ⟨fun m => by simp, fun k hk => hk, fun _ _ => rfl, .refl _ _⟩
  | n :: ns, s, hnodup, hs, h => by
    obtain ⟨hn, hns⟩ := List.nodup_cons.mp hnodup
    obtain ⟨hslots, hlink, hlines, hrest⟩ := closeSlot_closes (new := new) (n := n) h
    have hhead : s.slots[n] = r.slots[n] := hs n (List.mem_cons_self ..)
    have hothers : ∀ m ∈ ns, (closeSlot new n s).slots[m] = r.slots[m] := fun m hm => by
      rw [hslots, upd_other _ _ _ _ (fun e : n = m => hn (e ▸ hm)), hs m (List.mem_cons_of_mem _ hm)]
    obtain ⟨ihslots, ihlink, ihlines, ihrest⟩ := closeSlots new r ns hns hothers (h.of_touches hrest)
    rw [List.foldl_cons]
    refine ⟨fun m => ?_, fun k hk => ?_, fun l m => (ihlines l m).trans (hlines l m), hrest.trans ihrest⟩
    · rw [ihslots]
      by_cases hm : m = n
      · subst hm
        rw [if_neg hn, if_pos (List.mem_cons_self ..), hslots, upd_self, hhead]
      · simp only [List.mem_cons, hm, false_or, hslots, upd_other _ _ _ _ (Ne.symm hm)]
    · have htold : slotTold new s k n = slotTold new r k n := by
        unfold slotTold
        rw [hhead]
      have hk' := hlink k hk
      rw [htold] at hk'
      exact ihlink _ hk'

/-- Every slot at the entry, slot 0 first. -/
def closeAllSlots (new : BusState) (s : State) : State :=
  if new = .resetting then changesCut s else isolateAll s

theorem closeAllSlots_out (new : BusState) {s : State} (h : CardQuiet s) :
    SlotsClosedOut new allSlots s s (closeAllSlots new s) := by
  have hall : closeAllSlots new s = allSlots.foldl (fun t n => closeSlot new n t) s := by
    unfold closeAllSlots closeSlot changesCut isolateAll
    by_cases hnew : new = .resetting
    · simp only [if_pos hnew]
    · simp only [if_neg hnew]
  rw [hall]
  exact closeSlots new s allSlots (by decide) (fun _ _ => rfl) h

/-! ## The entry (R24, R38) -/

/-- The state at the entry up to the arbiter: the change of bus state told, the cycles cut, the arbiter cleared. -/
def deadCut (new : BusState) (cause : BusCause) (s : State) : State :=
  applySettings (modArb clearArbiter (noticeBusState s.bus.state (cutCycles new (recordBus new cause s))))

theorem enterDead_eq (new : BusState) (cause : BusCause) (s : State) :
    enterDead new cause s = abortService (dropAllLines (closeAllSlots new (abortChannels (deadCut new cause s)))) := rfl

/-- What setting 3 leaves of a cleared arbiter. -/
def deadArb (s : State) : Arbiter :=
  { s.arb with
    owner := .none, hold := .none, grant := none, holdEnding := false, burst := 0, timerChannel := none,
    timerElapsed := 0, owed := 0, shortReported := false, interval := 0,
    intervalUse := if s.arb.intervalSet then s.settings.refresh else s.arb.intervalUse, intervalSet := false }

/-- What waits of settings 1 and 3 takes effect as the statements say (R44, R62). -/
theorem applySettings_eq (s : State) : applySettings s = settingsTaken s := by
  unfold applySettings applyInterval settingsTaken applyClock modBus modArb
  dsimp only
  split <;> rfl

section deadCut

variable (new : BusState) (cause : BusCause) (s : State)

/-- The change of bus state told, the cycles cut. -/
def deadTold : State := notice 4 [s.bus.state.code, new.code, cause.code] (cutCycles new (recordBus new cause s))

theorem deadCut_eq : deadCut new cause s = settingsTaken (modArb clearArbiter (deadTold new cause s)) :=
  applySettings_eq _

theorem deadTold_touches : Touches [.bus, .planner, .link] s (deadTold new cause s) :=
  ((touches_bus (l := [.bus, .planner, .link]) s _).trans (touches_planner (recordBus new cause s) _)).trans
    ((notice_touches _ _ _).mono)

theorem deadTold_linked {k : State} (h : Linked s k) :
    Linked (deadTold new cause s) (notice 4 [s.bus.state.code, new.code, cause.code] k) := by
  have hcut : Linked (cutCycles new (recordBus new cause s)) k := ⟨h.link, h.settings, h.timeBase⟩
  exact hcut.notice _ _

theorem deadCut_touches : Touches [.bus, .planner, .arb, .link] s (deadCut new cause s) :=
  (((deadTold_touches new cause s).mono).trans (touches_arb (deadTold new cause s) _)).trans
    ((applySettings_touches _).mono)

theorem deadCut_arb : (deadCut new cause s).arb = deadArb s := by
  have harb : (deadTold new cause s).arb = s.arb := deadTold_touches new cause s .arb (by decide)
  have hsettings : (deadTold new cause s).settings = s.settings := deadTold_touches new cause s .settings (by decide)
  rw [deadCut_eq]
  simp only [settingsTaken, modArb, harb, hsettings, deadArb, clearArbiter]
  by_cases hset : s.arb.intervalSet = true
  · simp [hset]
  · simp [hset]

theorem deadCut_bus : (deadCut new cause s).bus = { busChanged new cause s.bus with clock := s.settings.clock } := by
  have hbus : (deadTold new cause s).bus = busChanged new cause s.bus := notice_bus _ _ _
  have hsettings : (deadTold new cause s).settings = s.settings := deadTold_touches new cause s .settings (by decide)
  rw [deadCut_eq]
  simp only [settingsTaken, modArb, hbus, hsettings]

theorem deadCut_planner : (deadCut new cause s).planner = { s.planner with
    cycle := none, master := none, address := if new = .down then 0 else s.planner.address } := by
  have hplanner : (deadTold new cause s).planner = { s.planner with
      cycle := none, master := none, address := if new = .down then 0 else s.planner.address } := notice_planner _ _ _
  rw [deadCut_eq]
  exact hplanner

theorem deadCut_linked {k : State} (h : Linked s k) :
    Linked (deadCut new cause s) (notice 4 [s.bus.state.code, new.code, cause.code] k) := by
  obtain ⟨hlink, hsettings, htime⟩ := deadTold_linked new cause s h
  rw [deadCut_eq]
  exact ⟨hlink, hsettings, htime⟩

theorem arbFree_deadArb : ArbFree (deadArb s) := ⟨rfl, rfl, rfl, rfl⟩

end deadCut

/-- Timers at the entry (R148). -/
def closedTimer (t : Timer) : Timer := { t with running := false, elapsed := 0, pending := false, inService := false }

/-- What the entry leaves, but for the operation queue and the flush. -/
structure DeadEntered (new : BusState) (cause : BusCause) (s t : State) : Prop where
  bus : t.bus = { busChanged new cause s.bus with clock := s.settings.clock }
  planner : t.planner = { s.planner with
    cycle := none, master := none, address := if new = .down then 0 else s.planner.address }
  arb : t.arb = deadArb s
  channels : ∀ n : Fin 4, t.channels[n] = closedChannel s.channels[n]
  slots : ∀ n : Fin 8, t.slots[n] = slotClosed new s.slots[n]
  lines : ∀ (l : Fin 12) (n : Fin 8), t.lineSlots[l][n] = quietLine s.lineSlots[l][n]
  engine : t.engine = resetEngine
  timers : ∀ n : Fin 4, t.timers[n] = closedTimer s.timers[n]
  link : ∀ k, Linked s k →
    Linked t (slotsTold new s (sendAll (clearReplies s) (notice 4 [s.bus.state.code, new.code, cause.code] k)))
  rest : Touches [.bus, .slots, .planner, .arb, .link, .lineSlots, .channels, .engine, .timers] s t

theorem enterDead_entered (new : BusState) (cause : BusCause) (s : State) :
    DeadEntered new cause s (enterDead new cause s) := by
  have hfree : ArbFree (deadCut new cause s).arb := by
    rw [deadCut_arb]
    exact arbFree_deadArb s
  have hcut := deadCut_touches new cause s
  have hchannels0 : (deadCut new cause s).channels = s.channels := hcut .channels (by decide)
  have hslots0 : (deadCut new cause s).slots = s.slots := hcut .slots (by decide)
  have hlines0 : (deadCut new cause s).lineSlots = s.lineSlots := hcut .lineSlots (by decide)
  have hclears : clearReplies (deadCut new cause s) = clearReplies s := by rw [clearReplies, hchannels0]; rfl
  have habort : abortChannels (deadCut new cause s) = sendAll (clearReplies s)
      { deadCut new cause s with channels := closeChannels allFour s.channels } := by
    rw [abortChannels_eq hfree, hclears, hchannels0]
  generalize hu : abortChannels (deadCut new cause s) = u at habort
  have huchannels : u.channels = closeChannels allFour s.channels := by rw [habort, sendAll_channels]
  have huplanner : u.planner = (deadCut new cause s).planner := by rw [habort, sendAll_planner]
  have huslots : u.slots = s.slots := by rw [habort, sendAll_slots]; exact hslots0
  have hulines : u.lineSlots = s.lineSlots := by rw [habort, sendAll_lineSlots]; exact hlines0
  have hulink (k : State) (hk : Linked s k) :
      Linked u (sendAll (clearReplies s) (notice 4 [s.bus.state.code, new.code, cause.code] k)) := by
    rw [habort]
    refine Linked.sendAll ?_ _
    obtain ⟨hlink, hsettings, htime⟩ := deadCut_linked new cause s hk
    exact ⟨hlink, hsettings, htime⟩
  have hutouches : Touches [.bus, .planner, .arb, .link, .channels] s u := by
    rw [habort]
    exact ((hcut.mono).trans (touches_channels (deadCut new cause s) _)).trans ((sendAll_touches _ _).mono)
  have hquiet : CardQuiet u := by
    refine ⟨fun c => ?_, ?_⟩
    · rw [huchannels, closeChannels_all]
      exact closedChannel_not_running _
    · rw [huplanner, deadCut_planner]
  obtain ⟨hslots, hlink, hlines, hrest⟩ := closeAllSlots_out new hquiet
  have hdone : enterDead new cause s = abortService (dropAllLines (closeAllSlots new u)) := by rw [enterDead_eq, hu]
  rw [hdone]
  have hlast : Touches [.lineSlots, .engine, .timers] (closeAllSlots new u)
      (abortService (dropAllLines (closeAllSlots new u))) :=
    ((touches_lineSlots _ _).trans ((abortService_touches _).mono))
  have hall : ∀ n : Fin 8, n ∈ allSlots := by decide
  refine ⟨?_, ?_, ?_, fun n => ?_, fun n => ?_, fun l n => ?_, rfl, fun n => ?_, fun k hk => ?_, ?_⟩
  · rw [hlast .bus (by decide), hrest .bus (by decide), ← deadCut_bus new cause s, habort, sendAll_bus]
  · rw [hlast .planner (by decide), hrest .planner (by decide), huplanner, deadCut_planner]
  · rw [hlast .arb (by decide), hrest .arb (by decide), habort, sendAll_arb]
    exact deadCut_arb new cause s
  · rw [hlast .channels (by decide), hrest .channels (by decide), huchannels, closeChannels_all]
  · rw [hlast .slots (by decide), hslots, if_pos (hall n), huslots]
  · have hdrop : (abortService (dropAllLines (closeAllSlots new u))).lineSlots[l][n] =
        quietLine (closeAllSlots new u).lineSlots[l][n] := by
      show (mapAll (mapAll LineSlot.dropped) (closeAllSlots new u).lineSlots)[l][n] = _
      rw [mapAll_get, mapAll_get]
      rfl
    rw [hdrop, hlines, hulines]
  · have htimers : (closeAllSlots new u).timers = s.timers :=
      (hrest .timers (by decide) : _ = u.timers).trans (hutouches .timers (by decide))
    show (mapAll closedTimer (closeAllSlots new u).timers)[n] = _
    rw [mapAll_get, htimers]
  · have htold : slotsTold new u = slotsTold new s := by
      funext k
      unfold slotsTold slotTold
      rw [huslots]
    have hk' := hlink _ (hulink k hk)
    have hk'' : Linked (closeAllSlots new u) (slotsTold new u _) := hk'
    rw [htold] at hk''
    exact (Linked.of_touches hlast).trans hk''
  · exact ((hutouches.mono).trans (hrest.mono)).trans (hlast.mono)

/-! ## The flush of the operation queue (R80) -/

/-- The results of aborted operations, filed with their frames. -/
theorem foldl_fileResult (result : OpRecord → OpResult) : ∀ (ops : List OpRecord) (frames : List OpenFrame),
    ops.foldl (fun fs r => fileResult r.frame (result r) fs) frames =
      frames.map fun f =>
        { f with results := f.results ++ (ops.filter fun r => decide (r.frame = f.id)).map result }
  | [], frames => by simp
  | r :: ops, frames => by
    rw [List.foldl_cons, foldl_fileResult result ops, fileResult, List.map_map]
    refine List.map_congr_left fun f _ => ?_
    by_cases hid : f.id = r.frame
    · simp [hid]
    · simp [hid, Ne.symm hid]

/-- A frame's reply as the statements build it (R73, R78, R195). -/
theorem buildReply_eq (s : State) (f : OpenFrame) : buildReply s f = sendAll (opsReply f f.results) s := by
  unfold buildReply opsReply
  split
  · have hcode : (if f.adjusted then Status.adjusted else .ok).code = if f.adjusted then 1 else 0 :=
      apply_ite Status.code _ _ _
    rw [reply_eq_sendAll, hcode]
    rfl
  · rw [sendAll_nil]

theorem foldl_buildReply : ∀ (frames : List OpenFrame) (s : State),
    frames.foldl buildReply s = sendAll (frames.map fun f => opsReply f f.results).flatten s
  | [], s => (sendAll_nil s).symm
  | f :: frames, s => by
    rw [List.foldl_cons, foldl_buildReply frames, buildReply_eq, ← sendAll_append]
    rfl

/-- The queue once flushed. -/
def flushedQueue (q : OpQueue) : OpQueue :=
  { q with ops := [], frames := [], state := .idle, pauseLeft := 0, waitLeft := 0, access := none }

theorem flushQueue_eq (s : State) : flushQueue s = sendAll (flushReplies s) (modQueue flushedQueue s) := by
  unfold flushQueue
  dsimp only
  rw [foldl_fileResult, foldl_buildReply, List.map_map]
  rfl

/-! ## The statements' relation -/

theorem DeadEntered.workClosed {new : BusState} {cause : BusCause} {s t u : State} (h : DeadEntered new cause s t)
    (hu : Touches [.bus, .link, .choices, .queue] t u) (hqueue : u.queue = flushedQueue t.queue) :
    WorkClosed new s u := by
  have hchannels : u.channels = t.channels := hu .channels (by decide)
  have hslots : u.slots = t.slots := hu .slots (by decide)
  have hlines : u.lineSlots = t.lineSlots := hu .lineSlots (by decide)
  have htimers : u.timers = t.timers := hu .timers (by decide)
  have hengine : u.engine = t.engine := hu .engine (by decide)
  have hplanner : u.planner = t.planner := hu .planner (by decide)
  have harb : u.arb = t.arb := hu .arb (by decide)
  have hsame : t.queue = s.queue := h.rest .queue (by decide)
  refine ⟨hplanner.trans h.planner, harb.trans h.arb, ?_, fun n => ?_, fun n => ?_, fun l n => ?_,
    hengine.trans h.engine, fun n => ?_, (h.rest.mono).trans (hu.mono)⟩
  · rw [hqueue, hsame]
    rfl
  · rw [hchannels, h.channels]
    rfl
  · rw [hslots, h.slots]
  · rw [hlines, h.lines]
  · rw [htimers, h.timers]
    rfl

end Sys2Proof.Machine
end

section
/-! PROOFS. O17 and O18: BUS OFF and BUS RESET, the supply monitor, the entry to DOWN, and the end of the card reset pulse
(R39 to R47). -/

namespace Sys2Proof.Machine

set_option Elab.async false

theorem Linked.modQueue {s k : State} (h : Linked s k) (f : OpQueue → OpQueue) : Linked (modQueue f s) k :=
  ⟨h.link, h.settings, h.timeBase⟩

/-- What the slots hand over depends on the slot records alone. -/
theorem slotsTold_congr (new : BusState) {s t : State} (h : t.slots = s.slots) : slotsTold new t = slotsTold new s := by
  funext k
  unfold slotsTold slotTold
  rw [h]

theorem clearReplies_congr {s t : State} (h : t.channels = s.channels) : clearReplies t = clearReplies s := by
  unfold clearReplies
  rw [h]

theorem flushReplies_congr {s t : State} (h : t.queue = s.queue) : flushReplies t = flushReplies s := by
  unfold flushReplies
  rw [h]

/-- The flush after an entry (R80). -/
theorem DeadEntered.flushed {new : BusState} {cause : BusCause} {s t : State} (h : DeadEntered new cause s t) :
    WorkClosed new s (flushQueue t) ∧ (flushQueue t).bus = t.bus ∧ ∀ k, Linked s k →
      Linked (flushQueue t) (sendAll (flushReplies s) (slotsTold new s (sendAll (clearReplies s)
        (notice 4 [s.bus.state.code, new.code, cause.code] k)))) := by
  have hreplies : flushReplies t = flushReplies s := flushReplies_congr (h.rest .queue (by decide))
  rw [flushQueue_eq, hreplies]
  exact ⟨h.workClosed ((touches_queue _ _).trans ((sendAll_touches _ _).mono)) (sendAll_queue _ _), sendAll_bus _ _,
    fun k hk => ((h.link k hk).modQueue flushedQueue).sendAll _⟩

/-! ## The flush and the BUS reply, in either order (R39, R80) -/

/-- The BUS reply's frame. -/
def busFrame (tag : Byte) (status : Status) (b : Bus) : Frame :=
  { kind := 0x85, tag := tag, payload := [status.code, b.state.code, b.cause.code] }

theorem replyBus_eq (tag : Byte) (status : Status) (s : State) :
    replyBus tag status s = sendAll [busFrame tag status s.bus] s := rfl

/-- What the flush and the reply come to. -/
theorem flushAndReply_out (tag : Byte) (s : State) :
    Touches [.bus, .link, .choices, .queue] s (flushAndReply tag s) ∧
      (flushAndReply tag s).bus = s.bus ∧ (flushAndReply tag s).queue = flushedQueue s.queue ∧
      ∀ k, Linked s k →
        Linked (flushAndReply tag s) (sendAll (flushReplies s ++ [busFrame tag .ok s.bus]) k) ∨
        Linked (flushAndReply tag s) (sendAll (busFrame tag .ok s.bus :: flushReplies s) k) := by
  have hused : Touches [.choices] s (usedChoice s) := touches_choices _ _
  unfold flushAndReply eitherOrder
  split
  · have hflush := flushQueue_eq (usedChoice s)
    have hreply : replyBus tag .ok (flushQueue (usedChoice s)) =
        sendAll (flushReplies s ++ [busFrame tag .ok s.bus]) (modQueue flushedQueue (usedChoice s)) := by
      rw [hflush, replyBus_eq, sendAll_append, sendAll_bus]
      rfl
    rw [hreply]
    refine ⟨((hused.mono).trans (touches_queue _ _)).trans ((sendAll_touches _ _).mono), sendAll_bus _ _,
      sendAll_queue _ _, fun k hk => .inl ?_⟩
    have hk' : Linked (modQueue flushedQueue (usedChoice s)) k := ⟨hk.link, hk.settings, hk.timeBase⟩
    exact hk'.sendAll _
  · have hreply : flushQueue (replyBus tag .ok (usedChoice s)) =
        sendAll (flushReplies s) (modQueue flushedQueue (sendAll [busFrame tag .ok s.bus] (usedChoice s))) := by
      have hreplies : flushReplies (sendAll [busFrame tag .ok s.bus] (usedChoice s)) = flushReplies s := by
        unfold flushReplies
        rw [sendAll_queue]
        rfl
      rw [flushQueue_eq, replyBus_eq]
      exact congrArg (fun fs => sendAll fs _) hreplies
    rw [hreply]
    have hsent : Touches [.bus, .link, .choices, .queue] s (sendAll [busFrame tag .ok s.bus] (usedChoice s)) :=
      (hused.mono).trans ((sendAll_touches _ _).mono)
    refine ⟨(hsent.trans (touches_queue _ _)).trans ((sendAll_touches _ _).mono), ?_, ?_, fun k hk => .inr ?_⟩
    · rw [sendAll_bus, modQueue_bus, sendAll_bus]
      rfl
    · rw [sendAll_queue, modQueue_queue, sendAll_queue]
      rfl
    · have hcons : busFrame tag .ok s.bus :: flushReplies s = [busFrame tag .ok s.bus] ++ flushReplies s := rfl
      have hk' : Linked (usedChoice s) k := ⟨hk.link, hk.settings, hk.timeBase⟩
      obtain ⟨hlink, hsettings, htime⟩ := hk'.sendAll [busFrame tag .ok s.bus]
      have hqueued : Linked (modQueue flushedQueue (sendAll [busFrame tag .ok s.bus] (usedChoice s)))
          (sendAll [busFrame tag .ok s.bus] k) := ⟨hlink, hsettings, htime⟩
      rw [hcons, sendAll_append]
      exact hqueued.sendAll _

/-! ## BUS OFF and BUS RESET (R40, R42) -/

section busRows

variable {s : State} (hs : Listening s) (tag : Byte)
include hs

theorem exec_busOff_of_listening : exec (.busOff tag) s = .next (serveBusOff tag (heard s)) :=
  exec_of_listening (i := .busOff tag) hs rfl rfl (by decide) (of_decide_eq_true rfl)

theorem exec_busReset_of_listening : exec (.busReset tag) s = .next (serveBusReset tag (heard s)) :=
  exec_of_listening (i := .busReset tag) hs rfl rfl (by decide) (of_decide_eq_true rfl)

theorem replyBus_heard (status : Status) : replyBus tag status (heard s) =
    answered 0x85 tag [status.code, s.bus.state.code, s.bus.cause.code] s :=
  reply_heard_of_listening hs 0x05 tag status _

end busRows

/-- OFF and RESET are refused in DOWN while the supply is not good. -/
theorem supplyRefuses_iff (s : State) :
    supplyRefuses s = true ↔ s.bus.state = .down ∧ (s.bus.supply = .lost ∨ s.bus.supply = .recovering) := by
  unfold supplyRefuses
  cases s.bus.supply <;> simp [SupplyState.isGood]

/-- The entry of BUS OFF or BUS RESET, up to the flush. -/
def busEntered (new : BusState) (s : State) : State :=
  if new = .resetting then modBus (fun b => { b with pulseLeft := s.settings.pulse }) (enterDead new .request s)
  else enterDead new .request s

theorem busEntered_touches (new : BusState) (s : State) : Touches [.bus] (enterDead new .request s) (busEntered new s) :=
  .ite (touches_bus _ _) (.refl _ _)

theorem busEntered_bus (new : BusState) (s : State) : (busEntered new s).bus = { busChanged new .request s.bus with
    clock := s.settings.clock, pulseLeft := if new = .resetting then s.settings.pulse else 0 } := by
  have hbus := (enterDead_entered new .request s).bus
  unfold busEntered
  by_cases hnew : new = .resetting
  · rw [if_pos hnew, if_pos hnew, modBus_bus, hbus]
  · rw [if_neg hnew, if_neg hnew, hbus]
    rfl

theorem serve_busEntry {i : Instr} {tag : Byte} {new : BusState} {s : State} (hs : Listening s)
    (hi : (i = .busOff tag ∧ new = .off) ∨ (i = .busReset tag ∧ new = .resetting)) (hmoves : s.bus.state ≠ new)
    (hsupply : s.bus.state = .down → s.bus.supply = .good ∨ s.bus.supply = .low) :
    exec i s = .next (flushAndReply tag (busEntered new (heard s))) := by
  have hok : ¬ supplyRefuses (heard s) = true := by
    rw [supplyRefuses_iff]
    rintro ⟨hdown, hbad⟩
    have hdown' : s.bus.state = .down := hdown
    have hbad' : s.bus.supply = .lost ∨ s.bus.supply = .recovering := hbad
    obtain h | h := hsupply hdown' <;> rw [h] at hbad' <;> simp at hbad'
  obtain ⟨rfl, rfl⟩ | ⟨rfl, rfl⟩ := hi
  · rw [exec_busOff_of_listening hs, serveBusOff, if_neg hmoves (c := (heard s).bus.state = .off), if_neg hok]
    rfl
  · rw [exec_busReset_of_listening hs, serveBusReset, if_neg hmoves (c := (heard s).bus.state = .resetting), if_neg hok]
    rfl

/-- Settles O17: the refusals; then the entry, the flush and the reply. -/
theorem busOffAndResetAct : Obligations.BusOffAndResetAct := by
  unfold Obligations.BusOffAndResetAct
  refine ⟨fun tag s hs => ⟨fun hoff => ?_, fun hresetting => ?_, fun hdown hbad => ?_⟩,
    fun i tag new s hs hi hmoves hsupply => ?_⟩
  · rw [exec_busOff_of_listening hs, serveBusOff, if_pos (c := (heard s).bus.state = .off) hoff, replyBus_heard hs, hoff]
    rfl
  · rw [exec_busReset_of_listening hs, serveBusReset, if_pos (c := (heard s).bus.state = .resetting) hresetting,
      replyBus_heard hs, hresetting]
    rfl
  · have hrefuses : supplyRefuses (heard s) = true := (supplyRefuses_iff (heard s)).mpr ⟨hdown, hbad⟩
    have hnot (b : BusState) (hb : b ≠ .down) : ¬ (heard s).bus.state = b := fun h => hb (h.symm.trans hdown)
    rw [exec_busOff_of_listening hs, exec_busReset_of_listening hs, serveBusOff, serveBusReset,
      if_neg (hnot .off nofun), if_neg (hnot .resetting nofun), if_pos hrefuses, if_pos hrefuses, replyBus_heard hs, hdown]
    exact ⟨rfl, rfl⟩
  · have hentered := enterDead_entered new .request (heard s)
    obtain ⟨htouches, hbus, hqueue, hlink⟩ := flushAndReply_out tag (busEntered new (heard s))
    have hpulse := busEntered_touches new (heard s)
    have hqueue' : (busEntered new (heard s)).queue = (enterDead new .request (heard s)).queue := hpulse .queue (by decide)
    have hclosed : WorkClosed new (heard s) (flushAndReply tag (busEntered new (heard s))) :=
      hentered.workClosed ((hpulse.mono).trans htouches) (by rw [hqueue, hqueue'])
    obtain ⟨c1, c2, c3, c4, c5, c6, c7, c8, c9⟩ := hclosed
    refine ⟨_, serve_busEntry hs hi hmoves hsupply, ⟨c1, c2, c3, c4, c5, c6, c7, c8, ((heard_touches s).mono).trans c9⟩,
      hbus.trans (busEntered_bus new (heard s)), fun told busReply htold hreply => ?_⟩
    have hlinked : Linked (busEntered new (heard s)) told := by
      rw [htold]
      exact (Linked.of_touches hpulse).trans (hentered.link (heard s) (.refl _))
    have hreplies : flushReplies (busEntered new (heard s)) = flushReplies s := by
      unfold flushReplies
      rw [hqueue', hentered.rest .queue (by decide)]
      rfl
    have hframe : busFrame tag .ok (busEntered new (heard s)).bus = busReply := by
      rw [busEntered_bus, hreply]
      rfl
    rw [hreplies, hframe] at hlink
    exact (hlink told hlinked).imp Linked.link Linked.link

/-! ## The supply monitor (R45 to R47) -/

/-- The monitor's record of an event. -/
def supplyMoved (x : SupplyState) (b : Bus) : Bus := { b with supply := x, supplyMicros := 0 }

theorem csupgoodLow_eq (s : State) : exec .csupgoodLow s = .next
    (if s.bus.supply = .good then { s with bus := { s.bus with supply := .low, supplyMicros := 0 } }
     else if s.bus.supply = .recovering then { s with bus := { s.bus with supply := .lost, supplyMicros := 0 } }
     else s) := by
  show execCsupgoodLow s = _
  unfold execCsupgoodLow
  cases s.bus.supply <;> rfl

theorem csupgoodHigh_eq (s : State) : exec .csupgoodHigh s = .next
    (if s.bus.supply = .low then { s with bus := { s.bus with supply := .good, supplyMicros := 0 } }
     else if s.bus.supply = .lost then { s with bus := { s.bus with supply := .recovering, supplyMicros := 0 } }
     else s) := by
  show execCsupgoodHigh s = _
  unfold execCsupgoodHigh
  cases s.bus.supply <;> rfl

theorem supplyRestored_eq (s : State) : exec .supplyRestored s = .next
    (if s.bus.supply = .recovering then
      notice 6 [1] { s with bus := { s.bus with supply := .good, supplyMicros := 0 } }
     else s) := by
  show execSupplyRestored s = _
  unfold execSupplyRestored
  split <;> rfl

/-- The loss of the supply told, before the entry to DOWN (R46). -/
def lossNoted (s : State) : State := notice 6 [0] (modBus (supplyMoved .lost) s)

theorem exec_supplyLost_of_low {s : State} (h : s.bus.supply = .low) :
    exec .supplyLost s =
      .next (if s.bus.state = .down then lossNoted s else flushQueue (enterDead .down .supply (lossNoted s))) :=
  congrArg _ (if_pos h)

theorem exec_supplyLost_of_other {s : State} (h : s.bus.supply ≠ .low) : exec .supplyLost s = .next s := by
  show execSupplyLost s = _
  rw [execSupplyLost, if_neg h]

theorem lossNoted_touches (s : State) : Touches [.bus, .link] s (lossNoted s) :=
  (touches_bus (l := [.bus, .link]) s _).trans ((notice_touches _ _ _).mono)

theorem lossNoted_bus (s : State) : (lossNoted s).bus = supplyMoved .lost s.bus := notice_bus _ _ _

theorem lossNoted_linked (s : State) : Linked (lossNoted s) (notice 6 [0] s) := by
  have hk : Linked (modBus (supplyMoved .lost) s) s := ⟨rfl, rfl, rfl⟩
  exact hk.notice _ _

/-- The entry to DOWN as the supply is lost. -/
theorem supplyLost_enters {s : State} (hlow : s.bus.supply = .low) (hup : s.bus.state ≠ .down) :
    ∃ t : State, exec .supplyLost s = .next t ∧ WorkClosed .down s t ∧
      t.bus = { busChanged .down .supply s.bus with
        clock := s.settings.clock, supply := .lost, supplyMicros := 0 } ∧
      t.link = (sendAll (flushReplies s) (slotsTold .down s (sendAll (clearReplies s)
        (notice 4 [s.bus.state.code, 5, 4] (notice 6 [0] s))))).link := by
  have hexec : exec .supplyLost s = .next (flushQueue (enterDead .down .supply (lossNoted s))) := by
    rw [exec_supplyLost_of_low hlow, if_neg hup]
  have hnoted := lossNoted_touches s
  generalize hu : lossNoted s = u at hexec hnoted
  have hbus : u.bus = supplyMoved .lost s.bus := hu ▸ lossNoted_bus s
  have hlinked : Linked u (notice 6 [0] s) := hu ▸ lossNoted_linked s
  obtain ⟨hclosed, hbusFlushed, htold⟩ := (enterDead_entered .down .supply u).flushed
  have hbusEntered := (enterDead_entered .down .supply u).bus
  generalize flushQueue (enterDead .down .supply u) = t at hexec hclosed hbusFlushed htold
  refine ⟨t, hexec, ?_, ?_, ?_⟩
  · obtain ⟨c1, c2, c3, c4, c5, c6, c7, c8, c9⟩ := hclosed
    rw [hnoted .planner (by decide)] at c1
    rw [hnoted .arb (by decide), hnoted .settings (by decide)] at c2
    rw [hnoted .queue (by decide)] at c3
    rw [hnoted .channels (by decide)] at c4
    rw [hnoted .slots (by decide)] at c5
    rw [hnoted .lineSlots (by decide)] at c6
    rw [hnoted .timers (by decide)] at c8
    exact ⟨c1, c2, c3, c4, c5, c6, c7, c8, (hnoted.mono).trans c9⟩
  · rw [hbusFlushed, hbusEntered, hbus, hnoted .settings (by decide)]
    rfl
  · rw [(htold _ hlinked).link, flushReplies_congr (hnoted .queue (by decide)), clearReplies_congr (hnoted .channels (by decide)),
      slotsTold_congr .down (hnoted .slots (by decide)), hbus]
    rfl

/-! ## The end of the card reset pulse (R41) -/

/-- A line-slot once its slot is watched, if it is ATTACHED. -/
def watchedIfAttached (s : State) (l : Fin 12) (n : Fin 8) : LineSlot :=
  if s.slots[n].state = .attached then watchStarted s l n else s.lineSlots[l][n]

/-- Watching starts at one slot of a live bus. -/
theorem startWatching_line {s : State} (hlive : s.bus.state.live = true) (n : Fin 8) (l : Fin 12) (k : Fin 8) :
    (startWatching n s).lineSlots[l][k] = if k = n then watchedIfAttached s l n else s.lineSlots[l][k] := by
  unfold watchedIfAttached
  by_cases hslot : s.slots[n].state = .attached
  · rw [startWatching_lineSlots hslot hlive, if_pos hslot]
  · have hunwatched : watched s n = false := by
      simp only [watched, attached, beq_eq_false_iff_ne.mpr hslot, Bool.false_and]
    rw [startWatching_of_unwatched hunwatched, if_neg hslot]
    by_cases hk : k = n
    · rw [if_pos hk, hk]
    · rw [if_neg hk]

theorem startWatching_list : ∀ (ns : List (Fin 8)) {s : State}, ns.Nodup → s.bus.state.live = true →
    ∀ (l : Fin 12) (k : Fin 8), (ns.foldl (fun t n => startWatching n t) s).lineSlots[l][k] =
      if k ∈ ns then watchedIfAttached s l k else s.lineSlots[l][k]
  | [], s, _, _, l, k => by simp
  | n :: ns, s, hnodup, hlive, l, k => by
    obtain ⟨hn, hns⟩ := List.nodup_cons.mp hnodup
    have htouches := startWatching_touches n s
    have hbus : (startWatching n s).bus = s.bus := htouches .bus (by decide)
    have hslots : (startWatching n s).slots = s.slots := htouches .slots (by decide)
    have hcards : (startWatching n s).cards = s.cards := htouches .cards (by decide)
    have hlines : (startWatching n s).lines = s.lines := htouches .lines (by decide)
    rw [List.foldl_cons, startWatching_list ns hns (by rw [hbus]; exact hlive) l k, startWatching_line hlive]
    by_cases hk : k = n
    · subst hk
      rw [if_neg hn, if_pos rfl, if_pos (List.mem_cons_self ..)]
    · have hstays : (startWatching n s).lineSlots[l][k] = s.lineSlots[l][k] := by
        rw [startWatching_line hlive, if_neg hk]
      simp only [List.mem_cons, hk, false_or, if_false, watchedIfAttached, watchStarted, hslots, hcards, hlines, hstays]

theorem changeBus_touches_bus (new : BusState) (cause : BusCause) (s : State) :
    Touches [.bus, .link] s (changeBus new cause s) :=
  (touches_bus (l := [.bus, .link]) s _).trans ((notice_touches _ _ _).mono)

/-- The state setting 5 names, with what follows by itself still to come. -/
theorem endPulse_out {s : State} {new : BusState} (hstate : s.bus.state = .resetting)
    (hnew : new = if s.settings.afterReset = 0 then .run else .hold) :
    Touches [.bus, .link, .lineSlots] s (endPulse s) ∧ (endPulse s).bus = busChanged new .resetEnd s.bus ∧
      (endPulse s).link = (notice 4 [1, new.code, 5] s).link ∧
      ∀ (l : Fin 12) (n : Fin 8), (endPulse s).lineSlots[l][n] =
        if s.slots[n].state = .attached then watchStarted s l n else s.lineSlots[l][n] := by
  have hdef : endPulse s = allSlots.foldl (fun t n => startWatching n t) (changeBus new .resetEnd s) := by
    rw [hnew]
    rfl
  have hchange : changeBus new .resetEnd s = notice 4 [1, new.code, 5] (recordBus new .resetEnd s) := by
    unfold changeBus noticeBusState
    rw [hstate]
    rfl
  have htouches := changeBus_touches_bus new .resetEnd s
  have hbus : (changeBus new .resetEnd s).bus = busChanged new .resetEnd s.bus := by
    rw [hchange, notice_bus]
    rfl
  have hlink : (changeBus new .resetEnd s).link = (notice 4 [1, new.code, 5] s).link := by
    rw [hchange]
    exact notice_link_congr _ _ rfl rfl rfl
  rw [hdef]
  generalize changeBus new .resetEnd s = u at htouches hbus hlink
  have hfold : Touches [.lineSlots] u (allSlots.foldl (fun t n => startWatching n t) u) :=
    touches_foldl _ (fun t n => startWatching_touches n t) _ _
  have hlive : u.bus.state.live = true := by
    rw [hbus, hnew]
    show (if s.settings.afterReset = 0 then BusState.run else .hold).live = true
    split <;> rfl
  have hslots : u.slots = s.slots := htouches .slots (by decide)
  have hcards : u.cards = s.cards := htouches .cards (by decide)
  have hlines : u.lines = s.lines := htouches .lines (by decide)
  have hlineSlots : u.lineSlots = s.lineSlots := htouches .lineSlots (by decide)
  refine ⟨(htouches.mono).trans (hfold.mono), (hfold .bus (by decide)).trans hbus, (hfold .link (by decide)).trans hlink,
    fun l n => ?_⟩
  rw [startWatching_list allSlots (by decide) hlive, if_pos (by revert n; decide)]
  simp only [watchedIfAttached, watchStarted, hslots, hcards, hlines, hlineSlots]

theorem exec_pulseEnd_of_resetting {s : State} (h : s.bus.state = .resetting) :
    exec .pulseEnd s = .next (settle (endPulse s)) := by
  show execPulseEnd s = _
  rw [execPulseEnd, if_pos h]

theorem exec_pulseEnd_of_other {s : State} (h : s.bus.state ≠ .resetting) : exec .pulseEnd s = .next s := by
  show execPulseEnd s = _
  rw [execPulseEnd, if_neg h]

/-- Settles O18: the monitor's four events, the entry to DOWN, and the end of the pulse. -/
theorem supplyAndPulseMoveTheBus : Obligations.SupplyAndPulseMoveTheBus := by
  unfold Obligations.SupplyAndPulseMoveTheBus
  refine ⟨csupgoodLow_eq, csupgoodHigh_eq, supplyRestored_eq, fun s h => exec_supplyLost_of_other h,
    fun s hlow hdown => ?_, fun s hlow hup => supplyLost_enters hlow hup, fun s h => exec_pulseEnd_of_other h,
    fun s new hstate hnew => ?_⟩
  · rw [exec_supplyLost_of_low hlow, if_pos hdown]
    rfl
  · exact ⟨endPulse s, exec_pulseEnd_of_resetting hstate, endPulse_out hstate hnew⟩

end Sys2Proof.Machine
end

section
/-! PROOFS. O53 to O59, the ground: what a change of one block keeps of the eleven invariants. A change is told apart by
what it may break: most keep all of them; a change of a slot record alone may break the two that tie a channel or a
line-slot to its slot; the entry to OFF, RESETTING or DOWN breaks, on the way, what holds of a dead bus. -/

namespace Sys2Proof.Machine

set_option Elab.async false

/-! ## What is kept -/

/-- The invariants of one block each are kept, and a ready link stays ready (R182: link loss alone ends it). -/
structure FieldsKept (s t : State) : Prop where
  image : ImageCanonical s → ImageCanonical t
  capture : CaptureInBounds s → CaptureInBounds t
  claims : ClaimsDisjoint s → ClaimsDisjoint t
  settings : SettingsInRange s → SettingsInRange t
  counts : CountsInRange s → CountsInRange t
  slots : SlotsConsistent s → SlotsConsistent t
  stuck : StuckNotServed s → StuckNotServed t
  engine : IdleEngineClear s → IdleEngineClear t
  linkUp : s.link.ready = true → t.link.ready = true

/-- So is the quiet of a dead bus, where `Q` holds of the state the change is a part of the way from, and a live bus stays
live. -/
structure QuietKept (Q : Prop) (s t : State) : Prop extends FieldsKept s t where
  live : s.bus.state.live = true → t.bus.state.live = true
  dead : Q → DeadBusIsQuiet s → DeadBusIsQuiet t

/-- Every invariant is kept, and a live bus stays live. -/
structure Kept (Q : Prop) (s t : State) : Prop extends QuietKept Q s t where
  owners : RunningOwnerAttached s → RunningOwnerAttached t
  pending : PendingOnlyWatched s → PendingOnlyWatched t

theorem FieldsKept.refl (s : State) : FieldsKept s s := ⟨id, id, id, id, id, id, id, id, id⟩

variable {Q : Prop}

theorem QuietKept.refl (s : State) : QuietKept Q s s := ⟨.refl s, id, fun _ => id⟩

theorem Kept.refl (s : State) : Kept Q s s := ⟨.refl s, id, id⟩

section trans

variable {s t u : State}

theorem FieldsKept.trans (h : FieldsKept s t) (k : FieldsKept t u) : FieldsKept s u where
  image i := k.image (h.image i)
  capture i := k.capture (h.capture i)
  claims i := k.claims (h.claims i)
  settings i := k.settings (h.settings i)
  counts i := k.counts (h.counts i)
  slots i := k.slots (h.slots i)
  stuck i := k.stuck (h.stuck i)
  engine i := k.engine (h.engine i)
  linkUp i := k.linkUp (h.linkUp i)

theorem QuietKept.trans (h : QuietKept Q s t) (k : QuietKept Q t u) : QuietKept Q s u where
  toFieldsKept := h.toFieldsKept.trans k.toFieldsKept
  live i := k.live (h.live i)
  dead q i := k.dead q (h.dead q i)

theorem Kept.trans (h : Kept Q s t) (k : Kept Q t u) : Kept Q s u where
  toQuietKept := h.toQuietKept.trans k.toQuietKept
  owners i := k.owners (h.owners i)
  pending i := k.pending (h.pending i)

theorem Kept.ite {c : Prop} [Decidable c] (h : Kept Q s t) (k : Kept Q s u) : Kept Q s (if c then t else u) := by
  split
  · exact h
  · exact k

theorem QuietKept.ite {c : Prop} [Decidable c] (h : QuietKept Q s t) (k : QuietKept Q s u) :
    QuietKept Q s (if c then t else u) := by
  split
  · exact h
  · exact k

theorem Kept.ite_of {c : Prop} [Decidable c] (h : c → Kept Q s t) (k : ¬ c → Kept Q s u) : Kept Q s (if c then t else u) := by
  split
  · next hc => exact h hc
  · next hc => exact k hc

end trans

theorem kept_foldl {α : Type} {g : State → α → State} (h : ∀ s a, Kept Q s (g s a)) :
    ∀ (as : List α) (s : State), Kept Q s (as.foldl g s)
  | [], s => .refl s
  | a :: as, s => (h s a).trans (kept_foldl h as (g s a))

theorem fieldsKept_foldl {α : Type} {g : State → α → State} (h : ∀ s a, FieldsKept s (g s a)) :
    ∀ (as : List α) (s : State), FieldsKept s (as.foldl g s)
  | [], s => .refl s
  | a :: as, s => (h s a).trans (fieldsKept_foldl h as (g s a))

/-! ## A change of one block -/

/-- A change of blocks no invariant speaks of. -/
theorem Kept.of_touches {l : List Field} {s t : State} (h : Touches l s t)
    (hl : l ⊆ [.pending, .cards, .lines, .entries, .timeBase, .choices] := by decide) : Kept Q s t := by
  have same (f : Field) (hf : f ∉ [Field.pending, .cards, .lines, .entries, .timeBase, .choices]) : f.same s t :=
    h f fun m => hf (hl m)
  have hbus : t.bus = s.bus := same .bus (by decide)
  have hslots : t.slots = s.slots := same .slots (by decide)
  have hclaims : t.claims = s.claims := same .claims (by decide)
  have hplanner : t.planner = s.planner := same .planner (by decide)
  have harb : t.arb = s.arb := same .arb (by decide)
  have hqueue : t.queue = s.queue := same .queue (by decide)
  have hchannels : t.channels = s.channels := same .channels (by decide)
  have hlineSlots : t.lineSlots = s.lineSlots := same .lineSlots (by decide)
  have hengine : t.engine = s.engine := same .engine (by decide)
  have htimers : t.timers = s.timers := same .timers (by decide)
  have hcapture : t.capture = s.capture := same .capture (by decide)
  have hwatch : t.watch = s.watch := same .watch (by decide)
  have himage : t.image = s.image := same .image (by decide)
  have hlink : t.link = s.link := same .link (by decide)
  have hsettings : t.settings = s.settings := same .settings (by decide)
  refine ⟨⟨⟨?_, ?_, ?_, ?_, ?_, ?_, ?_, ?_, ?_⟩, ?_, ?_⟩, ?_, ?_⟩ <;>
    simp only [ImageCanonical, CaptureInBounds, ClaimsDisjoint, SettingsInRange, CountsInRange, SlotsConsistent,
      StuckNotServed, IdleEngineClear, DeadBusIsQuiet, RunningOwnerAttached, PendingOnlyWatched, watched, attached, hbus,
      hslots, hclaims, hplanner, harb, hqueue, hchannels, hlineSlots, hengine, htimers, hcapture, hwatch, himage, hlink,
      hsettings, imp_self, implies_true]

/-- A bus controller's record that leaves no live bus dead. -/
theorem Kept.setBus (s : State) (b : Bus) (h : s.bus.state.live = true → b.state.live = true) :
    Kept Q s { s with bus := b } where
  image := id
  capture := id
  claims := id
  settings := id
  counts := id
  slots := id
  stuck := id
  engine := id
  linkUp := id
  live := h
  dead _ i hb := i (by
    by_contra hs
    have hb' : b.state.live = false := hb
    rw [h (by simpa using hs)] at hb'
    exact nomatch hb')
  owners := id
  pending i l n hp := by
    have hw := i l n hp
    simp only [watched, attached, Bool.and_eq_true] at hw ⊢
    exact ⟨hw.1, h hw.2⟩

/-- A slot record agrees with itself (R26). -/
def SlotOk (x : Slot) : Prop := (x.fault = .holdLimit ↔ x.state = .faulted) ∧ (x.present = false ↔ x.state = .empty)

theorem QuietKept.setSlots (s : State) (v : Vector Slot 8) (h : ∀ n : Fin 8, SlotOk s.slots[n] → SlotOk v[n]) :
    QuietKept Q s { s with slots := v } where
  image := id
  capture := id
  claims := id
  settings := id
  counts := id
  slots i n := h n (i n)
  stuck := id
  engine := id
  linkUp := id
  live := id
  dead _ := id

/-- Slot records of which none leaves ATTACHED. -/
theorem Kept.setSlots (s : State) (v : Vector Slot 8) (h : ∀ n : Fin 8, SlotOk s.slots[n] → SlotOk v[n])
    (ha : ∀ n : Fin 8, s.slots[n].state = .attached → v[n].state = .attached) : Kept Q s { s with slots := v } where
  toQuietKept := .setSlots s v h
  owners i n hr := ha _ (i n hr)
  pending i l n hp := by
    have hw := i l n hp
    simp only [watched, attached, Bool.and_eq_true, beq_iff_eq] at hw ⊢
    exact ⟨ha n hw.1, hw.2⟩

theorem Kept.setClaims (s : State) (v : Vector Claim 24) (h : ClaimsDisjoint s → ClaimsDisjoint { s with claims := v }) :
    Kept Q s { s with claims := v } where
  image := id
  capture := id
  claims := h
  settings := id
  counts := id
  slots := id
  stuck := id
  engine := id
  linkUp := id
  live := id
  dead _ := id
  owners := id
  pending := id

/-- No cycle runs. -/
def Cycleless (p : Planner) : Prop := p.cycle = none ∧ p.master = none

theorem Kept.setPlanner (s : State) (p : Planner) (h : Q → s.bus.state.live = false → Cycleless s.planner → Cycleless p) :
    Kept Q s { s with planner := p } where
  image := id
  capture := id
  claims := id
  settings := id
  counts := id
  slots := id
  stuck := id
  engine := id
  linkUp := id
  live := id
  dead hQ i hb := by
    obtain ⟨hc, hm, hrest⟩ := i hb
    obtain ⟨hc', hm'⟩ := h hQ hb ⟨hc, hm⟩
    exact ⟨hc', hm', hrest⟩
  owners := id
  pending := id

/-- The arbiter's counts lie in range (R48). -/
def ArbCounts (a : Arbiter) : Prop := a.owed ≤ 16 ∧ a.lost ≤ 65535 ∧ a.burst ≤ 256

theorem Kept.setArb (s : State) (a : Arbiter) (hc : ArbCounts s.arb → ArbCounts a)
    (hq : s.bus.state.live = false → ArbFree s.arb → ArbFree a) : Kept Q s { s with arb := a } where
  image := id
  capture := id
  claims := id
  settings := id
  counts := fun ⟨howed, hlost, hburst, hrest⟩ => by
    obtain ⟨howed', hlost', hburst'⟩ := hc ⟨howed, hlost, hburst⟩
    exact ⟨howed', hlost', hburst', hrest⟩
  slots := id
  stuck := id
  engine := id
  linkUp := id
  live := id
  dead _ i hb := by
    obtain ⟨hcycle, hmaster, howner, hhold, hgrant, htimer, hrest⟩ := i hb
    obtain ⟨howner', hhold', hgrant', htimer'⟩ := hq hb ⟨howner, hhold, hgrant, htimer⟩
    exact ⟨hcycle, hmaster, howner', hhold', hgrant', htimer', hrest⟩
  owners := id
  pending := id

/-- The operation queue stands still. -/
def QueueIdle (q : OpQueue) : Prop := q.state = .idle ∧ q.access = none

theorem Kept.setQueue (s : State) (q : OpQueue) (h : Q → s.bus.state.live = false → QueueIdle s.queue → QueueIdle q) :
    Kept Q s { s with queue := q } where
  image := id
  capture := id
  claims := id
  settings := id
  counts := id
  slots := id
  stuck := id
  engine := id
  linkUp := id
  live := id
  dead hQ i hb := by
    obtain ⟨hcycle, hmaster, howner, hhold, hgrant, htimer, hstate, haccess, hrest⟩ := i hb
    obtain ⟨hstate', haccess'⟩ := h hQ hb ⟨hstate, haccess⟩
    exact ⟨hcycle, hmaster, howner, hhold, hgrant, htimer, hstate', haccess', hrest⟩
  owners := id
  pending := id

/-- Channel contexts of which none begins to run or changes its owner while it runs. -/
theorem Kept.setChannels (s : State) (v : Vector Channel 4)
    (hs : ∀ n : Fin 4, s.channels[n].stray ≤ 255 → v[n].stray ≤ 255)
    (hr : ∀ n : Fin 4, v[n].state = .running → s.channels[n].state = .running ∧ v[n].owner = s.channels[n].owner) :
    Kept Q s { s with channels := v } where
  image := id
  capture := id
  claims := id
  settings := id
  counts := fun ⟨howed, hlost, hburst, herrors, hdrop, hstray, hrest⟩ =>
    ⟨howed, hlost, hburst, herrors, hdrop, fun n => hs n (hstray n), hrest⟩
  slots := id
  stuck := id
  engine := id
  linkUp := id
  live := id
  dead _ i hb := by
    obtain ⟨hcycle, hmaster, howner, hhold, hgrant, htimer, hstate, haccess, hengine, hchannels, hrest⟩ := i hb
    exact ⟨hcycle, hmaster, howner, hhold, hgrant, htimer, hstate, haccess, hengine,
      fun n hrun => hchannels n (hr n hrun).1, hrest⟩
  owners i n hrun := by
    obtain ⟨hwas, howner⟩ := hr n hrun
    have hsame : v[n].owner = s.channels[n].owner := howner
    show s.slots[v[n].owner].state = .attached
    simp only [hsame]
    exact i n hwas
  pending := id

theorem Kept.setEngine (s : State) (e : Engine)
    (hi : (s.engine.state = .idle → s.engine = resetEngine) → e.state = .idle → e = resetEngine)
    (hd : s.bus.state.live = false → s.engine = resetEngine → e = resetEngine) : Kept Q s { s with engine := e } where
  image := id
  capture := id
  claims := id
  settings := id
  counts := id
  slots := id
  stuck := id
  engine := hi
  linkUp := id
  live := id
  dead _ i hb := by
    obtain ⟨hcycle, hmaster, howner, hhold, hgrant, htimer, hstate, haccess, hengine, hrest⟩ := i hb
    exact ⟨hcycle, hmaster, howner, hhold, hgrant, htimer, hstate, haccess, hd hb hengine, hrest⟩
  owners := id
  pending := id

/-- A timer that does nothing. -/
def TimerStill (t : Timer) : Prop := t.running = false ∧ t.pending = false ∧ t.inService = false

theorem Kept.setTimers (s : State) (v : Vector Timer 4)
    (h : s.bus.state.live = false → ∀ n : Fin 4, TimerStill s.timers[n] → TimerStill v[n]) :
    Kept Q s { s with timers := v } where
  image := id
  capture := id
  claims := id
  settings := id
  counts := id
  slots := id
  stuck := id
  engine := id
  linkUp := id
  live := id
  dead _ i hb := by
    obtain ⟨hcycle, hmaster, howner, hhold, hgrant, htimer, hstate, haccess, hengine, hchannels, htimers, hrest⟩ := i hb
    exact ⟨hcycle, hmaster, howner, hhold, hgrant, htimer, hstate, haccess, hengine, hchannels,
      fun n => h hb n (htimers n), hrest⟩
  owners := id
  pending := id

/-- A line-slot's fields agree (R108, R116). -/
def LineOk (x : LineSlot) : Prop :=
  (x.stuck = true → x.pending = false ∧ x.inService = false) ∧ x.stillAsserted ≤ 4 ∧
    (x.stuck = false → x.stillAsserted < 4)

/-- A line-slot that may stand in for `x` at slot `n`. -/
structure LineMoves (s : State) (n : Fin 8) (x y : LineSlot) : Prop where
  ok : LineOk x → LineOk y
  pending : y.pending = true → x.pending = true ∨ watched s n = true
  dead : s.bus.state.live = false → x.pending = false ∧ x.inService = false → y.pending = false ∧ y.inService = false

theorem LineMoves.refl (s : State) (n : Fin 8) (x : LineSlot) : LineMoves s n x x := ⟨id, .inl, fun _ => id⟩

theorem Kept.setLineSlots (s : State) (v : Vector (Vector LineSlot 8) 12)
    (h : ∀ (l : Fin 12) (n : Fin 8), LineMoves s n s.lineSlots[l][n] v[l][n]) : Kept Q s { s with lineSlots := v } where
  image := id
  capture := id
  claims := id
  settings := id
  counts := id
  slots := id
  stuck i l n := (h l n).ok (i l n)
  engine := id
  linkUp := id
  live := id
  dead _ i hb := by
    obtain ⟨hcycle, hmaster, howner, hhold, hgrant, htimer, hstate, haccess, hengine, hchannels, htimers, hlines⟩ := i hb
    exact ⟨hcycle, hmaster, howner, hhold, hgrant, htimer, hstate, haccess, hengine, hchannels, htimers,
      fun l n => (h l n).dead hb (hlines l n)⟩
  owners := id
  pending i l n hp := ((h l n).pending hp).elim (i l n) id

/-- The capture queue's counts lie in range (R149). -/
def CaptureCounts (c : Capture) : Prop :=
  c.dropTotal ≤ 4294967295 ∧ ∀ src : Source, (c.counts src).coalesced ≤ 255 ∧ (c.counts src).lost ≤ 255

theorem Kept.setCapture (s : State) (c : Capture) (hb : CaptureInBounds s → CaptureInBounds { s with capture := c })
    (hc : CaptureCounts s.capture → CaptureCounts c) : Kept Q s { s with capture := c } where
  image := id
  capture := hb
  claims := id
  settings := id
  counts := fun ⟨howed, hlost, hburst, herrors, hdrop, hstray, hhits, hcounts⟩ => by
    obtain ⟨hdrop', hcounts'⟩ := hc ⟨hdrop, hcounts⟩
    exact ⟨howed, hlost, hburst, herrors, hdrop', hstray, hhits, hcounts'⟩
  slots := id
  stuck := id
  engine := id
  linkUp := id
  live := id
  dead _ := id
  owners := id
  pending := id

theorem Kept.setWatch (s : State) (v : Vector Watch 2)
    (h : ∀ u : Fin 2, s.watch[u].hits ≤ 65535 → v[u].hits ≤ 65535) : Kept Q s { s with watch := v } where
  image := id
  capture := id
  claims := id
  settings := id
  counts := fun ⟨howed, hlost, hburst, herrors, hdrop, hstray, hhits, hcounts⟩ =>
    ⟨howed, hlost, hburst, herrors, hdrop, hstray, fun u => h u (hhits u), hcounts⟩
  slots := id
  stuck := id
  engine := id
  linkUp := id
  live := id
  dead _ := id
  owners := id
  pending := id

theorem Kept.setImage (s : State) (x : Image)
    (h : Memory.wf s.image.cells = true → Memory.wf x.cells = true) : Kept Q s { s with image := x } where
  image := h
  capture := id
  claims := id
  settings := id
  counts := id
  slots := id
  stuck := id
  engine := id
  linkUp := id
  live := id
  dead _ := id
  owners := id
  pending := id

theorem Kept.setLink (s : State) (x : Link) (h : s.link.errors ≤ 65535 → x.errors ≤ 65535)
    (hready : s.link.ready = true → x.ready = true) :
    Kept Q s { s with link := x } where
  image := id
  capture := id
  claims := id
  settings := id
  counts := fun ⟨howed, hlost, hburst, herrors, hrest⟩ => ⟨howed, hlost, hburst, h herrors, hrest⟩
  slots := id
  stuck := id
  engine := id
  linkUp := hready
  live := id
  dead _ := id
  owners := id
  pending := id

theorem Kept.setSettings (s : State) (x : Settings)
    (h : SettingsInRange s → SettingsInRange { s with settings := x }) : Kept Q s { s with settings := x } where
  image := id
  capture := id
  claims := id
  settings := h
  counts := id
  slots := id
  stuck := id
  engine := id
  linkUp := id
  live := id
  dead _ := id
  owners := id
  pending := id

end Sys2Proof.Machine
end

section
/-! PROOFS. O53 to O59: what the link, the capture queue, the interrupt unit, the service engine, the operation queue and
the arbiter keep, operation by operation, up to what every command may let go on. -/

namespace Sys2Proof.Machine

set_option Elab.async false

variable {Q : Prop}

/-! ## One member of a block -/

/-- A relation that holds of every member and itself holds of a vector and its change of one member. -/
theorem upd_related {α : Type} {k : Nat} {R : Fin k → α → α → Prop} (hrefl : ∀ i x, R i x x) (v : Vector α k) (i : Fin k)
    (f : α → α) (h : R i v[i] (f v[i])) (j : Fin k) : R j v[j] (upd v i f)[j] := by
  rw [upd_get]
  split
  · next hij => exact hij ▸ h
  · exact hrefl j _

theorem Kept.modLineSlot (l : Fin 12) (n : Fin 8) (f : LineSlot → LineSlot) (s : State)
    (h : LineMoves s n (lineSlotOf s l n) (f (lineSlotOf s l n))) : Kept Q s (modLineSlot l n f s) :=
  .setLineSlots s _ fun l' n' => by
    have hmoved := lineSlotOf_mod l l' n n' f s
    show LineMoves s n' (lineSlotOf s l' n') (lineSlotOf (Machine.modLineSlot l n f s) l' n')
    rw [hmoved]
    split
    · next hsame =>
      obtain ⟨rfl, rfl⟩ := hsame
      exact h
    · exact .refl _ _ _

theorem Kept.modTimer (n : Fin 4) (f : Timer → Timer) (s : State)
    (h : s.bus.state.live = false → TimerStill s.timers[n] → TimerStill (f s.timers[n])) : Kept Q s (modTimer n f s) :=
  .setTimers s _ fun hb => upd_related (R := fun _ x y => TimerStill x → TimerStill y) (fun _ _ => id) _ n f (h hb)

theorem Kept.modChannel (n : Fin 4) (f : Channel → Channel) (s : State)
    (hs : s.channels[n].stray ≤ 255 → (f s.channels[n]).stray ≤ 255)
    (hr : (f s.channels[n]).state = .running →
      s.channels[n].state = .running ∧ (f s.channels[n]).owner = s.channels[n].owner) : Kept Q s (modChannel n f s) :=
  .setChannels s _
    (upd_related (R := fun _ (x y : Channel) => x.stray ≤ 255 → y.stray ≤ 255) (fun _ _ => id) _ n f hs)
    (upd_related (R := fun _ (x y : Channel) => y.state = .running → x.state = .running ∧ y.owner = x.owner)
      (fun _ _ h => ⟨h, rfl⟩) _ n f hr)

theorem Kept.modQueue (f : OpQueue → OpQueue) (s : State)
    (h : Q → s.bus.state.live = false → QueueIdle s.queue → QueueIdle (f s.queue)) : Kept Q s (modQueue f s) :=
  .setQueue s _ h

theorem Kept.modArb (f : Arbiter → Arbiter) (s : State) (hc : ArbCounts s.arb → ArbCounts (f s.arb))
    (hq : s.bus.state.live = false → ArbFree s.arb → ArbFree (f s.arb)) : Kept Q s (modArb f s) :=
  .setArb s _ hc hq

/-- An engine that is not at its part reset values changes without falling idle. -/
theorem Kept.modEngine_busy {s : State} (hbusy : s.engine ≠ resetEngine) (f : Engine → Engine)
    (hf : (f s.engine).state = s.engine.state ∨ (f s.engine).state ≠ .idle) : Kept Q s (modEngine f s) :=
  .setEngine s _
    (fun hidle h => hf.elim (fun e => absurd (hidle (e.symm.trans h)) hbusy) fun e => absurd h e)
    fun _ h => absurd h hbusy

/-- A change that leaves a reset engine as it is. -/
theorem Kept.modEngine_calm (s : State) (f : Engine → Engine) (hstate : (f s.engine).state = s.engine.state)
    (hreset : f resetEngine = resetEngine) : Kept Q s (modEngine f s) := by
  have hcalm (h : s.engine = resetEngine) : f s.engine = resetEngine := by rw [h, hreset]
  exact .setEngine s _ (fun hidle h => hcalm (hidle (hstate.symm.trans h))) fun _ => hcalm

theorem watched_live {s : State} {n : Fin 8} (h : watched s n = true) : s.bus.state.live = true := by
  simp only [watched, Bool.and_eq_true] at h
  exact h.2

/-! ## The link (R182, R189) -/

theorem sendAll_kept (fs : List Frame) (s : State) : Kept Q s (sendAll fs s) := .ite (.setLink s _ id id) (.refl s)

theorem reply_kept (kind tag : Byte) (status : Status) (fields : List Byte) (s : State) :
    Kept Q s (reply kind tag status fields s) := sendAll_kept _ s

theorem replyLater_kept (kind : Byte) (w : Waiting) (status : Status) (fields : List Byte) (s : State) :
    Kept Q s (replyLater kind w status fields s) := .ite (reply_kept _ _ _ _ s) (.refl s)

theorem notice_kept (kind : Nat) (fields : List Byte) (s : State) : Kept Q s (notice kind fields s) :=
  .ite (.ite (sendAll_kept _ s) (.setLink s _ id id)) (.refl s)

theorem Kept.replied {s t : State} (h : Kept Q s t) (kind tag : Byte) (status : Status) (fields : List Byte) :
    Kept Q s (reply kind tag status fields t) := h.trans (reply_kept kind tag status fields t)

theorem eitherOrder_kept {f g : State → State} (hf : ∀ s, Kept Q s (f s)) (hg : ∀ s, Kept Q s (g s)) (s : State) :
    Kept Q s (eitherOrder f g s) := by
  have hused : Kept Q s (usedChoice s) := .of_touches (touches_choices (l := [.choices]) s _)
  exact .ite ((hused.trans (hf _)).trans (hg _)) ((hused.trans (hg _)).trans (hf _))

/-! ## The capture queue -/

theorem numberedFrom_append : ∀ {rs : List Record} {k : Word16} {r : Record}, NumberedFrom k rs →
    r.sequence = k + BitVec.ofNat 16 rs.length → NumberedFrom k (rs ++ [r])
  | [], k, r, _, hr => ⟨by simpa using hr, trivial⟩
  | x :: xs, k, r, ⟨hx, hxs⟩, hr => by
    refine ⟨hx, numberedFrom_append hxs ?_⟩
    rw [hr, List.length_cons, Nat.add_comm, BitVec.ofNat_add, ← BitVec.add_assoc]
    rfl

theorem numberedFrom_drop : ∀ {rs : List Record} {k : Word16} (n : Nat), NumberedFrom k rs →
    NumberedFrom (k + BitVec.ofNat 16 n) (rs.drop n)
  | [], _, _, _ => by simp [NumberedFrom]
  | _ :: _, _, 0, h => by simpa using h
  | _ :: xs, k, n + 1, ⟨_, hxs⟩ => by
    have h := numberedFrom_drop n hxs
    rwa [BitVec.add_assoc, show (1 : Word16) + BitVec.ofNat 16 n = BitVec.ofNat 16 (n + 1) by
      rw [Nat.add_comm, BitVec.ofNat_add]
      rfl] at h

/-- A record stored with room for it. -/
theorem captureInBounds_stored {s : State} (h : CaptureInBounds s) {r : Record} (hfits : s.capture.fits r = true) :
    CaptureInBounds { s with capture := storedCapture r s.capture } := by
  obtain ⟨-, -, hrun⟩ := h
  obtain ⟨hroom, hbytes⟩ := (fits_iff _ _).mp hfits
  refine ⟨?_, ?_, ?_⟩
  · exact (recordCount_storedCapture r s.capture).le.trans (by omega)
  · exact (byteCount_storedCapture r s.capture).le.trans hbytes
  · have hstart : s.capture.seq + 1 - BitVec.ofNat 16 (storedCapture r s.capture).recordCount =
        s.capture.seq - BitVec.ofNat 16 s.capture.recordCount := by
      rw [recordCount_storedCapture, BitVec.ofNat_add, Capture.recordCount]
      exact add_sub_add_right_eq_sub _ _ _
    show NumberedFrom (s.capture.seq + 1 - BitVec.ofNat 16 (storedCapture r s.capture).recordCount) _
    rw [hstart]
    exact numberedFrom_append hrun (sub_add_cancel _ _).symm

/-- The oldest records removed. -/
theorem captureInBounds_dropped {s : State} (h : CaptureInBounds s) (n : Nat) :
    CaptureInBounds { s with capture := { s.capture with records := s.capture.records.drop n } } := by
  obtain ⟨hrecords, hbytes, hrun⟩ := h
  have hsplit : (s.capture.records.map fun r => r.data.length).sum =
      ((s.capture.records.take n).map fun r => r.data.length).sum +
        ((s.capture.records.drop n).map fun r => r.data.length).sum := by
    rw [← List.sum_append, ← List.map_append, List.take_append_drop]
  refine ⟨?_, ?_, ?_⟩
  · exact (List.length_drop.le.trans (Nat.sub_le _ _)).trans hrecords
  · refine le_trans ?_ hbytes
    show ((s.capture.records.drop n).map fun r => r.data.length).sum ≤ (s.capture.records.map fun r => r.data.length).sum
    omega
  · show NumberedFrom (s.capture.seq - BitVec.ofNat 16 (s.capture.records.drop n).length) (s.capture.records.drop n)
    by_cases hn : n ≤ s.capture.records.length
    · have hstart : s.capture.seq - BitVec.ofNat 16 (s.capture.records.drop n).length =
          s.capture.seq - BitVec.ofNat 16 s.capture.recordCount + BitVec.ofNat 16 n := by
        obtain ⟨k, hk⟩ := Nat.exists_eq_add_of_le hn
        rw [List.length_drop, Capture.recordCount, hk, Nat.add_sub_cancel_left, BitVec.ofNat_add]
        exact (by ring : s.capture.seq - BitVec.ofNat 16 k =
          s.capture.seq - (BitVec.ofNat 16 n + BitVec.ofNat 16 k) + BitVec.ofNat 16 n)
      rw [hstart]
      exact numberedFrom_drop n hrun
    · rw [List.drop_eq_nil_of_le (by omega)]
      trivial

/-- A change of one source's counts that stops at 255. -/
theorem captureCounts_modCounts {c : Capture} (h : CaptureCounts c) (src : Source) (f : Counts → Counts)
    (hzero : ∀ k, k.coalesced = 0 → (f k).coalesced = 0)
    (hf : ∀ k : Counts, k.coalesced ≤ 255 → k.lost ≤ 255 → (f k).coalesced ≤ 255 ∧ (f k).lost ≤ 255) :
    CaptureCounts (c.modCounts src f) := by
  obtain ⟨hdrop, hcounts⟩ := h
  refine ⟨(modCounts_dropTotal c src f).le.trans hdrop, fun src' => ?_⟩
  rw [counts_modCounts c src src' f hzero]
  obtain ⟨hcoalesced, hlost⟩ := hcounts src'
  split
  · exact hf _ hcoalesced hlost
  · exact ⟨hcoalesced, hlost⟩

/-- A change of the capture queue that leaves its records. -/
theorem Kept.setCapture_counts (s : State) (c : Capture) (hrecords : c.records = s.capture.records)
    (hseq : c.seq = s.capture.seq) (hc : CaptureCounts s.capture → CaptureCounts c) :
    Kept Q s { s with capture := c } :=
  .setCapture s c (fun h => by
    simpa only [CaptureInBounds, Capture.recordCount, Capture.byteCount, hrecords, hseq] using h) hc

/-- Line-slots and timers hold a coalesced count; channels and watch units hold none (R149). -/
theorem raiseCoalesced_counts (src : Source) (c : Capture) (h : CaptureCounts c) :
    CaptureCounts (c.modCounts src fun k => { k with coalesced := min 255 (k.coalesced + 1) }) := by
  obtain ⟨hdrop, hcounts⟩ := h
  refine ⟨(modCounts_dropTotal c src _).le.trans hdrop, fun src' => ?_⟩
  have hsrc' := hcounts src'
  cases src with
  | lineSlot l n =>
    cases src' with
    | lineSlot l' n' =>
      simp only [Capture.modCounts, Capture.counts, upd_get] at hsrc' ⊢
      split
      · simp only [upd_get]
        split
        · exact ⟨Nat.min_le_left _ _, hsrc'.2⟩
        · exact hsrc'
      · exact hsrc'
    | _ => exact hsrc'
  | timer n =>
    cases src' with
    | timer n' =>
      simp only [Capture.modCounts, Capture.counts, upd_get] at hsrc' ⊢
      split
      · exact ⟨Nat.min_le_left _ _, hsrc'.2⟩
      · exact hsrc'
    | _ => exact hsrc'
  | channel n =>
    cases src' with
    | channel n' =>
      simp only [Capture.modCounts, Capture.counts, upd_get, ite_self] at hsrc' ⊢
      exact hsrc'
    | _ => exact hsrc'
  | watch u =>
    cases src' with
    | watch u' =>
      simp only [Capture.modCounts, Capture.counts, upd_get, ite_self] at hsrc' ⊢
      exact hsrc'
    | _ => exact hsrc'

theorem raiseCoalesced_kept (src : Source) (s : State) : Kept Q s (raiseCoalesced src s) :=
  .setCapture_counts s _ (modCounts_records _ _ _) (modCounts_seq _ _ _) (raiseCoalesced_counts src s.capture)

/-- The high flag is in no invariant. -/
theorem Kept.setHigh (s : State) (b : Bool) : Kept Q s { s with capture := { s.capture with high := b } } :=
  .setCapture_counts s _ rfl rfl id

theorem testHighAfterStore_kept (s : State) : Kept Q s (testHighAfterStore s) :=
  .ite ((Kept.setHigh s true).trans (notice_kept _ _ _)) (.refl s)

theorem testHigh_kept (s : State) : Kept Q s (testHigh s) :=
  .ite (.ite (.refl s) ((Kept.setHigh s true).trans (notice_kept _ _ _))) (.setHigh s false)

theorem handRecord_kept (r : Record) (s : State) : Kept Q s (handRecord r s) := by
  refine .ite_of (fun hfits => ?_) fun _ => ?_
  · rw [storeRecord_eq]
    refine (Kept.setCapture s (storedCapture r s.capture) (fun h => captureInBounds_stored h hfits) ?_).trans
      (testHighAfterStore_kept _)
    exact fun h => captureCounts_modCounts h r.source _ (fun _ _ => rfl) fun _ _ _ => by decide
  · refine .setCapture_counts s _ (modCounts_records _ _ _) (modCounts_seq _ _ _) fun h => ?_
    obtain ⟨-, hcounts⟩ := captureCounts_modCounts h r.source (fun k => { k with lost := min 255 (k.lost + 1) })
      (fun _ hk => hk) fun _ hk _ => ⟨hk, Nat.min_le_left _ _⟩
    exact ⟨Nat.min_le_left _ _, hcounts⟩

theorem drainRecords_kept (tag ne : Byte) (s : State) : Kept Q s (drainRecords tag ne s) := by
  refine .ite (reply_kept _ _ _ _ s) ?_
  have hdropped : Kept Q s { s with capture := { s.capture with
      records := s.capture.records.drop (drainCount ne.toNat 4 s.capture.records) } } :=
    .setCapture s _ (fun h => captureInBounds_dropped h _) id
  exact Kept.replied (.ite hdropped (hdropped.trans (testHigh_kept _))) _ _ _ _

theorem drainAndClear_kept (tag ne : Byte) (s : State) : Kept Q s (drainAndClear tag ne s) := by
  refine .ite (reply_kept _ _ _ _ s) ?_
  have hcleared : Kept Q s { s with capture := { s.capture with records := [], high := false } } :=
    .setCapture s _ (fun _ => ⟨Nat.zero_le _, Nat.zero_le _, trivial⟩) id
  exact hcleared.replied _ _ _ _

/-! ## The interrupt unit -/

/-- A line-slot's pending is set only where it is watched and not stuck. -/
theorem lineMoves_pending {s : State} {n : Fin 8} {x : LineSlot} (hw : watched s n = true) (hx : x.stuck = false) :
    LineMoves s n x { x with pending := true } where
  ok h := ⟨fun hs => (Bool.eq_false_iff.mp hx hs).elim, h.2⟩
  pending _ := .inr hw
  dead hb := by
    rw [watched_live hw] at hb
    exact nomatch hb

theorem evaluate_kept (l : Fin 12) (n : Fin 8) (s : State) : Kept Q s (evaluate l n s) := by
  refine .ite_of (fun h => ?_) fun _ => .refl s
  simp only [Bool.and_eq_true, Bool.not_eq_true'] at h
  obtain ⟨⟨⟨⟨-, hw⟩, -⟩, -⟩, hstuck⟩ := h
  exact .modLineSlot l n _ s (lineMoves_pending hw hstuck)

theorem risingEdge_kept (l : Fin 12) {n : Fin 8} {s : State} (hw : watched s n = true) :
    Kept Q s (risingEdge l n s) := by
  refine .ite_of (fun _ => .refl s) fun hstuck => .ite (raiseCoalesced_kept _ s) ?_
  exact .modLineSlot l n _ s (lineMoves_pending hw (by simpa using hstuck))

/-- The reference level is in no invariant. -/
theorem Kept.setReference (l : Fin 12) (n : Fin 8) (b : Bool) (s : State) :
    Kept Q s (Machine.modLineSlot l n (fun x => { x with reference := b }) s) :=
  .modLineSlot l n _ s ⟨id, .inl, fun _ => id⟩

theorem takeReferences_kept (n : Fin 8) (s : State) : Kept Q s (takeReferences n s) :=
  kept_foldl (fun t l => .setReference l n (asserted t l n) t) allLines s

theorem evaluateSlot_kept (n : Fin 8) (s : State) : Kept Q s (evaluateSlot n s) :=
  kept_foldl (fun t l => evaluate_kept l n t) allLines s

theorem startWatching_kept (n : Fin 8) (s : State) : Kept Q s (startWatching n s) :=
  .ite ((takeReferences_kept n s).trans (evaluateSlot_kept n _)) (.refl s)

theorem modLineSlot_modLineSlot (l : Fin 12) (n : Fin 8) (f g : LineSlot → LineSlot) (s : State) :
    modLineSlot l n g (modLineSlot l n f s) = modLineSlot l n (fun x => g (f x)) s := by
  simp only [modLineSlot, upd_upd]

/-- A line-slot in service is not stuck, so its still-asserted count is below 4. -/
theorem lineOk_of_inService {x : LineSlot} (h : LineOk x) (hx : x.inService = true) :
    x.stuck = false ∧ x.stillAsserted < 4 := by
  obtain ⟨hstuck, -, hbelow⟩ := h
  have hfree : x.stuck = false := by
    by_contra hs
    have hout := (hstuck (by simpa using hs)).2
    exact Bool.false_ne_true (hout.symm.trans hx)
  exact ⟨hfree, hbelow hfree⟩

/-- A service that ends takes its line-slot out of service, and counts it still asserted, stuck the fourth time. -/
theorem endLineService_kept (l : Fin 12) (n : Fin 8) (s : State) : Kept Q s (endLineService l n s) := by
  refine .ite_of (fun hin => ?_) fun _ => .refl s
  refine .ite ?_ (.modLineSlot l n _ s ⟨fun h => ⟨fun hs => ⟨(h.1 hs).1, rfl⟩, h.2⟩, .inl, fun _ h => ⟨h.1, rfl⟩⟩)
  unfold sampleLine
  simp only [modLineSlot_modLineSlot, lineSlotOf_mod_self]
  refine .ite (.ite_of (fun hbelow => ?_) fun _ => ?_) ?_
  · refine (Kept.modLineSlot l n _ s ⟨fun h => ?_, .inl, fun _ h => ⟨h.1, rfl⟩⟩).trans (evaluate_kept l n _)
    obtain ⟨hfree, -⟩ := lineOk_of_inService h hin
    exact ⟨fun hs => absurd (hfree.symm.trans hs) Bool.false_ne_true, Nat.le_of_lt hbelow, fun _ => hbelow⟩
  · refine (Kept.modLineSlot l n _ s ⟨fun h => ?_, .inl ∘ (absurd · Bool.false_ne_true), fun _ _ => ⟨rfl, rfl⟩⟩).trans (notice_kept _ _ _)
    obtain ⟨-, hbelow⟩ := lineOk_of_inService h hin
    exact ⟨fun _ => ⟨rfl, rfl⟩, hbelow, (absurd ·.symm Bool.false_ne_true)⟩
  · refine (Kept.modLineSlot l n _ s ⟨fun h => ?_, .inl, fun _ h => ⟨h.1, rfl⟩⟩).trans (evaluate_kept l n _)
    exact ⟨fun hs => ⟨(h.1 hs).1, rfl⟩, Nat.zero_le 4, fun _ => Nat.zero_lt_succ 3⟩

theorem lineMoves_dropped (s : State) (n : Fin 8) (x : LineSlot) : LineMoves s n x x.dropped :=
  ⟨fun _ => ⟨fun _ => ⟨rfl, rfl⟩, Nat.zero_le 4, fun _ => Nat.zero_lt_succ 3⟩, (absurd · Bool.false_ne_true), fun _ _ => ⟨rfl, rfl⟩⟩

theorem dropSlotLines_kept (n : Fin 8) (s : State) : Kept Q s (dropSlotLines n s) :=
  .setLineSlots s _ fun l k => by
    rw [mapAll_get]
    exact upd_related (R := fun k x y => LineMoves s k x y) (LineMoves.refl s) s.lineSlots[l] n LineSlot.dropped
      (lineMoves_dropped s n _) k

theorem dropAllLines_kept (s : State) : Kept Q s (dropAllLines s) :=
  .setLineSlots s _ fun l k => by
    rw [mapAll_get, mapAll_get]
    exact lineMoves_dropped s k _

theorem forBitmap_kept (b : Byte) {f : Fin 8 → State → State} (h : ∀ n s, Kept Q s (f n s)) (s : State) :
    Kept Q s (forBitmap b f s) := kept_foldl (fun _ _ => .ite (h _ _) (.refl _)) _ s

theorem configureLine_kept (l : Fin 12) (c : LineConfig) (s : State) : Kept Q s (configureLine l c s) := by
  have hstored : Kept Q s { s with lines := upd s.lines l fun _ => c } := .of_touches (touches_lines (l := [.lines]) s _)
  have hcleared (t : State) : Kept Q t { t with
      lineSlots := upd t.lineSlots l fun row => mapAll (fun x => { x with pending := false, stillAsserted := 0 }) row } :=
    .setLineSlots t _ fun l' n => by
      refine upd_related (R := fun _ x y => LineMoves t n x[n] y[n]) (fun _ x => LineMoves.refl t n x[n]) t.lineSlots l _
        ?_ l'
      simp only [mapAll_get]
      exact ⟨fun h => ⟨fun hs => ⟨rfl, (h.1 hs).2⟩, Nat.zero_le 4, fun _ => Nat.zero_lt_succ 3⟩, (absurd · Bool.false_ne_true),
        fun _ h => ⟨rfl, h.2⟩⟩
  exact .ite (.ite ((hstored.trans (hcleared _)).trans (kept_foldl (fun _ _ => evaluate_kept _ _ _) _ _))
    (hstored.trans (hcleared _))) hstored

theorem clearStuckAt_kept (l : Fin 12) (n : Fin 8) (s : State) : Kept Q s (clearStuckAt l n s) :=
  (Kept.modLineSlot l n _ s ⟨fun _ => ⟨(absurd · Bool.false_ne_true), Nat.zero_le 4, fun _ => Nat.zero_lt_succ 3⟩, .inl, fun _ => id⟩).trans
    (evaluate_kept l n _)

theorem clearPendingAt_kept (l : Fin 12) (n : Fin 8) (s : State) : Kept Q s (clearPendingAt l n s) :=
  .modLineSlot l n _ s ⟨fun h => ⟨fun hs => ⟨rfl, (h.1 hs).2⟩, h.2⟩, (absurd · Bool.false_ne_true), fun _ h => ⟨rfl, h.2⟩⟩

/-! ## The service engine -/

/-- Nothing is selected on a dead bus (R113, R148). -/
theorem selected_of_dead {s : State} (h : s.bus.state.live = false) : selected s = none := by
  have hrun : (s.bus.state == .run) = false := by cases hs : s.bus.state <;> simp_all [BusState.live]
  have hhold : (s.bus.state == .hold) = false := by cases hs : s.bus.state <;> simp_all [BusState.live]
  have hline (keep : Bool) : firstLine s keep = none := by simp [firstLine, lineEligible, hrun, hhold]
  have htimer (keep : Bool) : firstTimer s keep = none := by simp [firstTimer, timerEligible, hrun, hhold]
  simp only [selected, hline, htimer]

theorem selected_live {s : State} {src : Source} (h : selected s = some src) : s.bus.state.live = true := by
  by_contra hdead
  rw [selected_of_dead (by simpa using hdead)] at h
  exact nomatch h

theorem engine_busy_of_entry {s : State} {e : Option (Fin 24)} (h : s.engine.entry = some e) : s.engine ≠ resetEngine := by
  intro hreset
  rw [hreset] at h
  exact nomatch h

theorem entry_of_step {s : State} {st : Step} (h : currentStep s = some st) : ∃ e, s.engine.entry = some e := by
  cases hentry : s.engine.entry with
  | none =>
    rw [currentStep, hentry] at h
    exact nomatch h
  | some e => exact ⟨e, rfl⟩

theorem engine_busy_of_step {s : State} {st : Step} (h : currentStep s = some st) : s.engine ≠ resetEngine :=
  (entry_of_step h).elim fun _ hentry => engine_busy_of_entry hentry

theorem engine_busy_of_access {s : State} {a : Access} (h : s.engine.access = some a) : s.engine ≠ resetEngine := by
  intro hreset
  rw [hreset] at h
  exact nomatch h

theorem engine_busy_of_state {s : State} (h : s.engine.state ≠ .idle) : s.engine ≠ resetEngine :=
  fun hreset => h (hreset ▸ rfl)

theorem beginStep_kept (s : State) : Kept Q s (beginStep s) := by
  unfold beginStep
  split
  · next hstep => exact .modEngine_busy (engine_busy_of_step hstep) _ (.inl rfl)
  · exact .refl s

/-- The source a selection takes was pending and not stuck. -/
theorem takeSource_kept {src : Source} {s : State} (h : selected s = some src) : Kept Q s (takeSource src s) := by
  have hlive := selected_live h
  obtain ⟨l, n, rfl, -, hstuck⟩ | ⟨n, rfl, -⟩ := selected_pending h
  · refine .modLineSlot l n _ s ⟨fun hok => ⟨fun hs => ?_, hok.2⟩, (absurd · Bool.false_ne_true), fun hb => ?_⟩
    · exact absurd (hstuck.symm.trans hs) Bool.false_ne_true
    · exact absurd (hb.symm.trans hlive) Bool.false_ne_true
  · exact .modTimer n _ s fun hb => absurd (hb.symm.trans hlive) Bool.false_ne_true

theorem beginService_kept {src : Source} {s : State} (h : selected s = some src) : Kept Q s (beginService src s) := by
  refine (takeSource_kept h).trans (.setEngine _ _ (fun _ hidle => nomatch hidle) fun hb => ?_)
  rw [show (takeSource src s).bus = s.bus from takeSource_touches src s .bus (by decide)] at hb
  exact absurd (hb.symm.trans (selected_live h)) Bool.false_ne_true

theorem releaseSource_kept (src : Source) (s : State) : Kept Q s (releaseSource src s) := by
  cases src with
  | lineSlot l n => exact endLineService_kept l n s
  | timer n => exact .modTimer n _ s fun _ h => ⟨h.1, h.2.1, rfl⟩
  | channel n => exact .refl s
  | watch u => exact .refl s

theorem Kept.resetEngine (s : State) : Kept Q s { s with engine := resetEngine } :=
  .setEngine s _ (fun _ _ => rfl) fun _ _ => rfl

theorem finishService_kept (s : State) : Kept Q s (finishService s) := by
  unfold finishService
  split
  · have hreleased := releaseSource_kept (Q := Q) ‹_› s
    exact (Kept.ite (hreleased.trans (handRecord_kept _ _)) hreleased).trans (.resetEngine _)
  · exact .resetEngine s

theorem selectServices_kept : ∀ (k : Nat) (s : State), Kept Q s (selectServices k s)
  | 0, s => .refl s
  | k + 1, s => by
    unfold selectServices
    refine .ite ?_ (.refl s)
    split
    · next src h =>
      exact .ite (((beginService_kept h).trans (finishService_kept _)).trans (selectServices_kept k _))
        ((beginService_kept h).trans (beginStep_kept _))
    · exact .refl s

theorem serviceSelect_kept (s : State) : Kept Q s (serviceSelect s) := selectServices_kept _ s

theorem endService_kept (s : State) : Kept Q s (endService s) := (finishService_kept s).trans (serviceSelect_kept _)

theorem stepBoundary_kept (s : State) : Kept Q s (stepBoundary s) := by
  unfold stepBoundary
  split
  · next e hentry =>
    have hnext : Kept Q s (modEngine (fun g => { g with step := g.step + 1, done := 0 }) s) :=
      .modEngine_busy (engine_busy_of_entry hentry) _ (.inl rfl)
    refine .ite (.ite (hnext.trans (.modEngine_busy ?_ _ (.inr (by simp)))) (hnext.trans (beginStep_kept _)))
      (endService_kept s)
    exact engine_busy_of_entry (s := modEngine _ s) hentry
  · exact endService_kept s

theorem serviceAccessDone_kept (a : Access) (s : State) : Kept Q s (serviceAccessDone a s) := by
  unfold serviceAccessDone
  split
  · next st hstep =>
    obtain ⟨e, hentry⟩ := entry_of_step hstep
    have htaken : Kept Q s (modEngine (fun g => { g with
        access := none
        done := g.done + 1
        captured := g.captured ++ (if st.reads then a.data else [])
        flags := g.flags.joinAccess a.flags }) s) := .modEngine_busy (engine_busy_of_step hstep) _ (.inl rfl)
    refine .ite (.ite htaken (htaken.trans (stepBoundary_kept _))) ((htaken.trans ?_).trans (stepBoundary_kept _))
    refine .modEngine_busy ?_ _ (.inl rfl)
    exact engine_busy_of_entry (s := modEngine _ s) hentry
  · exact .modEngine_calm s _ rfl rfl

theorem markHeld_kept (s : State) : Kept Q s (markHeld s) :=
  .ite_of (fun _ => .refl s) fun h => .modEngine_busy (engine_busy_of_state (by simpa using h)) _ (.inl rfl)

theorem resumeService_kept (s : State) : Kept Q s (resumeService s) := by
  refine .ite_of (fun h => ?_) fun _ => .refl s
  have hstate : s.engine.state = .suspended := by simpa using h
  exact (Kept.modEngine_busy (engine_busy_of_state (by rw [hstate]; decide)) _ (.inr (by simp))).trans (beginStep_kept _)

theorem abortService_kept (s : State) : Kept Q s (abortService s) := by
  refine (Kept.resetEngine s).trans (.setTimers { s with engine := Machine.resetEngine } _ fun _ n _ => ?_)
  rw [mapAll_get]
  exact ⟨rfl, rfl, rfl⟩

/-! ## The operation queue -/

theorem buildReply_kept (s : State) (f : OpenFrame) : Kept Q s (buildReply s f) := .ite (reply_kept _ _ _ _ s) (.refl s)

theorem closeFrames_kept (s : State) : Kept Q s (closeFrames s) :=
  (Kept.modQueue _ s fun _ _ => id).trans (kept_foldl buildReply_kept _ _)

theorem endOp_kept (status : OpStatus) (s : State) : Kept Q s (endOp status s) := by
  unfold endOp
  split
  · exact .refl s
  · refine (Kept.setQueue s _ fun _ _ _ => ?_).trans (closeFrames_kept _)
    dsimp only
    split
    · exact ⟨rfl, rfl⟩
    · exact ⟨rfl, rfl⟩

theorem startRounds_kept : ∀ (k : Nat) (s : State), Kept Q s (startRounds k s)
  | 0, s => .refl s
  | k + 1, s => by
    unfold startRounds
    refine .ite_of (fun h => ?_) fun _ => .refl s
    obtain ⟨-, hlive⟩ := Bool.and_eq_true_iff.mp h
    have hstarts (f : OpQueue → OpQueue) : Kept Q s (modQueue f s) :=
      .modQueue f s fun _ hb => absurd (hb.symm.trans hlive) Bool.false_ne_true
    split
    · exact .refl s
    · split
      · exact hstarts _
      · exact hstarts _
      · exact hstarts _
      · exact .ite ((endOp_kept _ s).trans (startRounds_kept k _)) (hstarts _)

theorem startOps_kept (s : State) : Kept Q s (startOps s) := startRounds_kept _ s

theorem tellQueue_kept (n : Fin 4) (s : State) : Kept Q s (tellQueue n s) := by
  unfold tellQueue
  split
  · split
    · exact .ite ((Kept.modQueue _ s fun _ _ => id).trans (endOp_kept _ _)) (.refl s)
    · exact .refl s
    · exact .refl s
    · exact .refl s
  · exact .refl s

theorem queueAccessDone_kept (a : Access) (s : State) : Kept Q s (queueAccessDone a s) := by
  unfold queueAccessDone
  split
  · exact .modQueue _ s fun _ _ h => ⟨h.1, rfl⟩
  · have htaken (op : OpRecord) (rest : List OpRecord) :
        Kept Q s (modQueue (fun q => { q with ops := op :: rest, access := none }) s) :=
      .modQueue _ s fun _ _ h => ⟨h.1, rfl⟩
    dsimp only
    split
    · exact .ite (htaken _ _) ((htaken _ _).trans (endOp_kept _ _))
    · exact (htaken _ _).trans (endOp_kept _ _)
    · exact (htaken _ _).trans (endOp_kept _ _)

theorem probeDone_kept (samples : List Byte) (bitmap : Byte) (timedOut : Bool) (cycles : Nat) (s : State) :
    Kept Q s (probeDone samples bitmap timedOut cycles s) := by
  unfold probeDone
  split
  · exact .refl s
  · exact (Kept.modQueue _ s fun _ _ => id).trans (endOp_kept _ _)

theorem flushQueue_kept (s : State) : Kept Q s (flushQueue s) :=
  (Kept.setQueue s _ fun _ _ _ => ⟨rfl, rfl⟩).trans (kept_foldl buildReply_kept _ _)

theorem acceptOps_kept (tag : Byte) (stop : Bool) (ops : List RawOp) (s : State) :
    Kept Q s (acceptOps tag stop ops s) := .modQueue _ s fun _ _ => id

/-! ## The arbiter -/

/-- A change of the arbiter on a live bus. -/
theorem Kept.modArb_live {s : State} (hlive : s.bus.state.live = true) (f : Arbiter → Arbiter)
    (hc : ArbCounts s.arb → ArbCounts (f s.arb)) : Kept Q s (Machine.modArb f s) :=
  .modArb f s hc fun hb => absurd (hb.symm.trans hlive) Bool.false_ne_true

theorem grantChannel_kept (n : Fin 4) {s : State} (hlive : s.bus.state.live = true) : Kept Q s (grantChannel n s) := by
  unfold grantChannel
  split
  · refine .modArb_live hlive _ fun h => ?_
    dsimp only
    split
    · exact h
    · exact h
  · exact .modArb_live hlive _ id
  · exact .ite (.modArb_live hlive _ fun h => ⟨h.1, h.2.1, Nat.zero_le _⟩) (.modArb_live hlive _ id)
  · exact .ite (.modArb_live hlive _ id) (.modArb_live hlive _ id)

/-- No claim is eligible on a dead bus (R51). -/
theorem bestClaim_of_dead {s : State} (h : s.bus.state.live = false) : bestClaim s = .none := by
  have hrun : (s.bus.state == .run) = false := by cases hs : s.bus.state <;> simp_all [BusState.live]
  have hhold : (s.bus.state == .hold) = false := by cases hs : s.bus.state <;> simp_all [BusState.live]
  simp [bestClaim, refreshing, hrun, hhold, h]

theorem arbDecide_kept (s : State) : Kept Q s (arbDecide s) := by
  refine .ite ?_ (.refl s)
  cases hbus : s.bus.state.live with
  | false =>
    rw [bestClaim_of_dead hbus]
    exact .refl s
  | true =>
    split
    · exact grantChannel_kept _ hbus
    · exact .modArb_live hbus _ id
    · exact .modArb_live hbus _ id
    · exact .modArb_live hbus _ id
    · exact .refl s
    · exact .refl s

/-- What lets work go on after a command keeps every invariant. -/
theorem settle_kept (s : State) : Kept Q s (settle s) :=
  ((startOps_kept s).trans (serviceSelect_kept _)).trans (arbDecide_kept _)

theorem Kept.settled {s t : State} (h : Kept Q s t) : Kept Q s (settle t) := h.trans (settle_kept t)

theorem heldBy_of_free {a : Arbiter} (h : ArbFree a) : heldBy a = none := by
  rw [heldBy, h.hold]

theorem holdBoundary_kept (o : Owner) (s : State) : Kept Q s (holdBoundary o s) := by
  unfold holdBoundary
  split
  · next n hheld =>
    have hfree (h : ArbFree s.arb) : False := nomatch (heldBy_of_free h).symm.trans hheld
    exact .ite (.modArb _ s (fun h => ⟨h.1, h.2.1, Nat.zero_le _⟩) fun _ h => (hfree h).elim)
      (.ite (.modArb _ s id fun _ h => (hfree h).elim) (.modArb _ s id fun _ h => (hfree h).elim))
  · exact .refl s

theorem markHoldEnding_kept (s : State) : Kept Q s (markHoldEnding s) :=
  .ite (.modArb _ s id fun _ h => ⟨h.owner, h.hold, h.grant, h.timer⟩) (.refl s)

theorem dropUnstartedGrant_kept (n : Fin 4) (s : State) : Kept Q s (dropUnstartedGrant n s) :=
  .ite (.modArb _ s (fun h => ⟨h.1, h.2.1, Nat.zero_le _⟩) fun _ h => ⟨rfl, rfl, h.grant, h.timer⟩) (.refl s)

theorem endCascade_kept (n : Fin 4) (s : State) : Kept Q s (endCascade n s) := by
  have htimer : Kept Q s (if s.arb.timerChannel = some n then modArb stopHoldTimer s else s) :=
    .ite (.modArb _ s id fun _ h => ⟨h.owner, h.hold, h.grant, rfl⟩) (.refl s)
  exact .ite (.ite (htimer.trans (.modArb _ _ id fun _ h => ⟨h.owner, h.hold, rfl, h.timer⟩))
    (htimer.trans (.modArb _ _ id fun _ h => ⟨rfl, rfl, rfl, h.timer⟩))) htimer

theorem withdrawCascade_kept (s : State) : Kept Q s (withdrawCascade s) :=
  .ite (.modArb _ s id fun _ h => ⟨by
    show (if s.planner.master.isSome then s.arb.owner else .none) = .none
    rw [h.owner, ite_self], rfl, rfl, h.timer⟩) (.refl s)

theorem applySettings_kept (s : State) : Kept Q s (applySettings s) := by
  have hclock : Kept Q s (applyClock s) := .setBus s _ id
  exact .ite (hclock.trans (.modArb _ _ id fun _ h => ⟨h.owner, h.hold, h.grant, h.timer⟩)) hclock

theorem masterGone_kept (s : State) : Kept Q s (masterGone s) := by
  have hgone : Kept Q s (modPlanner (fun p => { p with master := none }) s) := .setPlanner s _ fun _ _ h => ⟨h.1, rfl⟩
  exact (Kept.ite (hgone.trans (.modArb _ _ id fun _ h => ⟨rfl, rfl, h.grant, h.timer⟩)) hgone).trans
    (applySettings_kept _)

theorem cutMaster_kept (n : Fin 8) (s : State) : Kept Q s (cutMaster n s) := by
  unfold cutMaster
  split
  · exact .ite (masterGone_kept s) (.refl s)
  · exact .refl s

theorem refreshDue_kept (s : State) : Kept Q s (refreshDue s) := by
  refine .ite_of (fun h => ?_) fun _ => ?_
  · have howed : Kept Q s (modArb (fun a => { a with interval := 0, owed := a.owed + 1 }) s) :=
      .modArb _ s (fun hc => ⟨h, hc.2⟩) fun _ hf => ⟨hf.owner, hf.hold, hf.grant, hf.timer⟩
    refine .ite ((howed.trans (.modArb _ _ id fun _ hf => ?_)).trans (notice_kept _ _ _)) howed
    exact ⟨hf.owner, hf.hold, hf.grant, hf.timer⟩
  · exact .modArb _ s (fun hc => ⟨hc.1, Nat.min_le_left _ _, hc.2.2⟩) fun _ hf => ⟨hf.owner, hf.hold, hf.grant, hf.timer⟩

end Sys2Proof.Machine
end

section
/-! PROOFS. O53 to O59: what the DMA unit, the slot controller, the bus controller, the watch units and the cycle planner
keep, operation by operation. -/

namespace Sys2Proof.Machine

set_option Elab.async false

variable {Q : Prop}

/-! ## The DMA unit -/

theorem Kept.letGo (n : Fin 4) (s : State) : Kept Q s { s with arb := letGo n s } := by
  refine .setArb s _ (fun h => ⟨h.1, h.2.1, ?_⟩) fun _ h => (letGo_of_free h n).symm ▸ h
  simp only [Machine.letGo, letsGo]
  split
  · exact Nat.zero_le _
  · exact h.2.2

theorem leaveRunning_kept (n : Fin 4) {next : DmaState} (hnext : next ≠ .running) (s : State) :
    Kept Q s (leaveRunning n next s) := by
  rw [leaveRunning_eq]
  exact (Kept.modChannel n (fun c => c.left next) s id fun h => absurd h hnext).trans (.letGo n _)

/-- A change of a channel context that keeps its state, its owner and its stray count. -/
theorem Kept.modChannel_still (n : Fin 4) (f : Channel → Channel) (s : State)
    (hstray : (f s.channels[n]).stray = s.channels[n].stray) (hstate : (f s.channels[n]).state = s.channels[n].state)
    (howner : (f s.channels[n]).owner = s.channels[n].owner) : Kept Q s (Machine.modChannel n f s) :=
  .modChannel n f s (fun h => hstray.le.trans h) fun h => ⟨hstate.symm.trans h, howner⟩

theorem faultChannel_kept (n : Fin 4) (cause : DmaCause) (s : State) : Kept Q s (faultChannel n cause s) :=
  .ite ((((Kept.modChannel_still n _ s rfl rfl rfl).trans (leaveRunning_kept n (by decide) _)).trans
    (notice_kept _ _ _)).trans (tellQueue_kept n _)) (.refl s)

theorem clearChannel_kept (n : Fin 4) (s : State) : Kept Q s (clearChannel n s) := by
  have hleft := (Kept.modChannel_still (Q := Q) n (fun c => { c with finished := false }) s rfl rfl rfl).trans
    (leaveRunning_kept n (by decide : DmaState.idle ≠ .running) _)
  exact .ite (hleft.trans (tellQueue_kept n _)) hleft

theorem answerClears_kept (n : Fin 4) (s : State) : Kept Q s (answerClears n s) :=
  (Kept.modChannel_still n _ s rfl rfl rfl).trans (kept_foldl (fun _ _ => replyLater_kept _ _ _ _ _) _ _)

theorem finishClears_kept (n : Fin 4) (s : State) : Kept Q s (finishClears n s) :=
  .ite (.refl s) ((clearChannel_kept n s).trans (answerClears_kept n _))

theorem clearsOver_kept (n : Fin 4) (s : State) : Kept Q s (clearsOver n s) := .ite (.refl s) (finishClears_kept n s)

theorem ownerLost_kept (slot : Fin 8) (s : State) : Kept Q s (ownerLost slot s) :=
  kept_foldl (fun _ n => .ite ((faultChannel_kept n _ _).trans (clearsOver_kept n _)) (.refl _)) _ s

theorem abortChannel_kept (n : Fin 4) (s : State) : Kept Q s (abortChannel n s) :=
  .ite ((Kept.modChannel n _ s id fun h => DmaState.noConfusion h).trans (answerClears_kept n _)) (finishClears_kept n s)

theorem abortChannels_kept (s : State) : Kept Q s (abortChannels s) :=
  kept_foldl (fun t n => abortChannel_kept n t) allFour s

theorem noticeDmaDone_kept (n : Fin 4) (s : State) : Kept Q s (noticeDmaDone n s) := notice_kept _ _ s

theorem terminalCount_kept (n : Fin 4) (s : State) : Kept Q s (terminalCount n s) := by
  have hdone : Kept Q s (modChannel n (fun c => { c with finished := true }) s) := .modChannel_still n _ s rfl rfl rfl
  unfold terminalCount
  generalize modChannel n (fun c => { c with finished := true }) s = s1 at hdone ⊢
  have hrecord : Kept Q s (if s1.channels[n].recordEnd then handRecord (dmaEndRecord n s1) s1 else s1) :=
    .ite (hdone.trans (handRecord_kept _ _)) hdone
  dsimp only
  generalize (if s1.channels[n].recordEnd then handRecord (dmaEndRecord n s1) s1 else s1) = s2 at hrecord ⊢
  have htold := (hrecord.trans (noticeDmaDone_kept n s2)).trans (tellQueue_kept n _)
  exact .ite (htold.trans (.modChannel_still n _ _ rfl rfl rfl))
    ((htold.trans (leaveRunning_kept n (by decide) _)).trans (tellQueue_kept n _))

theorem holdAfterTransfer_kept (n : Fin 4) (terminal : Bool) (s : State) :
    Kept Q s (holdAfterTransfer n terminal s) := by
  unfold holdAfterTransfer
  split
  · exact .ite (.modArb _ s (fun h => ⟨h.1, h.2.1, Nat.min_le_left _ _⟩) fun _ h => ⟨h.owner, h.hold, h.grant, h.timer⟩)
      (.refl s)
  · exact .ite (.modArb _ s id fun _ h => ⟨h.owner, h.hold, h.grant, h.timer⟩) (.refl s)
  · exact .refl s
  · exact .refl s

theorem completeTransfer_kept (n : Fin 4) (a : Access) (s : State) : Kept Q s (completeTransfer n a s) := by
  refine .ite (Kept.trans ?_ (terminalCount_kept n _)) ?_
  all_goals exact (holdAfterTransfer_kept n _ s).trans (.modChannel_still n _ _ rfl rfl rfl)

theorem transferDone_kept (n : Fin 4) (a : Access) (s : State) : Kept Q s (transferDone n a s) := by
  unfold transferDone
  split
  · exact completeTransfer_kept n a s
  · exact faultChannel_kept n _ s
  · exact faultChannel_kept n _ s

/-! ## The slot controller -/

theorem QuietKept.modSlot (n : Fin 8) (f : Slot → Slot) (s : State) (h : SlotOk s.slots[n] → SlotOk (f s.slots[n])) :
    QuietKept Q s (modSlot n f s) :=
  .setSlots s _ (upd_related (R := fun _ x y => SlotOk x → SlotOk y) (fun _ _ => id) _ n f h)

theorem Kept.modSlot (n : Fin 8) (f : Slot → Slot) (s : State) (h : SlotOk s.slots[n] → SlotOk (f s.slots[n]))
    (ha : s.slots[n].state = .attached → (f s.slots[n]).state = .attached) : Kept Q s (modSlot n f s) :=
  .setSlots s _ (upd_related (R := fun _ x y => SlotOk x → SlotOk y) (fun _ _ => id) _ n f h)
    (upd_related (R := fun _ (x y : Slot) => x.state = .attached → y.state = .attached) (fun _ _ => id) _ n f ha)

theorem answerWaiting_kept (n : Fin 8) (status : Status) (s : State) : Kept Q s (answerWaiting n status s) :=
  (Kept.modSlot n _ s id id).trans (kept_foldl (fun _ _ => replyLater_kept _ _ _ _ _) _ _)

theorem reportDeparture_kept (n : Fin 8) (s : State) : Kept Q s (reportDeparture n s) :=
  (dropSlotLines_kept n s).trans (ownerLost_kept n _)

theorem loseTarget_kept (n : Fin 8) (s : State) : Kept Q s (loseTarget n s) :=
  .setPlanner s _ fun _ _ h => ⟨by
    show Option.map _ s.planner.cycle = none
    rw [h.1]
    rfl, h.2⟩

/-- A departure of a slot reported leaves no RUNNING channel to it and no pending line at it (R102, R124). -/
theorem Kept.of_departed {n : Fin 8} {s t : State} (hkept : QuietKept Q s t) (hgone : SlotDeparted n s t)
    (hslots : ∀ k : Fin 8, k ≠ n → t.slots[k].state = s.slots[k].state) : Kept Q s t where
  toQuietKept := hkept
  owners h c hrun := by
    have hc := hgone.2 c
    by_cases hleft : s.channels[c].state = .running ∧ s.channels[c].owner = n
    · rw [if_pos hleft] at hc
      rw [hc] at hrun
      unfold ownerGone at hrun
      split at hrun
      · exact nomatch hrun
      · exact nomatch hrun
    · rw [if_neg hleft] at hc
      simp only [hc] at hrun ⊢
      rw [hslots _ fun howner => hleft ⟨hrun, howner⟩]
      exact h c hrun
  pending h l k hp := by
    rw [hgone.1 l k] at hp
    by_cases hk : k = n
    · rw [if_pos hk] at hp
      exact nomatch hp
    · rw [if_neg hk] at hp
      have hw := h l k hp
      simp only [watched, attached, Bool.and_eq_true, beq_iff_eq] at hw ⊢
      exact ⟨(hslots k hk).trans hw.1, hkept.live hw.2⟩

theorem slotState_upd_other {n k : Fin 8} (hk : k ≠ n) (f : Slot → Slot) (s : State) :
    (upd s.slots n f)[k].state = s.slots[k].state := congrArg Slot.state (upd_other _ _ _ _ hk.symm)

/-- A slot that is present and without fault may be isolated. -/
theorem slotOk_isolated {x : Slot} (hx : x.state ≠ .empty) (h : SlotOk x) :
    SlotOk { x with state := .isolated, fault := .none } :=
  ⟨by simp, by simpa using fun hp => hx (h.2.mp hp)⟩

theorem slotOk_attached {x : Slot} (hx : x.state = .isolated) (h : SlotOk x) : SlotOk { x with state := .attached } := by
  simpa [SlotOk, hx] using h

theorem slotOk_faulted {x : Slot} (hx : x.state = .attached) (h : SlotOk x) : SlotOk (faultedSlot x) := by
  have hok := h
  simp only [SlotOk, hx, reduceCtorEq, iff_false, Bool.not_eq_false] at hok
  simp [SlotOk, faultedSlot, hok]

theorem isolateNow_kept {n : Fin 8} {s : State} (hattached : s.slots[n].state = .attached) (cause : SlotCause) :
    Kept Q s (isolateNow n cause s) := by
  have hslots : (isolateNow n cause s).slots = upd s.slots n isolatedSlot := isolateNow_slots n cause s
  refine .of_departed (n := n) ?_ (isolateNow_departs n cause s) fun k hk => ?_
  · refine (QuietKept.modSlot n (fun x => { x with state := .isolated, fault := .none }) s
      (slotOk_isolated (by rw [hattached]; decide))).trans (Kept.toQuietKept ?_)
    exact (((cutMaster_kept n _).trans (notice_kept _ _ _)).trans (reportDeparture_kept n _)).trans
      (answerWaiting_kept n _ _)
  · simp only [hslots]
    exact slotState_upd_other hk _ s

theorem isolateFaulted_kept {n : Fin 8} {s : State} (hfaulted : s.slots[n].state = .faulted) :
    Kept Q s (isolateFaulted n s) := by
  have hmoved : Kept Q s (modSlot n (fun x => { x with state := .isolated, fault := .none }) s) :=
    .modSlot n _ s (slotOk_isolated (by rw [hfaulted]; decide)) fun h => nomatch hfaulted.symm.trans h
  exact (hmoved.trans (notice_kept _ _ _)).trans (answerWaiting_kept n _ _)

theorem isolatePending_kept (n : Fin 8) (s : State) : Kept Q s (isolatePending n s) := by
  unfold isolatePending
  split
  · next h => exact isolateNow_kept h _
  · next h => exact isolateFaulted_kept h
  · exact answerWaiting_kept n _ s
  · exact answerWaiting_kept n _ s

theorem attachNow_kept {n : Fin 8} {s : State} (hisolated : s.slots[n].state = .isolated) :
    Kept Q s (attachNow n s) := by
  have hmoved : Kept Q s (modSlot n (fun x => { x with state := .attached }) s) :=
    .modSlot n _ s (slotOk_attached hisolated) fun _ => rfl
  exact (hmoved.trans (notice_kept _ _ _)).trans (startWatching_kept n _)

theorem changeDue_kept (n : Fin 8) (s : State) : Kept Q s (changeDue n s) := by
  unfold changeDue
  split
  · exact .refl s
  · exact .ite (.refl s) (isolatePending_kept n s)
  · refine .ite_of (fun h => ?_) fun _ => answerWaiting_kept n _ s
    have hisolated : s.slots[n].state = .isolated := by
      simp only [mayAttach, Bool.and_eq_true, beq_iff_eq] at h
      exact h.2
    exact (attachNow_kept hisolated).trans (answerWaiting_kept n _ _)

theorem changesDue_kept (s : State) : Kept Q s (changesDue s) := kept_foldl (fun t n => changeDue_kept n t) allSlots s

theorem slotOk_emptied {x : Slot} : SlotOk { x with state := .empty, present := false, fault := .none } := by
  simp [SlotOk]

theorem emptySlot_kept (n : Fin 8) (s : State) : Kept Q s (emptySlot n s) := by
  have hafter (t : State) (status : Status) (old : SlotState) :
      Kept Q t (noticeSlotChange n old .empty .presence (answerWaiting n status (loseTarget n (cutMaster n t)))) :=
    (((cutMaster_kept n t).trans (loseTarget_kept n _)).trans (answerWaiting_kept n _ _)).trans (notice_kept _ _ _)
  by_cases hattached : s.slots[n].state = .attached
  · have hslots : (emptySlot n s).slots = upd s.slots n emptiedSlot := emptySlot_slots n s
    refine .of_departed (n := n) ?_ (emptySlot_departs n s hattached) fun k hk => ?_
    · refine (QuietKept.modSlot n (fun x => { x with state := .empty, present := false, fault := .none }) s fun _ =>
        slotOk_emptied).trans (Kept.toQuietKept ?_)
      exact .ite ((hafter _ _ _).trans (reportDeparture_kept n _)) (hafter _ _ _)
    · simp only [hslots]
      exact slotState_upd_other hk _ s
  · refine (Kept.modSlot n (fun x => { x with state := .empty, present := false, fault := .none }) s
      (fun _ => slotOk_emptied) fun h => absurd h hattached).trans ?_
    exact .ite ((hafter _ _ _).trans (reportDeparture_kept n _)) (hafter _ _ _)

theorem faultReported_kept {n : Fin 8} {s : State} (hattached : s.slots[n].state = .attached) :
    Kept Q s (faultReported n s) := by
  have hslots := faultReported_slots n s
  refine .of_departed (n := n) ?_ ⟨faultReported_lineSlots n s, faultReported_channels n s⟩ fun k hk => ?_
  · have hcut : Kept Q s (modPlanner (marked n) (masterCut n s)) := by
      rw [← cutMaster_eq, ← loseTarget_eq]
      exact (cutMaster_kept n s).trans (loseTarget_kept n _)
    have hsame : (modPlanner (marked n) (masterCut n s)).slots = s.slots := masterCut_touches n s .slots (by decide)
    refine (hcut.toQuietKept.trans (.modSlot n faultedSlot _ (slotOk_faulted ?_))).trans
      ((notice_kept _ _ _).trans (reportDeparture_kept n _)).toQuietKept
    simp only [hsame]
    exact hattached
  · simp only [hslots]
    exact slotState_upd_other hk _ s

theorem faultSlot_kept (n : Fin 8) (s : State) : Kept Q s (faultSlot n s) := by
  by_cases hattached : s.slots[n].state = .attached
  · rw [faultSlot_of_attached hattached]
    exact .ite (faultReported_kept hattached) ((faultReported_kept hattached).trans (changeDue_kept n _))
  · rw [faultSlot_of_other hattached]
    exact .refl s

theorem isolateAll_kept (s : State) : Kept Q s (isolateAll s) := by
  refine kept_foldl (fun t n => .ite_of (fun h => isolateNow_kept h _) fun _ => ?_) allSlots s
  split
  · exact .refl t
  · exact isolatePending_kept n t
  · exact answerWaiting_kept n _ t

theorem changesCut_kept (s : State) : Kept Q s (changesCut s) := by
  refine kept_foldl (fun t n => ?_) allSlots s
  unfold changeCut
  split
  · exact .refl t
  · exact isolatePending_kept n t
  · exact answerWaiting_kept n _ t

/-! ## The bus controller -/

theorem changeBus_kept {new : BusState} (hnew : new.live = true) (cause : BusCause) (s : State) :
    Kept Q s (changeBus new cause s) := (Kept.setBus s _ fun _ => hnew).trans (notice_kept _ _ _)

theorem moveLive_kept {new : BusState} (hnew : new.live = true) (cause : BusCause) (s : State) :
    Kept Q s (moveLive new cause s) := by
  have hchanged := changeBus_kept (Q := Q) hnew cause s
  have hleft : Kept Q s (if s.bus.state = .run then leaveRun (changeBus new cause s) else changeBus new cause s) :=
    .ite (hchanged.trans ((markHoldEnding_kept _).trans (withdrawCascade_kept _))) hchanged
  have hheld := Kept.ite (c := new = .hold) (hleft.trans (markHeld_kept _)) hleft
  exact .ite (hheld.trans (resumeService_kept _)) hheld

theorem takeWatchHold_kept (s : State) : Kept Q s (takeWatchHold s) := by
  unfold takeWatchHold
  split
  · exact .ite (moveLive_kept rfl _ s) (.refl s)
  · exact .refl s

theorem endPulse_kept (s : State) : Kept Q s (endPulse s) := by
  have hnew : (if s.settings.afterReset = 0 then BusState.run else .hold).live = true := by split <;> rfl
  unfold endPulse
  exact (changeBus_kept hnew _ s).trans (kept_foldl (fun t n => startWatching_kept n t) allSlots _)

theorem busMove_kept {new : BusState} (hnew : new.live = true) (tag : Byte) (s : State) :
    Kept Q s (busMove new tag s) :=
  .ite (.ite (reply_kept _ _ _ _ s) ((moveLive_kept hnew _ s).replied _ _ _ _).settled) (reply_kept _ _ _ _ s)

/-- A bus controller's record is in none of the invariants of one block each. -/
theorem fieldsKept_setBus (s : State) (b : Bus) : FieldsKept s { s with bus := b } := ⟨id, id, id, id, id, id, id, id, id⟩

theorem closeWork_kept (new : BusState) (s : State) : Kept Q s (closeWork new s) := by
  have hcleared : Kept Q s (modArb clearArbiter s) :=
    .modArb _ s (fun h => ⟨Nat.zero_le _, h.2.1, Nat.zero_le _⟩) fun _ _ => ⟨rfl, rfl, rfl, rfl⟩
  have hchannels := (hcleared.trans (applySettings_kept _)).trans (abortChannels_kept _)
  have hslots := Kept.ite (c := new = .resetting) (hchannels.trans (changesCut_kept _))
    (hchannels.trans (isolateAll_kept _))
  exact (hslots.trans (dropAllLines_kept _)).trans (abortService_kept _)

theorem enterDead_fieldsKept (new : BusState) (cause : BusCause) (s : State) :
    FieldsKept s (enterDead new cause s) := by
  refine (fieldsKept_setBus s (recordBus new cause s).bus).trans (QuietKept.toFieldsKept (Q := True) (Kept.toQuietKept ?_))
  exact ((Kept.setPlanner _ _ fun _ _ _ => ⟨rfl, rfl⟩).trans (notice_kept _ _ _)).trans (closeWork_kept new _)

/-! ## The watch units -/

theorem watchHit_kept (u : Fin 2) (p : Presentation) (s : State) : Kept Q s (watchHit u p s) := by
  have hcounted : Kept Q s { s with watch := upd s.watch u fun x =>
      { x with hits := min 65535 (x.hits + 1), armed := x.armed && !x.oneShot } } :=
    .setWatch s _ (upd_related (R := fun _ (x y : Watch) => x.hits ≤ 65535 → y.hits ≤ 65535) (fun _ _ => id) _ u _
      fun _ => Nat.min_le_left _ _)
  unfold watchHit
  generalize { s with watch := upd s.watch u fun x =>
    { x with hits := min 65535 (x.hits + 1), armed := x.armed && !x.oneShot } } = s1 at hcounted ⊢
  have hrecord : Kept Q s (if s.watch[u].record then handRecord (watchRecord u p s1) s1 else s1) :=
    .ite (hcounted.trans (handRecord_kept _ _)) hcounted
  dsimp only
  exact .ite (hrecord.trans (.ite (.setBus _ _ id) (.refl _))) hrecord

theorem present_kept (p : Presentation) (s : State) : Kept Q s (present p s) :=
  eitherOrder_kept (fun t => .ite (watchHit_kept 0 p t) (.refl t)) (fun t => .ite (watchHit_kept 1 p t) (.refl t)) s

/-! ## The cycle planner -/

theorem Kept.storeBytes (a : Nat) (data : List Byte) (s : State) :
    Kept Q s { s with image := { s.image with cells := writeBytesAt s.image.cells a data } } :=
  .setImage s { s.image with cells := _ } (wf_writeBytesAt data s.image.cells a)

theorem putNone_kept (i : Initiator) (s : State) : Kept Q s (putAccess i none s) := by
  cases i with
  | queue => exact .modQueue (fun q => { q with access := none }) s fun _ _ h => ⟨h.1, rfl⟩
  | channel n => exact .modChannel_still n (fun c => { c with access := none }) s rfl rfl rfl
  | service => exact .modEngine_calm s (fun g => { g with access := none }) rfl rfl
  | master => exact .refl s

/-- An access in progress, on a live bus, and for the service engine in a service. -/
theorem putAccess_kept {i : Initiator} {s : State} (hlive : Q → s.bus.state.live = true)
    (hbusy : i = .service → s.engine ≠ resetEngine) (a : Access) : Kept Q s (putAccess i (some a) s) := by
  cases i with
  | queue =>
    exact .modQueue (fun q => { q with access := some a }) s fun hQ hb =>
      absurd (hb.symm.trans (hlive hQ)) Bool.false_ne_true
  | channel n => exact .modChannel_still n (fun c => { c with access := some a }) s rfl rfl rfl
  | service => exact .modEngine_busy (hbusy rfl) (fun g => { g with access := some a }) (.inl rfl)
  | master => exact .refl s

theorem accessDone_kept (i : Initiator) (a : Access) (s : State) : Kept Q s (accessDone i a s) := by
  cases i with
  | queue => exact queueAccessDone_kept a s
  | channel n => exact transferDone_kept n a s
  | service => exact serviceAccessDone_kept a s
  | master => exact .refl s

section access

variable {i : Initiator} {s : State} (hlive : Q → s.bus.state.live = true)
  (hbusy : i = .service → s.engine ≠ resetEngine) (a : Access)

include hlive hbusy

theorem accessGoesOn_kept : Kept Q s (accessGoesOn i a s) :=
  .ite ((putNone_kept i s).trans (accessDone_kept i a _)) (putAccess_kept hlive hbusy a)

end access

theorem clearsAfter_kept (i : Initiator) (s : State) : Kept Q s (clearsAfter i s) := by
  cases i with
  | queue => exact .refl s
  | channel n => exact clearsOver_kept n s
  | service => exact .refl s
  | master => exact .refl s

theorem isolateAfter_kept (i : Initiator) (s : State) : Kept Q s (isolateAfter i s) := by
  cases i with
  | queue => exact .refl s
  | channel n => exact changeDue_kept _ s
  | service => exact .refl s
  | master => exact .refl s

theorem grantUnused_kept (o : Owner) (s : State) : Kept Q s (grantUnused o s) := (holdBoundary_kept o s).settled

theorem driveCycle_kept {s : State} (hlive : Q → s.bus.state.live = true) (c : Cycle) : Kept Q s (driveCycle c s) :=
  .setPlanner s _ fun hQ hb => absurd (hb.symm.trans (hlive hQ)) Bool.false_ne_true

/-- The grant a cycle was to run under is given up. -/
theorem Kept.freeOwner (s : State) : Kept Q s (Machine.modArb (fun x => { x with owner := .none }) s) :=
  .modArb _ s id fun _ h => ⟨rfl, h.hold, h.grant, h.timer⟩

theorem startAccess_kept {i : Initiator} {s : State} (hlive : Q → s.bus.state.live = true)
    (hbusy : i = .service → s.engine ≠ resetEngine) (a : Access) (wideAck : Bool) :
    Kept Q s (startAccess i a wideAck s) := by
  unfold startAccess
  split
  · exact ((((Kept.freeOwner s).trans (accessGoesOn_kept (s := modArb _ s) hlive hbusy _)).trans
      (clearsAfter_kept i _)).trans
      (isolateAfter_kept i _)).trans (grantUnused_kept _ _)
  · have hput := putAccess_kept (i := i) hlive hbusy
    exact (hput _).trans (driveCycle_kept (fun hQ => (hput _).live (hlive hQ)) _)

theorem startProbe_kept {s : State} (hlive : Q → s.bus.state.live = true) (port : Nat) :
    Kept Q s (startProbe port s) := by
  unfold startProbe
  refine .ite ?_ (driveCycle_kept hlive _)
  exact ((Kept.freeOwner s).trans (probeDone_kept _ _ _ _ _)).trans (grantUnused_kept _ _)

theorem startCycle_kept {s : State} (hlive : Q → s.bus.state.live = true) (wideAck : Bool) :
    Kept Q s (startCycle wideAck s) := by
  unfold startCycle
  refine .ite (.refl s) ?_
  split
  · exact driveCycle_kept hlive _
  · split
    · exact startAccess_kept hlive (Initiator.noConfusion ·) _ _
    · exact startAccess_kept hlive (Initiator.noConfusion ·) _ _
  · split
    · next haccess => exact startAccess_kept hlive (fun _ => engine_busy_of_access haccess) _ _
    · next hwants =>
      refine startAccess_kept hlive (fun _ => ?_) _ _
      unfold serviceWants at hwants
      split at hwants
      · split at hwants
        · next st hstep => exact engine_busy_of_step hstep
        · exact nomatch hwants
      · exact nomatch hwants
    · exact .refl s
  · split
    · exact startProbe_kept hlive _
    · exact startAccess_kept hlive (Initiator.noConfusion ·) _ _
    · exact startAccess_kept hlive (Initiator.noConfusion ·) _ _
    · exact .refl s
  · exact .refl s
  · exact .refl s

theorem storeCycle_kept (c : Cycle) (b : Byte × Byte) (s : State) : Kept Q s (storeCycle c b s) :=
  .ite (.storeBytes _ _ s) (.refl s)

/-- A change of the running driven cycle. -/
theorem Kept.modPlanner_running {s : State} {c : Cycle} (hc : s.planner.cycle = some c) (f : Planner → Planner) :
    Kept Q s (modPlanner f s) :=
  .setPlanner s _ fun _ _ h => nomatch h.1.symm.trans hc

theorem finishStrobe_kept {s : State} {c : Cycle} (hc : s.planner.cycle = some c) (waits : Nat) (timedOut : Bool)
    (lines : CardLines) : Kept Q s (finishStrobe c waits timedOut lines s) :=
  ((Kept.modPlanner_running hc _).trans (storeCycle_kept c _ _)).trans (present_kept _ _)

theorem endWait_kept (waits : Nat) (lines : CardLines) (s : State) : Kept Q s (endWait waits lines s) := by
  unfold endWait
  split
  · next c hc => exact .ite (finishStrobe_kept hc _ _ _) (.refl s)
  · exact .refl s

theorem timeOut_kept (lines : CardLines) (s : State) : Kept Q s (timeOut lines s) := by
  unfold timeOut
  split
  · next c hc => exact .ite (finishStrobe_kept hc _ _ _) (.refl s)
  · exact .refl s

theorem refreshPaid_kept (s : State) : Kept Q s (modArb refreshPaid s) :=
  .modArb _ s (fun h => ⟨(Nat.sub_le _ _).trans h.1, h.2⟩) fun _ h => ⟨h.owner, h.hold, h.grant, h.timer⟩

theorem takeResult_kept {s : State} (hlive : Q → s.bus.state.live = true) (c : Cycle) : Kept Q s (takeResult c s) := by
  unfold takeResult
  split
  · exact refreshPaid_kept s
  · exact probeDone_kept _ _ _ _ s
  · split
    · next a haccess =>
      refine (accessGoesOn_kept hlive (fun hi => ?_) _).trans (clearsAfter_kept _ _)
      rw [hi] at haccess
      exact engine_busy_of_access haccess
    · exact clearsAfter_kept _ s

theorem boundary_kept {s : State} (hlive : Q → s.bus.state.live = true) (c : Cycle) : Kept Q s (boundary c s) := by
  have hended : Kept Q s (modArb (fun x => { x with owner := .none })
      (modPlanner (fun p => { p with cycle := none, lastClocks := c.length }) s)) :=
    (Kept.setPlanner s { s.planner with cycle := none, lastClocks := c.length } fun _ _ h => ⟨rfl, h.2⟩).trans
      (.freeOwner _)
  have hheld := hended.trans (takeWatchHold_kept _)
  exact (((((hheld.trans (takeResult_kept (fun hQ => hheld.live (hlive hQ)) c)).trans (changesDue_kept _)).trans
    (applySettings_kept _)).trans (holdBoundary_kept _ _))).settled

theorem releaseStrobe_kept (clocks : Nat) (data : Byte) (s : State) : Kept Q s (releaseStrobe clocks data s) := by
  unfold releaseStrobe
  split
  · next m _ =>
    have hstored (b : Byte) : Kept Q s (storeMaster m b s) := .ite (.setImage s { s.image with cells := _ } (wf_writeByte _ _ b)) (.refl s)
    exact ((((hstored _).trans (present_kept _ _)).trans (masterGone_kept _)).trans (takeWatchHold_kept _)).settled
  · exact .refl s

theorem holdExpired_kept (s : State) : Kept Q s (holdExpired s) := by
  unfold holdExpired
  split
  · next n _ =>
    refine .ite (.refl s) (Kept.settled ((((Kept.modArb _ s id fun _ h => ?_).trans (faultChannel_kept n _ _)).trans
      (faultSlot_kept _ _)).trans (.modArb _ _ id fun _ h => ?_)))
    · refine ⟨h.owner, ?_, ?_, h.timer⟩
      · show (if _ then Hold.none else s.arb.hold) = .none
        rw [h.hold, ite_self]
      · show (if _ then none else s.arb.grant) = none
        rw [h.grant, ite_self]
    · refine ⟨?_, h.hold, h.grant, rfl⟩
      show (if _ then Owner.none else _) = .none
      rw [h.owner, ite_self]
  · exact .refl s

end Sys2Proof.Machine
end

section
/-! PROOFS. O53 to O59: what the service of a request keeps. First the claim table's check, which is what keeps the entries
in range and free of overlap (R6, R7); then the settings' clamp (R191); then the requests one by one. -/

namespace Sys2Proof.Machine

set_option Elab.async false

variable {Q : Prop}

/-! ## The overlap check (R7) -/

/-- The remainder of a number a little above another. -/
theorem add_mod_cases {b k m : Nat} (hk : k < m) :
    (b + k) % m = if m ≤ b % m + k then b % m + k - m else b % m + k := by
  rw [Nat.add_mod_eq_ite, Nat.mod_eq_of_lt hk]

/-- A range reduced modulo `2 ^ d` holds the remainder of each of its numbers. -/
theorem mod_mem_reducedRanges {base limit v d : Nat} (hbase : base ≤ v) (hlimit : v ≤ limit) :
    ∃ r ∈ reducedRanges base limit d, r.1 ≤ v % 2 ^ d ∧ v % 2 ^ d ≤ r.2 := by
  have hpos : 0 < 2 ^ d := Nat.two_pow_pos d
  unfold reducedRanges
  generalize 2 ^ d = m at hpos ⊢
  have hlt : v % m < m := Nat.mod_lt v hpos
  dsimp only
  split
  · exact ⟨(0, m - 1), by simp, Nat.zero_le _, by omega⟩
  · next hshort =>
    obtain ⟨k, rfl⟩ := Nat.exists_eq_add_of_le hbase
    obtain ⟨j, rfl⟩ := Nat.exists_eq_add_of_le hlimit
    have hv := add_mod_cases (b := base) (k := k) (m := m) (by omega)
    have hl : (base + k + j) % m = if m ≤ base % m + (k + j) then base % m + (k + j) - m else base % m + (k + j) := by
      rw [Nat.add_assoc]
      exact add_mod_cases (by omega)
    have hb : base % m < m := Nat.mod_lt base hpos
    split
    · next hrises =>
      refine ⟨_, List.mem_singleton_self _, ?_⟩
      rw [hl] at hrises ⊢
      rw [hv]
      split_ifs at hrises ⊢ <;> omega
    · next hwraps =>
      rw [hl] at hwraps ⊢
      rw [hv]
      by_cases hover : m ≤ base % m + k
      · refine ⟨_, List.mem_cons_of_mem _ (List.mem_singleton_self _), Nat.zero_le _, ?_⟩
        split_ifs at hwraps ⊢ <;> omega
      · refine ⟨_, List.mem_cons_self, ?_, ?_⟩
        · split_ifs
          omega
        · split_ifs
          omega

/-- Two entries, the first with the smaller decode width, that share an address fail the check. -/
theorem overlapsReduced_of_matches {x y : Claim} {space : Space} {a : Nat} (hd : x.decode ≤ y.decode)
    (hx : x.matches space a = true) (hy : y.matches space a = true) : overlapsReduced x y = true := by
  simp only [Claim.matches, Bool.and_eq_true, decide_eq_true_eq] at hx hy
  obtain ⟨⟨-, hxbase⟩, hxlimit⟩ := hx
  obtain ⟨⟨-, hybase⟩, hylimit⟩ := hy
  obtain ⟨r, hr, hlow, hhigh⟩ := mod_mem_reducedRanges (d := x.decode) hybase hylimit
  rw [Nat.mod_mod_of_dvd a (Nat.pow_dvd_pow 2 hd)] at hlow hhigh
  refine List.any_eq_true.mpr ⟨r, hr, ?_⟩
  simp only [rangesMeet, Bool.and_eq_true, decide_eq_true_eq]
  omega

theorem overlaps_of_matches {x y : Claim} {space : Space} {a : Nat} (hx : x.matches space a = true)
    (hy : y.matches space a = true) : x.overlaps y = true := by
  unfold Claim.overlaps
  split
  · next hd => exact overlapsReduced_of_matches hd hx hy
  · next hd => exact overlapsReduced_of_matches (Nat.le_of_not_le hd) hy hx

theorem matches_enabled_space {c : Claim} {space : Space} {a : Nat} (h : c.matches space a = true) :
    c.enabled = true ∧ c.space = space := by
  simp only [Claim.matches, Bool.and_eq_true, beq_iff_eq] at h
  exact h.1.1

/-- An entry that passes the overlap check shares no address with another entry. -/
theorem not_matches_of_not_conflicts {claims : Vector Claim 24} {e k : Fin 24} {c : Claim}
    (h : conflicts claims e c = false) (hk : k ≠ e) {space : Space} {a : Nat} (hc : c.matches space a = true) :
    claims[k].matches space a = false := by
  by_contra hboth
  have hmatch : claims[k].matches space a = true := by simpa using hboth
  obtain ⟨henabled, hspace⟩ := matches_enabled_space hc
  obtain ⟨henabled', hspace'⟩ := matches_enabled_space hmatch
  have hall (j : Fin 24) : j ∈ allEntries := by revert j; decide
  have hconflict : conflicts claims e c = true := by
    simp only [conflicts, henabled, Bool.true_and, List.any_eq_true]
    refine ⟨k, hall k, ?_⟩
    rw [overlaps_of_matches hc hmatch, henabled', hspace', hspace]
    simp [hk]
  exact Bool.false_ne_true (h.symm.trans hconflict)

/-- What the checks of a CLAIM write pass lies in the ranges of R6. -/
theorem storedClaim_inRange {w : ClaimFields} {space : Space} {target : ClaimTarget} {wide : Bool}
    (h : claimInRange w space target = true) : (storedClaim w space target wide).InRange := by
  simp only [claimInRange, Bool.and_eq_true, decide_eq_true_eq] at h
  obtain ⟨⟨⟨-, hordered⟩, hspace⟩, htarget⟩ := h
  refine ⟨hordered, ?_, ?_, fun himage => ?_⟩
  · cases space with
    | mem =>
      simp only [Bool.and_eq_true, decide_eq_true_eq] at hspace
      simp only [storedClaim, if_true]
      omega
    | io =>
      simp only [Bool.and_eq_true, decide_eq_true_eq] at hspace
      exact hspace.2
  · cases space with
    | mem => rfl
    | io =>
      simp only [Bool.and_eq_true, Bool.or_eq_true, beq_iff_eq] at hspace
      obtain ⟨⟨(hd | hd) | hd, -⟩, -⟩ := hspace
      · exact .inl (by rw [storedClaim, hd]; rfl)
      · exact .inr (.inl (by rw [storedClaim, hd]; rfl))
      · exact .inr (.inr (by rw [storedClaim, hd]; rfl))
  · have himage' : target = .image := himage
    subst himage'
    simp only [Bool.and_eq_true, beq_iff_eq, decide_eq_true_eq] at htarget
    exact ⟨htarget.1, by simpa [storedClaim] using htarget.2⟩

theorem checkClaim_ok {claims : Vector Claim 24} {w : ClaimFields} {e : Fin 24} {c : Claim}
    (h : checkClaim claims w = .ok (e, c)) : c.InRange ∧ conflicts claims e c = false := by
  unfold checkClaim at h
  split at h
  · exact nomatch h
  · split at h
    · exact nomatch h
    · split at h
      · next hrange =>
        split at h
        · exact nomatch h
        · next hfree =>
          cases h
          exact ⟨storedClaim_inRange hrange, by simpa using hfree⟩
      · exact nomatch h

theorem claimsDisjoint_written {s : State} (h : ClaimsDisjoint s) {e : Fin 24} {c : Claim} (hrange : c.InRange)
    (hfree : conflicts s.claims e c = false) : ClaimsDisjoint { s with claims := upd s.claims e fun _ => c } := by
  obtain ⟨hinRange, hdisjoint⟩ := h
  refine ⟨fun k => ?_, fun i j space a hi hj => ?_⟩
  · show ((upd s.claims e fun _ => c)[k]).InRange
    rw [upd_get]
    split
    · exact hrange
    · exact hinRange k
  · simp only [upd_get] at hi hj
    by_cases hie : e = i
    · rw [if_pos hie] at hi
      by_contra hne
      have hej : e ≠ j := fun hej => hne (hie.symm.trans hej)
      rw [if_neg hej, not_matches_of_not_conflicts hfree hej.symm hi] at hj
      exact nomatch hj
    · rw [if_neg hie] at hi
      by_cases hje : e = j
      · rw [if_pos hje] at hj
        rw [not_matches_of_not_conflicts hfree (Ne.symm hie) hj] at hi
        exact nomatch hi
      · rw [if_neg hje] at hj
        exact hdisjoint i j space a hi hj

/-! ## Settings (R191) -/

theorem get_put {n k : Nat} (hn : 1 ≤ n ∧ n ≤ 11) (hk : 1 ≤ k ∧ k ≤ 11) (x : Settings) (v : Nat) :
    (x.put n v).get k = if k = n then v else x.get k := by
  obtain ⟨hn, hn'⟩ := hn
  obtain ⟨hk, hk'⟩ := hk
  interval_cases n <;> interval_cases k <;> rfl

theorem settingLow_le_high {n : Nat} (h1 : 1 ≤ n) (h11 : n ≤ 11) : settingLow n ≤ settingHigh n := by
  interval_cases n <;> decide

theorem Kept.putSetting {n : Nat} (hn : settingNumber n = true) (v : Nat) (s : State) :
    Kept Q s { s with settings := s.settings.put n (clampSetting n v) } := by
  simp only [settingNumber, Bool.and_eq_true, decide_eq_true_eq] at hn
  refine .setSettings s _ fun h k h1 h11 => ?_
  show settingLow k ≤ (s.settings.put n (clampSetting n v)).get k ∧
    (s.settings.put n (clampSetting n v)).get k ≤ settingHigh k
  rw [get_put hn ⟨h1, h11⟩]
  split
  · next hkn =>
    subst hkn
    have hrange := settingLow_le_high h1 h11
    simp only [clampSetting]
    omega
  · exact h k h1 h11

theorem storeSetting_kept {n : Nat} (hn : settingNumber n = true) (v : Nat) (s : State) :
    Kept Q s (storeSetting n (clampSetting n v) s) := by
  have hput := Kept.putSetting (Q := Q) hn v s
  have hinterval (t : State) : Kept Q t (applyInterval t) :=
    .ite (.modArb _ t id fun _ h => ⟨h.owner, h.hold, h.grant, h.timer⟩) (.refl t)
  have hmarked (t : State) : Kept Q t (modArb (fun a => { a with intervalSet := true }) t) :=
    .modArb _ t id fun _ h => ⟨h.owner, h.hold, h.grant, h.timer⟩
  unfold storeSetting
  dsimp only
  split
  · exact .ite hput (hput.trans (.setBus _ _ id))
  · exact .ite (hput.trans (hmarked _)) ((hput.trans (hmarked _)).trans (hinterval _))
  · exact hput.trans (testHigh_kept _)
  · exact hput

theorem serveSet_kept (tag number : Byte) (value : Word16) (s : State) : Kept Q s (serveSet tag number value s) := by
  refine .ite_of (fun _ => reply_kept _ _ _ _ s) fun hn => .ite (reply_kept _ _ _ _ s) ?_
  have hstored := (storeSetting_kept (Q := Q) (by simpa using hn) value.toNat s).replied 0x03 tag
    (setStatus number.toNat value.toNat) (number :: bytes2 (clampSetting number.toNat value.toNat))
  exact .ite hstored.settled hstored

/-! ## Entry to OFF, RESETTING and DOWN -/

/-- Every invariant is kept; a live bus need not stay live. -/
structure StepKept (s t : State) : Prop extends FieldsKept s t where
  dead : DeadBusIsQuiet s → DeadBusIsQuiet t
  owners : RunningOwnerAttached s → RunningOwnerAttached t
  pending : PendingOnlyWatched s → PendingOnlyWatched t

theorem StepKept.refl (s : State) : StepKept s s := ⟨.refl s, id, id, id⟩

theorem StepKept.trans {s t u : State} (h : StepKept s t) (k : StepKept t u) : StepKept s u where
  toFieldsKept := h.toFieldsKept.trans k.toFieldsKept
  dead i := k.dead (h.dead i)
  owners i := k.owners (h.owners i)
  pending i := k.pending (h.pending i)

theorem StepKept.ite {c : Prop} [Decidable c] {s t u : State} (h : StepKept s t) (k : StepKept s u) :
    StepKept s (if c then t else u) := by
  split
  · exact h
  · exact k

theorem stepKept_foldl {α : Type} {g : State → α → State} (h : ∀ s a, StepKept s (g s a)) :
    ∀ (as : List α) (s : State), StepKept s (as.foldl g s)
  | [], s => .refl s
  | a :: as, s => (h s a).trans (stepKept_foldl h as (g s a))

/-- A walk from `s` itself. -/
theorem Kept.step {s t : State} (h : Kept (DeadBusIsQuiet s) s t) : StepKept s t where
  toFieldsKept := h.toFieldsKept
  dead i := h.dead i i
  owners := h.owners
  pending := h.pending

/-- With all work closed nothing is left that an invariant could fail at. -/
theorem StepKept.of_workClosed {new : BusState} {r s t : State} (hfields : FieldsKept s t) (h : WorkClosed new r t) :
    StepKept s t := by
  obtain ⟨hplanner, harb, hqueue, hchannels, -, hlines, hengine, htimers, -⟩ := h
  have hidle (n : Fin 4) : t.channels[n].state ≠ .running := by
    rw [hchannels n]
    exact closedChannel_not_running r.channels[n]
  have hquiet (l : Fin 12) (n : Fin 8) : t.lineSlots[l][n].pending = false ∧ t.lineSlots[l][n].inService = false := by
    rw [hlines l n]
    exact ⟨rfl, rfl⟩
  refine ⟨hfields, fun _ _ => ?_, fun _ n hrun => absurd hrun (hidle n), fun _ l n hp => ?_⟩
  · rw [hplanner, harb, hqueue]
    refine ⟨rfl, rfl, rfl, rfl, rfl, rfl, rfl, rfl, hengine, hidle, fun n => ?_, hquiet⟩
    rw [htimers n]
    exact ⟨rfl, rfl, rfl⟩
  · exact absurd ((hquiet l n).1.symm.trans hp) Bool.false_ne_true

theorem flushAndReply_kept (tag : Byte) (s : State) : Kept Q s (flushAndReply tag s) :=
  eitherOrder_kept flushQueue_kept (fun t => reply_kept _ _ _ _ t) s

theorem busEntered_stepKept (new : BusState) (tag : Byte) (s : State) :
    StepKept s (flushAndReply tag (busEntered new s)) := by
  have hentered := enterDead_entered new .request s
  have hbus := busEntered_touches new s
  obtain ⟨hout, -, hqueue, -⟩ := flushAndReply_out tag (busEntered new s)
  have hsame : (busEntered new s).queue = (enterDead new .request s).queue := hbus .queue (by decide)
  have hfields : FieldsKept (enterDead new .request s) (busEntered new s) := by
    unfold busEntered
    split
    · exact fieldsKept_setBus _ _
    · exact .refl _
  refine .of_workClosed (new := new) (r := s)
    (((enterDead_fieldsKept new .request s).trans hfields).trans (flushAndReply_kept (Q := True) tag _).toFieldsKept) ?_
  exact hentered.workClosed ((hbus.mono).trans hout) (hqueue.trans (congrArg flushedQueue hsame))

theorem serveBusOff_stepKept (tag : Byte) (s : State) : StepKept s (serveBusOff tag s) :=
  .ite (reply_kept _ _ _ _ s).step (.ite (reply_kept _ _ _ _ s).step (busEntered_stepKept .off tag s))

theorem serveBusReset_stepKept (tag : Byte) (s : State) : StepKept s (serveBusReset tag s) :=
  .ite (reply_kept _ _ _ _ s).step (.ite (reply_kept _ _ _ _ s).step (busEntered_stepKept .resetting tag s))

/-! ## The other requests -/

theorem waitFor_kept (n : Fin 8) (change : SlotChange) (tag : Byte) (s : State) : Kept Q s (waitFor n change tag s) :=
  .modSlot n _ s id id

theorem attachSlot_kept (tag : Byte) (n : Fin 8) (s : State) : Kept Q s (attachSlot tag n s) := by
  unfold attachSlot
  split
  · exact reply_kept _ _ _ _ s
  · exact reply_kept _ _ _ _ s
  · exact reply_kept _ _ _ _ s
  · next h => exact .ite (waitFor_kept n _ tag s) ((attachNow_kept h).replied _ _ _ _).settled

theorem serveSlotAttach_kept (tag slot : Byte) (s : State) : Kept Q s (serveSlotAttach tag slot s) := by
  unfold serveSlotAttach
  split
  · split
    · exact attachSlot_kept _ _ s
    · exact attachSlot_kept _ _ s
    · exact attachSlot_kept _ _ s
    · exact reply_kept _ _ _ _ s
    · exact reply_kept _ _ _ _ s
    · exact reply_kept _ _ _ _ s
  · exact reply_kept _ _ _ _ s

theorem isolateSlot_kept (tag : Byte) (n : Fin 8) (s : State) : Kept Q s (isolateSlot tag n s) := by
  unfold isolateSlot
  split
  · exact reply_kept _ _ _ _ s
  · exact Kept.replied (.ite (answerWaiting_kept n _ s) (.refl s)) _ _ _ _
  · next h => exact (isolateFaulted_kept h).replied _ _ _ _
  · next h => exact .ite (waitFor_kept n _ tag s) ((isolateNow_kept h _).replied _ _ _ _).settled

theorem serveSlotIsolate_kept (tag slot : Byte) (s : State) : Kept Q s (serveSlotIsolate tag slot s) := by
  unfold serveSlotIsolate
  split
  · exact isolateSlot_kept _ _ s
  · exact reply_kept _ _ _ _ s

theorem serveClaimWrite_kept (tag : Byte) (w : ClaimFields) (s : State) : Kept Q s (serveClaimWrite tag w s) := by
  unfold serveClaimWrite
  split
  · exact reply_kept _ _ _ _ s
  · next e c hok =>
    obtain ⟨hrange, hfree⟩ := checkClaim_ok hok
    exact (Kept.setClaims s _ fun h => claimsDisjoint_written h hrange hfree).replied _ _ _ _

theorem serveOps_kept (tag : Byte) (payload : List Byte) (s : State) : Kept Q s (serveOps tag payload s) := by
  unfold serveOps
  split
  · exact reply_kept _ _ _ _ s
  · exact (acceptOps_kept _ _ _ s).settled

theorem serveDmaMode_kept (tag channel mode direction owner options : Byte) (s : State) :
    Kept Q s (serveDmaMode tag channel mode direction owner options s) := by
  unfold serveDmaMode
  split
  · split
    · refine .ite_of (fun _ => reply_kept _ _ _ _ s) fun hstill => Kept.replied ?_ _ _ _ _
      exact .modChannel _ _ s (fun _ => Nat.zero_le _) fun hrun => absurd hrun hstill
    · exact reply_kept _ _ _ _ s
  · exact reply_kept _ _ _ _ s

theorem phaseState_not_running (b : Bool) : phaseState b ≠ .running := by cases b <;> decide

theorem serveDmaAddr_kept (tag channel page : Byte) (offset : Word16) (stp : Byte) (s : State) :
    Kept Q s (serveDmaAddr tag channel page offset stp s) := by
  unfold serveDmaAddr
  split
  · split
    · exact .ite (reply_kept _ _ _ _ s) (Kept.replied
        (.modChannel _ _ s id fun hrun => absurd hrun (phaseState_not_running _)) _ _ _ _)
    · exact reply_kept _ _ _ _ s
  · exact reply_kept _ _ _ _ s

theorem serveDmaCount_kept (tag channel : Byte) (count : Word24) (s : State) :
    Kept Q s (serveDmaCount tag channel count s) := by
  unfold serveDmaCount
  split
  · exact .ite (reply_kept _ _ _ _ s) (.ite (reply_kept _ _ _ _ s) (Kept.replied
      (.modChannel _ _ s id fun hrun => absurd hrun (phaseState_not_running _)) _ _ _ _))
  · exact reply_kept _ _ _ _ s

/-- A channel whose owner is ATTACHED may begin to run on a live bus. -/
theorem Kept.modChannel_runs {n : Fin 4} {s : State} (hlive : s.bus.state.live = true)
    (hattached : s.slots[s.channels[n].owner].state = .attached) (f : Channel → Channel)
    (howner : (f s.channels[n]).owner = s.channels[n].owner) (hstray : (f s.channels[n]).stray = s.channels[n].stray) :
    Kept Q s (Machine.modChannel n f s) where
  image := id
  capture := id
  claims := id
  settings := id
  counts := fun ⟨howed, hlost, hburst, herrors, hdrop, hchannels, hrest⟩ =>
    ⟨howed, hlost, hburst, herrors, hdrop,
      fun k => upd_related (R := fun _ (x y : Channel) => x.stray ≤ 255 → y.stray ≤ 255) (fun _ _ => id) s.channels n f
        (fun hs => hstray.le.trans hs) k (hchannels k), hrest⟩
  slots := id
  stuck := id
  engine := id
  linkUp := id
  live := id
  dead _ _ hb := absurd ((show s.bus.state.live = false from hb).symm.trans hlive) Bool.false_ne_true
  owners hi k := upd_related
    (R := fun _ (x y : Channel) => (x.state = .running → s.slots[x.owner].state = .attached) → y.state = .running →
      s.slots[y.owner].state = .attached) (fun _ _ => id) s.channels n f
    (fun _ _ => by
      simp only [howner]
      exact hattached) k (hi k)
  pending := id

/-- START is made on a live bus at an ATTACHED owner (R88). -/
theorem startChannel_kept {n : Fin 4} {s : State} (h : mayStart s n = true) : Kept Q s (startChannel n s) := by
  simp only [mayStart, attached, Bool.and_eq_true, beq_iff_eq] at h
  obtain ⟨⟨hlive, -⟩, hattached⟩ := h
  refine .modChannel_runs hlive hattached _ ?_ ?_
  · dsimp only
    split <;> rfl
  · dsimp only
    split <;> rfl

theorem serveDmaStart_kept (tag channel : Byte) (s : State) : Kept Q s (serveDmaStart tag channel s) := by
  unfold serveDmaStart
  split
  · exact .ite_of (fun h => ((startChannel_kept h).replied _ _ _ _).settled) fun _ => reply_kept _ _ _ _ s
  · exact reply_kept _ _ _ _ s

theorem serveDmaClear_kept (tag channel : Byte) (s : State) : Kept Q s (serveDmaClear tag channel s) := by
  unfold serveDmaClear
  split
  · exact .ite (.modChannel_still _ _ s rfl rfl rfl) ((clearChannel_kept _ s).replied _ _ _ _).settled
  · exact reply_kept _ _ _ _ s

theorem serveDmaPulse_kept (tag channel : Byte) (s : State) : Kept Q s (serveDmaPulse tag channel s) := by
  unfold serveDmaPulse
  split
  · exact .ite (reply_kept _ _ _ _ s) (.ite (reply_kept _ _ _ _ s)
      ((Kept.modChannel_still _ _ s rfl rfl rfl).replied _ _ _ _).settled)
  · exact reply_kept _ _ _ _ s

theorem serveLineConfigure_kept (tag line sense enabled group keep entry : Byte) (s : State) :
    Kept Q s (serveLineConfigure tag line sense enabled group keep entry s) := by
  unfold serveLineConfigure
  split
  · split
    · exact ((configureLine_kept _ _ s).replied _ _ _ _).settled
    · exact reply_kept _ _ _ _ s
  · exact reply_kept _ _ _ _ s

theorem serveClearStuck_kept (tag line bitmap : Byte) (s : State) : Kept Q s (serveClearStuck tag line bitmap s) := by
  unfold serveClearStuck
  split
  · exact ((forBitmap_kept bitmap (clearStuckAt_kept _) s).replied _ _ _ _).settled
  · exact reply_kept _ _ _ _ s

theorem serveClearPending_kept (tag line bitmap : Byte) (s : State) :
    Kept Q s (serveClearPending tag line bitmap s) := by
  unfold serveClearPending
  split
  · exact (forBitmap_kept bitmap (clearPendingAt_kept _) s).replied _ _ _ _
  · exact reply_kept _ _ _ _ s

theorem serveServiceWrite_kept (tag entry record count : Byte) (steps : List Byte) (s : State) :
    Kept Q s (serveServiceWrite tag entry record count steps s) := by
  unfold serveServiceWrite
  split
  · refine .ite (reply_kept _ _ _ _ s) ?_
    split
    · exact .ite (reply_kept _ _ _ _ s) (.ite (reply_kept _ _ _ _ s)
        ((Kept.of_touches (touches_entries (l := [.entries]) s _)).replied _ _ _ _))
    · exact reply_kept _ _ _ _ s
  · exact reply_kept _ _ _ _ s

theorem serveTimerStart_kept (tag timer : Byte) (period : Word16) (entry keep : Byte) (s : State) :
    Kept Q s (serveTimerStart tag timer period entry keep s) := by
  unfold serveTimerStart
  split
  · refine .ite_of (fun hlive => Kept.settled (Kept.replied ?_ _ _ _ _)) fun _ => reply_kept _ _ _ _ s
    exact .modTimer _ _ s fun hb => absurd (hb.symm.trans hlive) Bool.false_ne_true
  · exact reply_kept _ _ _ _ s

theorem serveTimerStop_kept (tag timer : Byte) (period : Word16) (entry keep : Byte) (s : State) :
    Kept Q s (serveTimerStop tag timer period entry keep s) := by
  unfold serveTimerStop
  split
  · exact Kept.replied (.modTimer _ _ s fun _ h => ⟨rfl, rfl, h.2.2⟩) _ _ _ _
  · exact reply_kept _ _ _ _ s

theorem Kept.modWatch (u : Fin 2) (f : Watch → Watch) (s : State)
    (h : s.watch[u].hits ≤ 65535 → (f s.watch[u]).hits ≤ 65535) : Kept Q s (modWatch u f s) :=
  .setWatch s _ (upd_related (R := fun _ (x y : Watch) => x.hits ≤ 65535 → y.hits ≤ 65535) (fun _ _ => id) _ u f h)

theorem serveWatchConfigure_kept (tag unit : Byte) (w : WatchFields) (s : State) :
    Kept Q s (serveWatchConfigure tag unit w s) := by
  unfold serveWatchConfigure
  split
  · split
    · refine .ite (Kept.replied (.modWatch _ _ s fun h => ?_) _ _ _ _) (reply_kept _ _ _ _ s)
      simp only [configuredWatch]
      split
      · exact Nat.zero_le _
      · exact h
    · exact reply_kept _ _ _ _ s
  · exact reply_kept _ _ _ _ s

theorem serveImgWrite_kept (tag : Byte) (offset : Word24) (count : Word16) (data : List Byte) (s : State) :
    Kept Q s (serveImgWrite tag offset count data s) :=
  .ite (reply_kept _ _ _ _ s) (.ite ((Kept.storeBytes _ _ s).replied _ _ _ _) (reply_kept _ _ _ _ s))

theorem serveImgFill_kept (tag : Byte) (offset length : Word24) (value : Byte) (s : State) :
    Kept Q s (serveImgFill tag offset length value s) :=
  .ite (.ite (reply_kept _ _ _ _ s) (.setImage s _ id)) (reply_kept _ _ _ _ s)

/-- The service of a request keeps every invariant. -/
theorem serve_stepKept (i : Instr) (s : State) : StepKept s (serve i s) := by
  cases i with
  | busOff tag => exact serveBusOff_stepKept tag s
  | busReset tag => exact serveBusReset_stepKept tag s
  | set tag n v => exact (serveSet_kept tag n v s).step
  | busRun tag | busHold tag | busStop tag => exact (busMove_kept rfl tag s).step
  | slotAttach tag n => exact (serveSlotAttach_kept tag n s).step
  | slotIsolate tag n => exact (serveSlotIsolate_kept tag n s).step
  | claimWrite tag w => exact (serveClaimWrite_kept tag w s).step
  | ops tag payload => exact (serveOps_kept tag payload s).step
  | dmaMode tag ch mode dir owner options => exact (serveDmaMode_kept tag ch mode dir owner options s).step
  | dmaAddr tag ch page offset stp => exact (serveDmaAddr_kept tag ch page offset stp s).step
  | dmaCount tag ch n => exact (serveDmaCount_kept tag ch n s).step
  | dmaStart tag ch => exact (serveDmaStart_kept tag ch s).step
  | dmaClear tag ch => exact (serveDmaClear_kept tag ch s).step
  | dmaPulse tag ch => exact (serveDmaPulse_kept tag ch s).step
  | lineConfigure tag l sense enabled group keep entry =>
    exact (serveLineConfigure_kept tag l sense enabled group keep entry s).step
  | clearStuck tag l bitmap => exact (serveClearStuck_kept tag l bitmap s).step
  | clearPending tag l bitmap => exact (serveClearPending_kept tag l bitmap s).step
  | serviceWrite tag e record count steps => exact (serveServiceWrite_kept tag e record count steps s).step
  | timerStart tag t period entry keep => exact (serveTimerStart_kept tag t period entry keep s).step
  | timerStop tag t period entry keep => exact (serveTimerStop_kept tag t period entry keep s).step
  | watchConfigure tag u w => exact (serveWatchConfigure_kept tag u w s).step
  | watchArm _ _ | watchDisarm _ _ =>
    simp only [serve, serveWatchArm, serveWatchDisarm]
    split
    · exact ((Kept.modWatch _ _ s id).replied _ _ _ _).step
    · exact (reply_kept _ _ _ _ s).step
  | drain tag ne => exact (drainRecords_kept tag ne s).step
  | drainClear tag ne => exact (drainAndClear_kept tag ne s).step
  | imgWrite tag offset count data => exact (serveImgWrite_kept tag offset count data s).step
  | imgFill tag offset length value => exact (serveImgFill_kept tag offset length value s).step
  | slotQuery _ _ | claimRead _ _ | dmaQuery _ _ | lineQuery _ _ | serviceQuery _ _ | timerQuery _ _ | watchQuery _ _ =>
    simp only [serve, serveSlotQuery, serveClaimRead, serveDmaQuery, serveLineQuery, serveServiceQuery, serveTimerQuery,
      serveWatchQuery]
    split
    · exact (reply_kept _ _ _ _ s).step
    · exact (reply_kept _ _ _ _ s).step
  | get tag n => exact .ite (reply_kept _ _ _ _ s).step (reply_kept _ _ _ _ s).step
  | imgRead tag offset length => exact .ite (reply_kept _ _ _ _ s).step (reply_kept _ _ _ _ s).step
  | ident tag => exact (reply_kept _ _ _ _ s).step
  | status tag => exact ((reply_kept _ _ _ _ s).trans (.setLink _ { (reply 0x02 tag .ok (statusFields s) s).link with errors := 0, overflow := false }
        (fun _ => Nat.zero_le _) id)).step
  | unknownRequest kind tag payload => exact (reply_kept _ _ _ _ s).step
  | _ => exact .refl s

end Sys2Proof.Machine
end

section
/-! PROOFS. O53 to O60: what every step keeps. First the receiver, then the events, then the end of a microsecond, then
part reset; then the statements. -/

namespace Sys2Proof.Machine

set_option Elab.async false

variable {Q : Prop}

/-! ## The receiver (R184 to R189) -/

/-- A change of the link that keeps the error count and a ready link. -/
theorem modLink_kept (f : Link → Link) (s : State) (h : (f s.link).errors = s.link.errors)
    (hready : s.link.ready = true → (f s.link).ready = true) : Kept Q s (modLink f s) :=
  .setLink s _ (fun he => h.le.trans he) hready

theorem discard_kept (s : State) : Kept Q s (discard s) := by
  have hcounted : Kept Q s (modLink (fun l => { l with errors := min 65535 (l.errors + 1) }) s) :=
    .setLink s _ (fun _ => Nat.min_le_left _ _) id
  exact hcounted.trans (modLink_kept (fun l => { l with rx := resetReceiver, silence := 0 }) _ rfl id)

theorem takeRequest_stepKept (i : Instr) {serve : State → State} (h : ∀ s, StepKept s (serve s)) (s : State) :
    StepKept s (takeRequest i serve s) := by
  unfold takeRequest
  split
  · refine .ite (.refl s) (.ite ?_ (.ite ?_ ?_))
    · exact (modLink_kept _ s rfl id).step
    · exact (discard_kept s).step
    · exact (modLink_kept _ s rfl id).step.trans (h _)
  · exact .refl s

theorem frameTaken_stepKept (kind tag : Byte) (length : Word16) (payload : List Byte) (check : Byte) (s : State) :
    StepKept s (frameTaken kind tag length payload check s) :=
  .ite ((modLink_kept _ s rfl id).step.trans (serve_stepKept _ _)) (discard_kept s).step

theorem modRx_stepKept (f : Receiver → Receiver) (s : State) : StepKept s (modRx f s) := (modLink_kept _ s rfl id).step

theorem takeByte_stepKept (b : Byte) (s : State) : StepKept s (takeByte b s) := by
  unfold takeByte
  split
  · exact .ite (.ite (modRx_stepKept _ s) (.ite (modRx_stepKept _ s) (modRx_stepKept _ s)))
      (.ite (modRx_stepKept _ s) (modRx_stepKept _ s))
  · unfold takeInHeader
    split
    · exact .ite (discard_kept s).step (modRx_stepKept _ s)
    · exact modRx_stepKept _ s
  · unfold takeInPayload
    split
    · exact .ite (modRx_stepKept _ s) (frameTaken_stepKept _ _ _ _ _ s)
    · exact (modLink_kept _ s rfl id).step

theorem offerByte_stepKept (b : Byte) (s : State) : StepKept s (offerByte b s) :=
  .ite (modLink_kept _ s rfl id).step (takeByte_stepKept b s)

theorem resumePipe_stepKept (s : State) : StepKept s (resumePipe s) :=
  (modLink_kept _ s rfl id).step.trans (stepKept_foldl (fun _ _ => offerByte_stepKept _ _) _ _)

/-! ## Events -/

/-- An event on a bus that is live where the state is quiet, or else does nothing. -/
theorem StepKept.of_live {s t : State}
    (h : (DeadBusIsQuiet s → s.bus.state.live = true) → Kept (DeadBusIsQuiet s) s t)
    (hdead : DeadBusIsQuiet s → s.bus.state.live = false → t = s) : StepKept s t := by
  by_cases hasleep : DeadBusIsQuiet s ∧ s.bus.state.live = false
  · rw [hdead hasleep.1 hasleep.2]
    exact .refl s
  · exact (h fun hquiet => by simpa using fun hb => hasleep ⟨hquiet, hb⟩).step

theorem startCycle_stepKept (wideAck : Bool) (s : State) : StepKept s (startCycle wideAck s) := by
  refine .of_live (fun hlive => startCycle_kept hlive wideAck) fun hquiet hb => ?_
  obtain ⟨-, -, howner, -⟩ := hquiet hb
  simp only [startCycle, howner, ite_self]

theorem endCycle_stepKept (s : State) : StepKept s (endCycle s) := by
  refine .of_live (fun hlive => ?_) fun hquiet hb => ?_
  · unfold endCycle
    split
    · exact .ite (boundary_kept hlive _) (.refl s)
    · exact .refl s
  · obtain ⟨hcycle, -⟩ := hquiet hb
    simp only [endCycle, hcycle]

theorem endRefresh_stepKept (s : State) : StepKept s (endRefresh s) := by
  refine .of_live (fun hlive => ?_) fun hquiet hb => ?_
  · unfold endRefresh
    split
    · exact .ite (boundary_kept hlive _) (.refl s)
    · exact .refl s
  · obtain ⟨hcycle, -⟩ := hquiet hb
    simp only [endRefresh, hcycle]

theorem assertStrobe_stepKept (space : Space) (address : BitVec 20) (write : Bool) (s : State) :
    StepKept s (assertStrobe space address write s) := by
  refine .of_live (fun hlive => ?_) fun hquiet hb => ?_
  · unfold assertStrobe
    split
    · exact .setPlanner s _ fun hQ hb => absurd (hb.symm.trans (hlive hQ)) Bool.false_ne_true
    · exact .refl s
  · obtain ⟨-, -, -, -, hgrant, -⟩ := hquiet hb
    simp only [assertStrobe, hgrant]

theorem disown_kept (s : State) : Kept Q s (disown s) := by
  have hqueue : Kept Q s { s with queue := { s.queue with frames := s.queue.frames.map fun f => { f with wanted := false } } } :=
    .setQueue s _ fun _ _ => id
  refine ((hqueue.trans (.setImage _ { s.image with replyWanted := false } id)).trans (.setSlots _
    (mapAll (fun x => { x with waiting := x.waiting.map Waiting.lost }) s.slots) (fun n => ?_) fun n => ?_)).trans
    (.setChannels _ (mapAll (fun c => { c with waiting := c.waiting.map Waiting.lost }) s.channels) (fun n => ?_) fun n => ?_)
  · rw [mapAll_get]
    exact id
  · rw [mapAll_get]
    exact id
  · rw [mapAll_get]
    exact id
  · simp only [mapAll_get]
    exact fun h => ⟨h, trivial⟩

theorem endFill_kept (s : State) : Kept Q s (endFill s) :=
  (Kept.setImage s { s.image with filling := false } id).trans (replyLater_kept _ _ _ _ _)

theorem fillStore_kept (s : State) : Kept Q s (fillStore s) := by
  have hstored : Kept Q s { storeImage s.image.fillNext (List.replicate (fillCount s.image) s.image.fillValue) s with
      image := { (storeImage s.image.fillNext (List.replicate (fillCount s.image) s.image.fillValue) s).image with
        fillNext := s.image.fillNext + fillCount s.image } } :=
    (Kept.storeBytes _ _ s).trans (.setImage _ _ id)
  exact .ite (hstored.trans (endFill_kept _)) hstored

theorem driveLine_kept (l : Fin 12) (n : Fin 8) (level : Bool) (s : State) : Kept Q s (driveLine l n level s) :=
  .of_touches (touches_cards (l := [.cards]) s _)

theorem lineAssert_kept (l : Fin 12) (n : Fin 8) (s : State) : ∃ t, exec (.lineAssert l n) s = .next t ∧ Kept Q s t := by
  refine ⟨_, rfl, .ite (.refl s) (.ite_of (fun hw => ?_) fun _ => driveLine_kept l n true s)⟩
  have hset : Kept Q s (setReference l n true (driveLine l n true s)) :=
    (driveLine_kept l n true s).trans (.setReference l n true _)
  exact Kept.settled (.ite (hset.trans (risingEdge_kept l (by exact hw))) (hset.trans (evaluate_kept l n _)))

theorem channelAssert_kept (n : Fin 4) (slot : Fin 8) (s : State) :
    ∃ t, exec (.channelRequestAssert n slot) s = .next t ∧ Kept Q s t := by
  have hdriven : Kept Q s (driveRequest n slot true s) := .of_touches (touches_cards (l := [.cards]) s _)
  refine ⟨_, rfl, .ite (.refl s) (.ite (.ite ?_ ?_) hdriven)⟩
  · exact (hdriven.trans (.ite (.modChannel_still n _ _ rfl rfl rfl) (.refl _))).settled
  · exact hdriven.trans (.modChannel n _ _ (fun _ => Nat.min_le_left _ _) fun h => ⟨h, rfl⟩)

/-- The supply monitor's record is in no invariant. -/
theorem Kept.setSupply (supply : SupplyState) (micros : Nat) (s : State) :
    Kept Q s (modBus (fun b => { b with supply := supply, supplyMicros := micros }) s) := .setBus s _ id

theorem supplyLost_stepKept (s : State) : ∃ t, exec .supplyLost s = .next t ∧ StepKept s t := by
  refine ⟨_, rfl, .ite ?_ (.refl s)⟩
  have hnoted : StepKept s (lossNoted s) := ((Kept.setSupply .lost 0 s).trans (notice_kept _ _ _)).step
  refine .ite hnoted (hnoted.trans ?_)
  have hwork := (enterDead_entered .down .supply (lossNoted s)).flushed.1
  exact .of_workClosed ((enterDead_fieldsKept .down .supply _).trans (flushQueue_kept (Q := True) _).toFieldsKept) hwork

/-! ## Link loss (R193) -/

/-- Every invariant is kept, whatever becomes of the link. -/
structure InvariantsKept (s t : State) : Prop where
  image : ImageCanonical s → ImageCanonical t
  capture : CaptureInBounds s → CaptureInBounds t
  claims : ClaimsDisjoint s → ClaimsDisjoint t
  settings : SettingsInRange s → SettingsInRange t
  counts : CountsInRange s → CountsInRange t
  slots : SlotsConsistent s → SlotsConsistent t
  stuck : StuckNotServed s → StuckNotServed t
  engine : IdleEngineClear s → IdleEngineClear t
  dead : DeadBusIsQuiet s → DeadBusIsQuiet t
  owners : RunningOwnerAttached s → RunningOwnerAttached t
  pending : PendingOnlyWatched s → PendingOnlyWatched t

theorem StepKept.invariants {s t : State} (h : StepKept s t) : InvariantsKept s t :=
  ⟨h.image, h.capture, h.claims, h.settings, h.counts, h.slots, h.stuck, h.engine, h.dead, h.owners, h.pending⟩

/-- No invariant reads the commands that wait. -/
theorem InvariantsKept.of_pending {s t : State} {rest : List Instr} (h : InvariantsKept { s with pending := rest } t) :
    InvariantsKept s t :=
  ⟨h.image, h.capture, h.claims, h.settings, h.counts, h.slots, h.stuck, h.engine, h.dead, h.owners, h.pending⟩

/-- A link loss with the link as it was disowns the requests; that the link is down no invariant reads. -/
theorem linkLoss_invariantsKept (s : State) : ∃ t, exec .linkLoss s = .next t ∧ InvariantsKept s t := by
  have hlost := ((modLink_kept (fun l => { l with rx := resetReceiver, silence := 0, tx := [], outPipe := [] }) s rfl
    id).trans (disown_kept _)).step.invariants
  exact ⟨_, rfl, hlost.image, hlost.capture, hlost.claims, hlost.settings, hlost.counts, hlost.slots, hlost.stuck,
    hlost.engine, hlost.dead, hlost.owners, hlost.pending⟩

/-! ## Part reset (R194) -/

/-- Every invariant holds of a state whose blocks are at their part reset values, the slots in agreement. -/
theorem meets_of_reset {t : State}
    (h : Touches [.pending, .bus, .slots, .cards, .planner, .timeBase, .choices] State.reset t)
    (hcycle : t.planner.cycle = none) (hmaster : t.planner.master = none) (hslots : SlotsConsistent t) :
    ImageCanonical t ∧ CaptureInBounds t ∧ ClaimsDisjoint t ∧ SettingsInRange t ∧ CountsInRange t ∧ DeadBusIsQuiet t ∧
      RunningOwnerAttached t ∧ SlotsConsistent t ∧ StuckNotServed t ∧ PendingOnlyWatched t ∧ IdleEngineClear t := by
  have himage : t.image = resetImage := h .image (by decide)
  have hcapture : t.capture = resetCapture := h .capture (by decide)
  have hclaims : t.claims = Vector.replicate 24 resetClaim := h .claims (by decide)
  have hsettings : t.settings = resetSettings := h .settings (by decide)
  have harb : t.arb = resetArbiter := h .arb (by decide)
  have hlink : t.link = resetLink := h .link (by decide)
  have hchannels : t.channels = Vector.replicate 4 resetChannel := h .channels (by decide)
  have hwatch : t.watch = Vector.replicate 2 resetWatch := h .watch (by decide)
  have hqueue : t.queue = resetQueue := h .queue (by decide)
  have hengine : t.engine = resetEngine := h .engine (by decide)
  have htimers : t.timers = Vector.replicate 4 resetTimer := h .timers (by decide)
  have hlines : t.lineSlots = Vector.replicate 12 (Vector.replicate 8 resetLineSlot) := h .lineSlots (by decide)
  have hchannel (n : Fin 4) : t.channels[n] = resetChannel := by simp [hchannels]
  have hline (l : Fin 12) (n : Fin 8) : t.lineSlots[l][n] = resetLineSlot := by simp [hlines]
  have hclaim (e : Fin 24) : t.claims[e] = resetClaim := by simp [hclaims]
  have htimer (n : Fin 4) : t.timers[n] = resetTimer := by simp [htimers]
  refine ⟨?_, ?_, ⟨fun e => ?_, fun i j space a hi => ?_⟩, fun k h1 h11 => ?_, ?_, fun _ => ?_, fun n hrun => ?_, hslots,
    fun l n => ?_, fun l n hp => ?_, fun _ => hengine⟩
  · rw [ImageCanonical, himage]
    rfl
  · rw [CaptureInBounds, hcapture]
    exact ⟨by decide, by decide, trivial⟩
  · rw [hclaim e]
    exact ⟨by decide, by decide, rfl, nofun⟩
  · rw [hclaim i] at hi
    exact absurd hi (by simp [Claim.matches, resetClaim])
  · rw [hsettings]
    interval_cases k <;> decide
  · rw [CountsInRange, harb, hlink, hcapture]
    refine ⟨by decide, by decide, by decide, by decide, by decide, fun n => ?_, fun u => ?_, fun src => ?_⟩
    · rw [hchannel n]
      decide
    · simp [hwatch, resetWatch]
    · cases src <;> simp [Capture.counts, resetCapture, zeroCounts]
  · rw [hcycle, hmaster, harb, hqueue]
    refine ⟨rfl, rfl, rfl, rfl, rfl, rfl, rfl, rfl, hengine, fun n => ?_, fun n => ?_, fun l n => ?_⟩
    · rw [hchannel n]
      exact nofun
    · rw [htimer n]
      exact ⟨rfl, rfl, rfl⟩
    · rw [hline l n]
      exact ⟨rfl, rfl⟩
  · rw [hchannel n] at hrun
    exact nomatch hrun
  · rw [hline l n]
    exact ⟨nofun, by decide, fun _ => by decide⟩
  · rw [hline l n] at hp
    exact nomatch hp

theorem slotOk_resetSlot (present wide : Bool) : SlotOk (resetSlot present wide) := by
  cases present <;> simp [SlotOk, resetSlot]

theorem partReset_invariantsKept (present straps : Byte) (good : Bool) (s : State) :
    ∃ t, exec (.partReset present straps good) s = .next t ∧ InvariantsKept s t := by
  refine ⟨_, rfl, ?_⟩
  obtain ⟨himage, hcapture, hclaims, hsettings, hcounts, hdead, howners, hslots, hstuck, hpending, hengine⟩ :=
    meets_of_reset (t := { State.reset with
      pending := s.pending
      bus := resetBus good
      slots := Vector.ofFn fun n => resetSlot (present.getLsbD n.val) (straps.getLsbD n.val)
      cards := Vector.ofFn fun n => if present.getLsbD n.val then s.cards[n] else quietCard
      planner := { resetPlanner with freeBytes := s.planner.freeBytes }
      choices := s.choices })
      (fun f hf => by cases f <;> first | rfl | exact absurd (by decide) hf) rfl rfl
      (fun n => by
        have hn : (Vector.ofFn fun n : Fin 8 => resetSlot (present.getLsbD n.val) (straps.getLsbD n.val))[n] =
            resetSlot (present.getLsbD n.val) (straps.getLsbD n.val) := by simp
        exact hn ▸ slotOk_resetSlot _ _)
  exact ⟨fun _ => himage, fun _ => hcapture, fun _ => hclaims, fun _ => hsettings, fun _ => hcounts, fun _ => hslots,
    fun _ => hstuck, fun _ => hengine, fun _ => hdead, fun _ => howners, fun _ => hpending⟩

/-! ## Every command -/

theorem exec_request_stepKept {i : Instr} {frame : Byte × Byte × List Byte} (hi : requestFrame i = some frame)
    (s : State) : ∃ t, exec i s = .next t ∧ StepKept s t := by
  obtain ⟨j, hexec, -⟩ := exec_eq_takeRequest hi s
  exact ⟨_, hexec, takeRequest_stepKept i (serve_stepKept j) s⟩

theorem exec_stepKept {i : Instr} (hloss : i ≠ .linkLoss) (hreset : ∀ present straps good, i ≠ .partReset present straps good)
    (s : State) : ∃ t, exec i s = .next t ∧ StepKept s t := by
  cases i with
  | partReset present straps good => exact absurd rfl (hreset present straps good)
  | linkReady => exact ⟨_, rfl, .ite (.refl s) (modLink_kept _ s rfl fun _ => rfl).step⟩
  | linkLoss => exact absurd rfl hloss
  | frameDiscarded kind tag length payload check =>
    exact ⟨_, rfl, .ite (.refl s) (.ite (modLink_kept _ s rfl id).step (frameTaken_stepKept _ _ _ _ _ s))⟩
  | receiverSilenceTimeout => exact ⟨_, rfl, .ite (discard_kept s).step (.refl s)⟩
  | inPipeRead =>
    refine ⟨_, rfl, .ite ?_ (.refl s)⟩
    split
    · exact .refl s
    · exact (modLink_kept _ s rfl id).step.trans (resumePipe_stepKept _)
  | byteTaken b => exact ⟨_, rfl, .ite (offerByte_stepKept b s) (.refl s)⟩
  | fillStore => exact ⟨_, rfl, .ite (fillStore_kept s).step (.refl s)⟩
  | presenceArrival n =>
    refine ⟨_, rfl, Kept.step (.ite_of (fun hempty => ?_) fun _ => .refl s)⟩
    have hmoved : Kept (DeadBusIsQuiet s) s (modSlot n (fun x => { x with state := .isolated, present := true }) s) := by
      refine .modSlot n _ s (fun h => ?_) fun h => nomatch hempty.symm.trans h
      have hok := h
      simp only [SlotOk, hempty, reduceCtorEq, iff_false, iff_true] at hok
      simp only [SlotOk, hok.1, reduceCtorEq, Bool.true_eq_false, iff_self, and_self]
    exact hmoved.trans (notice_kept _ _ _)
  | presenceLoss n =>
    have hquiet : Kept (DeadBusIsQuiet s) s { s with cards := upd s.cards n fun _ => quietCard } :=
      .of_touches (touches_cards (l := [.cards]) s _)
    exact ⟨_, rfl, Kept.step (.ite (.refl s) (hquiet.trans (emptySlot_kept n _)).settled)⟩
  | csupgoodLow | csupgoodHigh =>
    refine ⟨_, rfl, Kept.step ?_⟩
    split
    · exact .setSupply _ _ s
    · exact .setSupply _ _ s
    · exact .refl s
    · exact .refl s
  | supplyLost => exact supplyLost_stepKept s
  | supplyRestored => exact ⟨_, rfl, Kept.step (.ite ((Kept.setSupply _ _ s).trans (notice_kept _ _ _)) (.refl s))⟩
  | pulseEnd => exact ⟨_, rfl, Kept.step (.ite (endPulse_kept s).settled (.refl s))⟩
  | cycleStart w => exact ⟨_, rfl, startCycle_stepKept w s⟩
  | cycleWaitEnd w lines => exact ⟨_, rfl, (endWait_kept w lines s).step⟩
  | readyTimeout lines => exact ⟨_, rfl, (timeOut_kept lines s).step⟩
  | cycleEnd => exact ⟨_, rfl, endCycle_stepKept s⟩
  | refreshCycleEnd => exact ⟨_, rfl, endRefresh_stepKept s⟩
  | delayExpiry =>
    refine ⟨_, rfl, Kept.step (.ite ?_ (.refl s))⟩
    exact ((Kept.modEngine_calm s (fun g => { g with delayLeft := 0 }) rfl rfl).trans (stepBoundary_kept _)).settled
  | pauseExpiry => exact ⟨_, rfl, Kept.step (.ite (endOp_kept _ s).settled (.refl s))⟩
  | waitDmaTimeout =>
    exact ⟨_, rfl, Kept.step (.ite (.modQueue _ s fun _ _ => id) (.ite (endOp_kept _ s).settled (.refl s)))⟩
  | timerExpiry n =>
    refine ⟨_, rfl, Kept.step (.ite_of (fun h => ?_) fun _ => .refl s)⟩
    have hlive : s.bus.state.live = true := by
      obtain ⟨-, hcounts⟩ := h
      cases hs : s.bus.state <;> rw [hs] at hcounts <;> first | rfl | exact nomatch hcounts
    have hpending : Kept (DeadBusIsQuiet s) s (modTimer n (fun t => { t with elapsed := 0, pending := true }) s) :=
      .modTimer n _ s fun hb => absurd (hb.symm.trans hlive) Bool.false_ne_true
    exact Kept.settled (.ite (hpending.trans (raiseCoalesced_kept _ _)) hpending)
  | refreshIntervalExpiry => exact ⟨_, rfl, Kept.step (.ite (refreshDue_kept s).settled (.refl s))⟩
  | holdTimerExpiry => exact ⟨_, rfl, (holdExpired_kept s).step⟩
  | channelRequestAssert n slot =>
    obtain ⟨t, hexec, h⟩ := channelAssert_kept (Q := DeadBusIsQuiet s) n slot s
    exact ⟨t, hexec, h.step⟩
  | channelRequestDeassert n slot =>
    have hdriven : Kept (DeadBusIsQuiet s) s (driveRequest n slot false s) :=
      .of_touches (touches_cards (l := [.cards]) s _)
    exact ⟨_, rfl, Kept.step (.ite (.ite
      ((hdriven.trans (endCascade_kept n _)).trans (dropUnstartedGrant_kept n _)).settled hdriven) (.refl s))⟩
  | masterStrobeAssert sp a w => exact ⟨_, rfl, assertStrobe_stepKept sp a w s⟩
  | masterStrobeRelease k b => exact ⟨_, rfl, (releaseStrobe_kept k b s).step⟩
  | lineAssert l n =>
    obtain ⟨t, hexec, h⟩ := lineAssert_kept (Q := DeadBusIsQuiet s) l n s
    exact ⟨t, hexec, h.step⟩
  | lineDeassert l n =>
    have hdriven := driveLine_kept (Q := DeadBusIsQuiet s) l n false s
    exact ⟨_, rfl, Kept.step (.ite (hdriven.trans (.setReference l n false _)) hdriven)⟩
  | unknownRequest kind tag payload => exact exec_request_stepKept rfl s
  | _ => exact exec_request_stepKept rfl s

/-! ## The end of a microsecond (R144) -/

theorem tickPulse_kept (s : State) : Kept Q s (tickPulse s).1 := by
  unfold tickPulse
  split
  · split
    · exact .setBus s _ id
    · exact .setBus s _ id
  · exact .refl s

theorem tickSupply_kept (s : State) : Kept Q s (tickSupply s).1 := by
  unfold tickSupply
  dsimp only
  split
  · exact .setBus s _ id
  · exact .setBus s _ id
  · exact .refl s
  · exact .refl s

theorem usedChoice_kept (s : State) : Kept Q s (usedChoice s) := .of_touches (touches_choices (l := [.choices]) s _)

theorem tickCycle_kept (s : State) : Kept Q s (tickCycle s).1 := by
  unfold tickCycle
  split
  · next c hc =>
    split
    · exact .refl s
    · dsimp only
      exact (usedChoice_kept s).trans (.modPlanner_running (s := usedChoice s) hc _)
  · exact .refl s

theorem tickMaster_kept (s : State) : Kept Q s (tickMaster s).1 := by
  unfold tickMaster
  split
  · next m hm =>
    dsimp only
    exact (usedChoice_kept s).trans (.setPlanner (usedChoice s) _ fun _ _ h => nomatch h.2.symm.trans hm)
  · exact .refl s

theorem tickInterval_kept (s : State) : Kept Q s (tickInterval s).1 := by
  unfold tickInterval
  split
  · split
    · dsimp only
      exact .modArb _ s id fun _ h => ⟨h.owner, h.hold, h.grant, h.timer⟩
    · dsimp only
      exact .modArb _ s id fun _ h => ⟨h.owner, h.hold, h.grant, h.timer⟩
  · exact .refl s

theorem tickHoldTimer_kept (s : State) : Kept Q s (tickHoldTimer s).1 := by
  unfold tickHoldTimer
  split
  · dsimp only
    exact .modArb _ s id fun _ h => ⟨h.owner, h.hold, h.grant, h.timer⟩
  · exact .refl s

theorem tickQueue_kept (s : State) : Kept Q s (tickQueue s).1 := by
  have hover : Kept Q s (modQueue (fun q => { q with overtaken := false }) s) := .modQueue _ s fun _ _ => id
  unfold tickQueue
  dsimp only
  split
  · dsimp only
    exact hover.trans (.modQueue _ _ fun _ _ => id)
  · dsimp only
    exact hover.trans (.modQueue _ _ fun _ _ => id)
  · exact hover
  · exact hover

theorem tickDelay_kept (s : State) : Kept Q s (tickDelay s).1 := by
  unfold tickDelay
  split
  · exact .modEngine_calm s (fun g => { g with delayLeft := g.delayLeft - 1 }) rfl rfl
  · exact .refl s

theorem tickTimer_kept (n : Fin 4) (s : State) : Kept Q s (tickTimer n s).1 := by
  unfold tickTimer
  split
  · split
    · exact .modTimer n _ s fun _ => id
    · exact .modTimer n _ s fun _ => id
  · exact .refl s

theorem tickSilence_kept (s : State) : Kept Q s (tickSilence s).1 := by
  unfold tickSilence
  split
  · dsimp only
    exact modLink_kept _ s rfl id
  · exact .refl s

theorem runParts_kept : ∀ (parts : List TickPart), (∀ f ∈ parts, ∀ s, Kept Q s (f s).1) → ∀ p : State × List Instr,
    Kept Q p.1 (runParts parts p).1
  | [], _, p => .refl p.1
  | f :: rest, h, p =>
    (h f List.mem_cons_self p.1).trans
      (runParts_kept rest (fun g hg => h g (List.mem_cons_of_mem f hg)) ((f p.1).1, p.2 ++ (f p.1).2))

/-- The parts of a microsecond end, in their order. -/
def tickParts : List TickPart :=
  [tickPulse, tickSupply, tickCycle, tickMaster, tickInterval, tickHoldTimer, tickQueue, tickDelay, tickTimer 0,
    tickTimer 1, tickTimer 2, tickTimer 3, tickFill, tickSilence]

/-- What the parts come to: the state with the counts moved, and the commands that fall due. -/
def ticked (s : State) : State × List Instr := runParts tickParts ({ s with timeBase := s.timeBase + 1 }, [])

theorem tick_eq (s : State) : tick s = { (ticked s).1 with
    pending := (ticked s).1.pending ++ arrange (ticked s).2 (ticked s).1.choices
    choices := (ticked s).1.choices + (ticked s).2.length } := by
  unfold tick ticked tickParts
  with_reducible rfl

theorem tickParts_kept : ∀ f ∈ tickParts, ∀ s, Kept Q s (f s).1 := by
  simp only [tickParts, List.forall_mem_cons]
  exact ⟨tickPulse_kept, tickSupply_kept, tickCycle_kept, tickMaster_kept, tickInterval_kept, tickHoldTimer_kept,
    tickQueue_kept, tickDelay_kept, tickTimer_kept 0, tickTimer_kept 1, tickTimer_kept 2, tickTimer_kept 3, Kept.refl,
    tickSilence_kept, nofun⟩

theorem tick_kept (s : State) : Kept Q s (tick s) := by
  have hbase : Kept Q s { s with timeBase := s.timeBase + 1 } := .of_touches (touches_timeBase (l := [.timeBase]) s _)
  have hparts : Kept Q s (ticked s).1 := 
    hbase.trans (runParts_kept tickParts tickParts_kept ({ s with timeBase := s.timeBase + 1 }, []))
  rw [tick_eq]
  generalize ticked s = p at hparts ⊢
  exact hparts.trans (.of_touches (l := [.pending, .choices]) ((touches_pending p.1 _).trans (touches_choices _ _)))

/-! ## Every step -/

/-- Link loss and part reset alone may end a ready link. -/
theorem exec_invariantsKept (i : Instr) (s : State) : ∃ t, exec i s = .next t ∧ InvariantsKept s t := by
  by_cases hloss : i = .linkLoss
  · subst hloss
    exact linkLoss_invariantsKept s
  · by_cases hreset : ∃ present straps good, i = .partReset present straps good
    · obtain ⟨present, straps, good, rfl⟩ := hreset
      exact partReset_invariantsKept present straps good s
    · obtain ⟨t, hexec, ht⟩ := exec_stepKept hloss (fun p w g h => hreset ⟨p, w, g, h⟩) s
      exact ⟨t, hexec, ht.invariants⟩

theorem step_invariantsKept {s t : State} (h : step s = .next t) : InvariantsKept s t := by
  unfold step at h
  split at h
  · obtain rfl := Host.Outcome.next.inj h
    exact (tick_kept s).step.invariants
  · next c rest _ =>
    obtain ⟨u, hexec, hu⟩ := exec_invariantsKept c { s with pending := rest }
    obtain rfl := Host.Outcome.next.inj (hexec.symm.trans h)
    exact hu.of_pending

/-- Settles O53. -/
theorem stepKeepsImageCanonical : Obligations.StepKeepsImageCanonical := fun _ _ hinv h => (step_invariantsKept h).image hinv

/-- Settles O54. -/
theorem stepKeepsCaptureBounds : Obligations.StepKeepsCaptureBounds := fun _ _ hinv h => (step_invariantsKept h).capture hinv

/-- Settles O55. -/
theorem stepKeepsClaimsDisjoint : Obligations.StepKeepsClaimsDisjoint := fun _ _ hinv h => (step_invariantsKept h).claims hinv

/-- Settles O56. -/
theorem stepKeepsSettingsAndCounts : Obligations.StepKeepsSettingsAndCounts :=
  ⟨fun _ _ hinv h => (step_invariantsKept h).settings hinv, fun _ _ hinv h => (step_invariantsKept h).counts hinv⟩

/-- Settles O57. -/
theorem stepKeepsDeadBusQuiet : Obligations.StepKeepsDeadBusQuiet := fun _ _ hinv h => (step_invariantsKept h).dead hinv

/-- Settles O58. -/
theorem stepKeepsOwnersAttached : Obligations.StepKeepsOwnersAttached :=
  ⟨fun _ _ hinv h => (step_invariantsKept h).owners hinv, fun _ _ hinv h => (step_invariantsKept h).slots hinv⟩

/-- Settles O59. -/
theorem stepKeepsLineAndEngineStates : Obligations.StepKeepsLineAndEngineStates :=
  ⟨fun _ _ hinv h => (step_invariantsKept h).stuck hinv, fun _ _ hinv h => (step_invariantsKept h).pending hinv,
    fun _ _ hinv h => (step_invariantsKept h).engine hinv⟩

/-- Settles O60. -/
theorem resetMeetsTheInvariants : Obligations.ResetMeetsTheInvariants :=
  meets_of_reset (.refl _ _) rfl rfl fun n => by
    have hn : State.reset.slots[n] = resetSlot false false := by simp [State.reset]
    rw [hn]
    exact slotOk_resetSlot false false

end Sys2Proof.Machine
end

section
/-! PROOFS. O5: the codes. The lists of R188 and R195 are read off the definitions; a code byte of a request reads as the
constructor that carries it, and as nothing else. -/

namespace Sys2Proof.Machine

set_option Elab.async false

/-- A number's byte, for a number that fits one. -/
theorem natByte_eq_iff {n : Nat} (hn : n < 256) (b : Byte) : natByte n = b ↔ b.toNat = n := by
  rw [← BitVec.toNat_inj, natByte, BitVec.toNat_ofNat, Nat.mod_eq_of_lt hn, eq_comm]

section

variable (b : Byte)

theorem readSpace_eq_some_iff (x : Space) : readSpace b = some x ↔ spaceCode x = b := by
  cases x <;> grind [readSpace, spaceCode]

theorem readMode_eq_some_iff (x : DmaMode) : readMode b = some x ↔ x.code = b := by
  cases x <;> grind [readMode, DmaMode.code]

theorem readDirection_eq_some_iff (x : DmaDirection) : readDirection b = some x ↔ x.code = b := by
  cases x <;> grind [readDirection, DmaDirection.code]

theorem readSense_eq_some_iff (x : Sense) : readSense b = some x ↔ x.code = b := by
  cases x <;> grind [readSense, Sense.code]

/-- The two-valued code fields: off 0, on 1. -/
theorem readFlag_eq_some_iff (x : Bool) :
    (if b = 0 then some false else if b = 1 then some true else none) = some x ↔ boolCode x = b := by
  cases x <;> grind [boolCode]

theorem readTarget_eq_some_iff (x : ClaimTarget) : readTarget b = some x ↔ x.code = b := by
  have hbyte : b = 8 ↔ b.toNat = 8 := ⟨fun h => h ▸ rfl, fun h => BitVec.eq_of_toNat_eq h⟩
  unfold readTarget
  cases x with
  | slot n =>
    rw [ClaimTarget.code, natByte_eq_iff (by omega)]
    split_ifs with hlow himage
    · rw [Option.some_inj, ClaimTarget.slot.injEq, Fin.ext_iff]
    · simp only [Option.some_inj, reduceCtorEq, false_iff]
      omega
    · simp only [false_iff]
      omega
  | image =>
    rw [ClaimTarget.code, eq_comm (a := (8 : Byte))]
    split_ifs with hlow himage
    · simp only [Option.some_inj, reduceCtorEq, false_iff, hbyte]
      omega
    · simp only [himage]
    · simp only [himage]

theorem readEntry_eq_some_iff (x : Option (Fin 24)) : readEntry b = some x ↔ entryCode x = b := by
  have hbyte : b = 0xFF ↔ b.toNat = 0xFF := ⟨fun h => h ▸ rfl, fun h => BitVec.eq_of_toNat_eq h⟩
  unfold readEntry
  cases x with
  | some e =>
    rw [entryCode, natByte_eq_iff (by omega)]
    split_ifs with hlow hnone
    · rw [Option.some_inj, Option.some_inj, Fin.ext_iff]
    · simp only [Option.some_inj, reduceCtorEq, false_iff]
      omega
    · simp only [false_iff]
      omega
  | none =>
    rw [entryCode, eq_comm (a := (0xFF : Byte))]
    split_ifs with hlow hnone
    · simp only [Option.some_inj, reduceCtorEq, false_iff, hbyte]
      omega
    · simp only [hnone]
    · simp only [hnone]

end

/-- Settles O5: the lists by evaluation, the readers by the lemmas above. -/
theorem codesAreThoseOfTheManual : Obligations.CodesAreThoseOfTheManual := by
  unfold Obligations.CodesAreThoseOfTheManual
  refine ⟨by decide, by decide, by decide, by decide, by decide, by decide, ⟨rfl, rfl, fun _ => rfl, rfl⟩, by decide,
    by decide, by decide, by decide, by decide, by decide, by decide, ⟨rfl, fun _ => rfl, rfl, rfl⟩,
    ⟨rfl, fun _ => rfl, rfl, fun _ => rfl, rfl, fun _ => rfl, rfl, rfl⟩, fun _ _ _ _ => ⟨rfl, rfl, rfl, rfl⟩,
    fun b => ?_⟩
  exact ⟨readSpace_eq_some_iff b, readTarget_eq_some_iff b, readMode_eq_some_iff b, readDirection_eq_some_iff b,
    readSense_eq_some_iff b, readFlag_eq_some_iff b, readFlag_eq_some_iff b, readFlag_eq_some_iff b,
    readEntry_eq_some_iff b⟩

end Sys2Proof.Machine
end

section
/-! PROOFS. The link: O6 (frames and rows), O7 (a good frame byte by byte), O9 (frames not taken), O10 (link events), O11
(part reset), O12 (refused frames) and O15 (notices). -/

namespace Sys2Proof.Machine

set_option Elab.async false

/-! ## Frames and rows (R183, R187, R195) -/

/-- The three bytes of a field as a number. -/
theorem toNat_word24 (b0 b1 b2 : Byte) :
    (word24 b0 b1 b2).toNat = b0.toNat + 256 * b1.toNat + 65536 * b2.toNat := by
  have hlow : (b1 ++ b0).toNat = b0.toNat + 256 * b1.toNat := toNat_word16 b0 b1
  have hless : (b1 ++ b0).toNat < 2 ^ (8 + 8) := (b1 ++ b0).isLt
  rw [word24, BitVec.toNat_append, ← Nat.shiftLeft_add_eq_or_of_lt hless, Nat.shiftLeft_eq, hlow]
  omega

/-- A two-byte field put together from its own bytes. -/
@[simp] theorem word16_bytes (v : Word16) : word16 (byte0 v) (byte1 v) = v := by
  apply BitVec.eq_of_toNat_eq
  simp only [toNat_word16, byte0, byte1, BitVec.extractLsb'_toNat, Nat.shiftRight_eq_div_pow]
  omega

/-- A three-byte field put together from its own bytes. -/
@[simp] theorem word24_bytes (v : Word24) : word24 (byte0 v) (byte1 v) (byte2 v) = v := by
  apply BitVec.eq_of_toNat_eq
  simp only [toNat_word24, byte0, byte1, byte2, BitVec.extractLsb'_toNat, Nat.shiftRight_eq_div_pow]
  omega

/-- A row's frame, read back. -/
theorem spelt {i : Instr} {k t kind tag : Byte} {p payload : List Byte}
    (h : some (k, t, p) = some (kind, tag, payload)) (hk : k.toNat < 128) (hrow : requestOf k t p = i) :
    kind.toNat < 128 ∧ requestOf kind tag payload = i := by
  obtain ⟨rfl, rfl, rfl⟩ : k = kind ∧ t = tag ∧ p = payload := by simpa using h
  exact ⟨hk, hrow⟩

/-- The frame of a row of the table has a kind of the table and spells that row. -/
theorem requestOf_requestFrame {i : Instr} {kind tag : Byte} {payload : List Byte}
    (h : requestFrame i = some (kind, tag, payload)) (hknown : ∀ k t p, i ≠ .unknownRequest k t p) :
    kind.toNat < 128 ∧ requestOf kind tag payload = i := by
  cases i with
  | unknownRequest k t p => exact absurd rfl (hknown k t p)
  | set t n v => exact spelt h (by decide) (congrArg (Instr.set t n) (word16_bytes v))
  | claimWrite t w =>
    refine spelt h (by decide) (congrArg (Instr.claimWrite t) ?_)
    simp only [word24_bytes]
  | dmaAddr t ch page offset stp =>
    exact spelt h (by decide) (congrArg (Instr.dmaAddr t ch page · stp) (word16_bytes offset))
  | dmaCount t ch n => exact spelt h (by decide) (congrArg (Instr.dmaCount t ch) (word24_bytes n))
  | timerStart t n period entry keep =>
    exact spelt h (by decide) (congrArg (Instr.timerStart t n · entry keep) (word16_bytes period))
  | timerStop t n period entry keep =>
    exact spelt h (by decide) (congrArg (Instr.timerStop t n · entry keep) (word16_bytes period))
  | watchConfigure t u w =>
    refine spelt h (by decide) (congrArg (Instr.watchConfigure t u) ?_)
    simp only [word24_bytes, word16_bytes]
  | imgWrite t offset count data =>
    refine spelt h (by decide) ?_
    exact congr_arg₂ (Instr.imgWrite t · · data) (word24_bytes offset) (word16_bytes count)
  | imgRead t offset n =>
    refine spelt h (by decide) ?_
    exact congr_arg₂ (Instr.imgRead t) (word24_bytes offset) (word16_bytes n)
  | imgFill t offset n value =>
    refine spelt h (by decide) ?_
    exact congr_arg₂ (Instr.imgFill t · · value) (word24_bytes offset) (word24_bytes n)
  | _ =>
    simp only [requestFrame, reduceCtorEq] at h
    all_goals exact spelt h (by decide) rfl

/-- Settles O6. -/
theorem framesAndRowsAgree : Obligations.FramesAndRowsAgree :=
  ⟨fun _ _ _ _ h hknown => requestOf_requestFrame h hknown, requestFrame_requestOf⟩

/-! ## A good frame, byte by byte (R183, R184) -/

theorem runAll_append (as bs : List Instr) {s t : State} (h : runAll as s = .next t) :
    runAll (as ++ bs) s = runAll bs t := by
  induction as generalizing s with
  | nil =>
    obtain rfl := Host.Outcome.next.inj h
    rfl
  | cons a as ih =>
    rw [runAll] at h
    rw [List.cons_append, runAll]
    split at h
    · exact ih h
    · exact nomatch h
    · exact nomatch h

/-- A byte run while the part listens. -/
theorem runAll_byteTaken {s : State} (hs : Listening s) (b : Byte) (rest : List Instr) :
    runAll (.byteTaken b :: rest) s = runAll rest (takeByte b s) := by
  rw [runAll, exec_byteTaken_of_listening hs]

/-- The receiver with the header bytes gathered so far. -/
def headed (header : List Byte) : Receiver := { state := .header, sync := false, header := header, payload := [] }

/-- The receiver with the header of a frame and the payload bytes gathered so far. -/
def gathering (kind tag low high : Byte) (payload : List Byte) : Receiver :=
  { state := .payload, sync := false, header := [kind, tag, low, high], payload := payload }

/-- A byte that the receiver gathers while the part listens. -/
theorem runAll_gathered {s : State} (hs : Listening s) {b : Byte} {rx rx' : Receiver}
    (htake : takeByte b (withReceiver rx s) = withReceiver rx' s) (rest : List Instr) :
    runAll (.byteTaken b :: rest) (withReceiver rx s) = runAll rest (withReceiver rx' s) := by
  rw [runAll_byteTaken (s := withReceiver rx s) hs, htake]

/-- A header byte before the fourth. -/
theorem takeByte_headed {b : Byte} {header header' : List Byte} (h : header.length < 3) (h' : header ++ [b] = header')
    (s : State) : takeByte b (withReceiver (headed header) s) = withReceiver (headed header') s :=
  h' ▸ takeByte_header_gathers (s := withReceiver (headed header) s) rfl h

/-- The bytes before the payload, from a receiver in HUNT. -/
theorem runAll_header {s : State} (hs : Listening s) (hstart : AtFrameStart s) (kind tag low high : Byte)
    (hlength : low.toNat + 256 * high.toNat ≤ 1024) :
    runAll ([0xA5, 0x5A, kind, tag, low, high].map .byteTaken) s =
      .next (withReceiver (gathering kind tag low high []) s) := by
  have hrx : s.link.rx = resetReceiver := hstart
  have hfirst : takeByte 0xA5 s = withReceiver { resetReceiver with sync := true } s := by
    rw [takeByte_hunt_noSync (by rw [hrx]; rfl) (by rw [hrx]; rfl), if_pos rfl, hrx]
  have hsecond : takeByte 0x5A (withReceiver { resetReceiver with sync := true } s) = withReceiver (headed []) s :=
    takeByte_hunt_sync (s := withReceiver { resetReceiver with sync := true } s) rfl rfl
  have hfourth : takeByte high (withReceiver (headed [kind, tag, low]) s) =
      withReceiver (gathering kind tag low high []) s :=
    (takeByte_header_ends (s := withReceiver (headed [kind, tag, low]) s) rfl rfl).trans
      (if_neg (Nat.not_lt.mpr hlength))
  simp only [List.map_cons, List.map_nil]
  have hkind : takeByte kind (withReceiver (headed []) s) = withReceiver (headed [kind]) s :=
    takeByte_headed (by decide) rfl s
  have htag : takeByte tag (withReceiver (headed [kind]) s) = withReceiver (headed [kind, tag]) s :=
    takeByte_headed (by simp) rfl s
  have hlow : takeByte low (withReceiver (headed [kind, tag]) s) = withReceiver (headed [kind, tag, low]) s :=
    takeByte_headed (by simp) rfl s
  rw [runAll_byteTaken hs, hfirst, runAll_gathered hs hsecond, runAll_gathered hs hkind, runAll_gathered hs htag,
    runAll_gathered hs hlow, runAll_gathered hs hfourth, runAll]

/-- The payload bytes are gathered in their order. -/
theorem runAll_payload {s : State} (hs : Listening s) (kind tag low high : Byte) (rest before : List Byte)
    (hlength : before.length + rest.length = low.toNat + 256 * high.toNat) :
    runAll (rest.map .byteTaken) (withReceiver (gathering kind tag low high before) s) =
      .next (withReceiver (gathering kind tag low high (before ++ rest)) s) := by
  induction rest generalizing before with
  | nil => rw [List.append_nil, List.map_nil, runAll]
  | cons b rest ih =>
    rw [List.length_cons] at hlength
    have hless : before.length < low.toNat + 256 * high.toNat := by omega
    have hrest : (before ++ [b]).length + rest.length = low.toNat + 256 * high.toNat := by
      rw [List.length_append, List.length_singleton]
      omega
    have htake : takeByte b (withReceiver (gathering kind tag low high before) s) =
        withReceiver (gathering kind tag low high (before ++ [b])) s :=
      takeByte_payload_gathers (s := withReceiver (gathering kind tag low high before) s) rfl rfl hless
    rw [List.map_cons, runAll_gathered hs htake, List.append_cons before b rest, ih (before ++ [b]) hrest]

/-- The length field of a frame holds its length. -/
theorem length_eq_lengthField {payload : List Byte} (h : payload.length ≤ 1024) :
    payload.length = (byte0 (lengthField payload)).toNat + 256 * (byte1 (lengthField payload)).toNat := by
  rw [← toNat_word16, word16_bytes, lengthField, BitVec.toNat_ofNat, Nat.mod_eq_of_lt (by omega)]

/-- The check byte makes the sum of the bytes 0. -/
theorem sum_checkByte (kind tag : Byte) (length : Word16) (payload : List Byte) :
    kind + tag + byte0 length + byte1 length + payload.sum + checkByte kind tag length payload = 0 := by
  simp only [checkByte, frameSum]
  exact BitVec.add_right_neg _

/-- What a row does it does from any receiver: a frame taken whole puts it back in HUNT. -/
theorem exec_withReceiver {i : Instr} {kind tag : Byte} {payload : List Byte} {s : State} (hs : Listening s)
    (hframe : requestFrame i = some (kind, tag, payload)) (hrow : requestOf kind tag payload = i)
    (hkind : kind.toNat < 128) (hlength : payload.length ≤ 1024) (rx : Receiver) :
    exec i (withReceiver rx s) = exec i s := by
  rw [exec_of_listening (s := withReceiver rx s) hs hframe hrow hkind hlength,
    exec_of_listening hs hframe hrow hkind hlength]
  rfl

/-- Settles O7: the header, the payload and the check byte, each by its rows of the receiver's table. -/
theorem bytesOfFrameRunItsRow : Obligations.BytesOfFrameRunItsRow := by
  unfold Obligations.BytesOfFrameRunItsRow
  intro kind tag payload s hs hstart hkind hmax
  have hlength := length_eq_lengthField hmax
  have hpayload := runAll_payload hs kind tag (byte0 (lengthField payload)) (byte1 (lengthField payload)) payload []
    (by simpa using hlength)
  rw [List.nil_append] at hpayload
  rw [frameBytes, List.map_append, List.map_append, List.append_assoc,
    runAll_append _ _ (runAll_header hs hstart kind tag _ _ (hlength ▸ hmax)), runAll_append _ _ hpayload, List.map_cons,
    runAll_byteTaken (s := withReceiver _ s) hs, takeByte_payload_ends rfl rfl hlength, List.map_nil, runAll]
  refine (frameTaken_of_listening (s := withReceiver _ s) hs kind tag _ _ _ hlength hmax).trans ?_
  rw [if_pos ⟨sum_checkByte kind tag (lengthField payload) payload, hkind⟩]
  exact exec_withReceiver hs (requestFrame_requestOf kind tag payload) rfl hkind hmax _

/-! ## Frames that are not taken (R182, R185, R186, R189) -/

/-- The receiver does not hold the pipe while fewer than 16 replies wait. -/
theorem held_eq_false {s : State} (hs : Listening s) : held s = false := by
  obtain ⟨-, hroom⟩ := hs
  exact decide_eq_false (Nat.not_le.mpr hroom)

/-- A row whose frame the receiver does not take: lost, piped, or discarded, whoever would serve it. -/
theorem takeRequest_not_ready {i : Instr} {frame : Byte × Byte × List Byte} (hi : requestFrame i = some frame)
    (serve : State → State) {s : State} (h : s.link.ready = false) : takeRequest i serve s = s := by
  simp only [takeRequest, hi, h, Bool.not_false, if_true]

theorem takeRequest_held {i : Instr} {kind tag : Byte} {payload : List Byte}
    (hi : requestFrame i = some (kind, tag, payload)) (serve : State → State) {s : State} (h : s.link.ready = true)
    (hheld : 16 ≤ repliesIn s.link.tx) :
    takeRequest i serve s = pipeBytes (frameBytes kind tag payload) s := by
  have hheld' : held s = true := decide_eq_true hheld
  simp only [takeRequest, hi, h, hheld', Bool.not_true, Bool.false_eq_true, if_true, if_false]

theorem takeRequest_discarded {i : Instr} {kind tag : Byte} {payload : List Byte}
    (hi : requestFrame i = some (kind, tag, payload)) (serve : State → State) {s : State} (hs : Listening s)
    (hbad : 1024 < payload.length ∨ 128 ≤ kind.toNat) : takeRequest i serve s = afterDiscard s := by
  have hready : s.link.ready = true := hs.1
  simp only [takeRequest, hi, hready, held_eq_false hs, Bool.not_true, Bool.false_eq_true, if_false, if_pos hbad]
  rfl

/-- A discarded frame is one the receiver's test refuses. -/
theorem framePasses_eq_false {kind tag : Byte} {length : Word16} {payload : List Byte} {check : Byte}
    (h : 1024 < length.toNat ∨ kind + tag + byte0 length + byte1 length + payload.sum + check ≠ 0 ∨ 128 ≤ kind.toNat) :
    ¬ framePasses kind tag length payload check = true := by
  simp only [framePasses, frameSum, Bool.and_eq_true, decide_eq_true_eq, beq_iff_eq, not_and_or, not_le, not_lt,
    or_assoc]
  exact h

/-- Settles O9: the rows first, then single bytes, the discard, and the silence. -/
theorem untakenFramesWaitOrAreCounted : Obligations.UntakenFramesWaitOrAreCounted := by
  unfold Obligations.UntakenFramesWaitOrAreCounted
  refine ⟨fun i kind tag payload s hi => ?_, fun b s => ⟨fun h => ?_, fun h hheld => ?_⟩,
    fun kind tag length payload check s hs hbad => ?_, fun s hs hrx => ?_, fun s hs => ?_⟩
  · obtain ⟨j, hexec, -⟩ := exec_eq_takeRequest hi s
    rw [hexec]
    exact ⟨fun h => congrArg _ (takeRequest_not_ready hi _ h), fun h hheld => congrArg _ (takeRequest_held hi _ h hheld),
      fun hs hbad => congrArg _ (takeRequest_discarded hi _ hs hbad)⟩
  · exact congrArg Host.Outcome.next (if_neg (by simp [h]))
  · have hheld' : held s = true := decide_eq_true hheld
    exact congrArg Host.Outcome.next ((if_pos h).trans (if_pos hheld'))
  · have hready : s.link.ready = true := hs.1
    refine congrArg Host.Outcome.next ?_
    rw [hready, held_eq_false hs, frameTaken, if_neg (framePasses_eq_false hbad)]
    rfl
  · have hready : s.link.ready = true := hs.1
    exact congrArg Host.Outcome.next (if_pos ⟨hready, hrx, by rw [held_eq_false hs]; rfl⟩)
  · refine congrArg Host.Outcome.next (if_neg ?_)
    rintro ⟨hready, hrx, hheld⟩
    refine hs.elim (fun hquiet => hquiet ⟨hready, ?_⟩) hrx
    simpa [held] using hheld

/-! ## Link ready, link loss and reads of the IN pipe (R182, R189, R193) -/

/-- The bytes that waited in the OUT pipe reach the receiver one by one, as bytes offered to it (R189). -/
theorem runAll_offered (bs : List Byte) {s : State} (h : s.link.ready = true) :
    runAll (bs.map .byteTaken) s = .next (bs.foldl (fun t b => offerByte b t) s) := by
  induction bs generalizing s with
  | nil => rfl
  | cons b bs ih =>
    have hexec : exec (.byteTaken b) s = .next (offerByte b s) := congrArg Host.Outcome.next (if_pos h)
    rw [List.map_cons, List.foldl_cons, runAll, hexec]
    exact ih ((offerByte_stepKept b s).linkUp h)

/-- Offered bytes wait again while the receiver still holds the pipe. -/
theorem foldl_offerByte_held (bs : List Byte) {s : State} (h : 16 ≤ repliesIn s.link.tx) :
    bs.foldl (fun t b => offerByte b t) s = pipeBytes bs s := by
  induction bs generalizing s with
  | nil => simp [pipeBytes, modLink]
  | cons b bs ih =>
    have hheld : held s = true := decide_eq_true h
    rw [List.foldl_cons, offerByte, if_pos hheld, ih (s := pipeBytes [b] s) h]
    simp [pipeBytes, modLink]

/-- A read of a ready link with a frame to send. -/
theorem exec_inPipeRead {s : State} {f : Frame} {rest : List Frame} (h : s.link.ready = true)
    (htx : s.link.tx = f :: rest) :
    exec .inPipeRead s = .next (s.link.outPipe.foldl (fun t b => offerByte b t)
      { s with link := { s.link with tx := rest, outPipe := [], lastSent := frameBytes f.kind f.tag f.payload } }) := by
  refine congrArg Host.Outcome.next ((if_pos h).trans ?_)
  rw [htx]
  rfl

/-- Settles O10. -/
theorem linkEventsAct : Obligations.LinkEventsAct := by
  unfold Obligations.LinkEventsAct
  refine ⟨fun s => rfl, fun s => ?_, fun s h htx => ?_, fun s h => ?_, fun s f rest h htx hpipe => ?_,
    fun s f rest h htx => ?_⟩
  · refine ⟨_, rfl, ?_, rfl, rfl, rfl, fun n => ?_, fun n => ?_⟩
    · exact (modLink_touches _ s).then (disown_touches _)
    · exact mapAll_get (fun x : Slot => { x with waiting := x.waiting.map Waiting.lost }) s.slots n
    · exact mapAll_get (fun c : Channel => { c with waiting := c.waiting.map Waiting.lost }) s.channels n
  · refine congrArg Host.Outcome.next ((if_pos h).trans ?_)
    rw [htx]
  · exact congrArg Host.Outcome.next (if_neg (by simp [h]))
  · rw [exec_inPipeRead h htx]
    refine congrArg Host.Outcome.next ?_
    obtain hpipe | hheld := hpipe
    · rw [hpipe, List.foldl_nil]
      simp [← hpipe]
    · rw [foldl_offerByte_held (s := { s with link := _ }) _ hheld]
      rfl
  · rw [exec_inPipeRead h htx, runAll_offered _ (by exact h)]

/-! ## Part reset (R194) -/

/-- No byte of image memory but 0 after part reset (R174). -/
theorem readByte_reset (a : Nat) : readByte resetImage.cells a = 0 := by simp [readByte, resetImage, memoryDefault]

/-- Settles O11: the blocks as the model sets them. -/
theorem partResetReturnsEverything : Obligations.PartResetReturnsEverything := by
  unfold Obligations.PartResetReturnsEverything
  intro present straps good s
  refine ⟨_, rfl, fun f hf => ?_, rfl, rfl, rfl, fun n => ?_, ?_, fun n => ?_, rfl, rfl, rfl, rfl, rfl, rfl, rfl, rfl,
    rfl, rfl, rfl, fun n => ?_, fun e => ?_, rfl, rfl, rfl, rfl, readByte_reset, rfl, rfl, rfl, rfl, rfl, rfl⟩
  · cases f
    case pending | bus | slots | cards | planner | choices => exact absurd (by decide) hf
    all_goals rfl
  · simp [quietCard]
  · cases good <;> rfl
  · simp [resetSlot]
  · simp [State.reset, resetChannel, resetTimer]
  · simp [State.reset, resetClaim, resetEntry]

/-! ## Unknown and malformed requests (R187, R188) -/

/-- The fields of a refusal that spells no row: an OPS frame always spells its row. -/
theorem refusalFields_of_unknown {kind tag : Byte} {payload : List Byte} (s : State)
    (h : requestOf kind tag payload = .unknownRequest kind tag payload) :
    refusalFields kind s = if kind = 0x05 then [s.bus.state.code, s.bus.cause.code]
      else if kind = 0x12 then 0 :: bytes2 s.capture.records.length else [] := by
  have hops : kind ≠ 0x08 := by
    rintro rfl
    exact nomatch (show Instr.ops tag payload = _ from h)
  rw [refusalFields, if_neg hops]
  rfl

/-- Settles O12. -/
theorem unknownRequestsAreRefused : Obligations.UnknownRequestsAreRefused := by
  unfold Obligations.UnknownRequestsAreRefused
  intro kind tag payload s hs hkind hlength hrow
  rw [exec_of_listening hs rfl hrow hkind hlength, serve, serveUnknown, reply_heard_of_listening hs,
    refusalFields_of_unknown _ hrow]
  rfl

/-! ## Notices (R189, R190, R193) -/

/-- Settles O15: readiness and enable first, then the room. -/
theorem noticesJoinTheListOrAreLost : Obligations.NoticesJoinTheListOrAreLost := by
  unfold Obligations.NoticesJoinTheListOrAreLost
  intro kind fields s
  unfold notice send noticesIn
  cases hready : s.link.ready with
  | false => simp
  | true =>
    cases henabled : s.settings.notices.testBit kind with
    | false => simp
    | true =>
      simp only [Bool.and_self, if_true, Bool.true_eq_false, or_self, if_false, ← not_lt, ite_not, noticeKind]

end Sys2Proof.Machine
end

section
/-! PROOFS. The DMA requests: O36 (the three loading phases), O37 (START), O39 (CLEAR and PULSE). -/

namespace Sys2Proof.Machine

set_option Elab.async false

/-! ## Requests taken while the part listens -/

/-- A row of the table is served by its owner, the receiver back in HUNT. -/
theorem exec_row {i : Instr} {kind tag : Byte} {payload : List Byte} {s : State} (hs : Listening s)
    (hrow : exec i s = .next (takeRequest i (serve i) s)) (hi : requestFrame i = some (kind, tag, payload))
    (hkind : kind.toNat < 128) (hlength : payload.length ≤ 1024) : exec i s = .next (serve i (heard s)) := by
  rw [hrow, takeRequest_of_listening hs hi hlength hkind]

/-- An index byte of a known number names it. -/
theorem indexBelow_of_toNat {n : Nat} {b : Byte} {i : Fin n} (h : b.toNat = i.val) : indexBelow n b = some i := by
  have hlt : b.toNat < n := h ▸ i.isLt
  rw [indexBelow, dif_pos hlt]
  exact congrArg some (Fin.ext h)

/-- An index byte in its range names something. -/
theorem indexBelow_of_lt {n : Nat} {b : Byte} (h : b.toNat < n) : ∃ i : Fin n, indexBelow n b = some i :=
  ⟨⟨b.toNat, h⟩, dif_pos h⟩

/-! ## The loading phases (R85 to R87) -/

theorem readMode_of_le {b : Byte} (h : 4 ≤ b.toNat) : readMode b = none := by
  by_contra hsome
  obtain ⟨m, hm⟩ := Option.ne_none_iff_exists'.mp hsome
  rw [← (readMode_eq_some_iff b m).mp hm] at h
  cases m <;> exact absurd h (by decide)

theorem readDirection_of_le {b : Byte} (h : 3 ≤ b.toNat) : readDirection b = none := by
  by_contra hsome
  obtain ⟨d, hd⟩ := Option.ne_none_iff_exists'.mp hsome
  rw [← (readDirection_eq_some_iff b d).mp hd] at h
  cases d <;> exact absurd h (by decide)

/-- A byte below a small bound is one of the numbers below it. -/
theorem byte_of_toNat_lt {b : Byte} {k : Nat} (h : b.toNat < k) : ∃ i : Fin k, b = natByte i.val :=
  ⟨⟨b.toNat, h⟩, BitVec.eq_of_toNat_eq (by simp [natByte])⟩

theorem readMode_of_lt {b : Byte} (h : b.toNat < 4) : ∃ m, readMode b = some m := by
  obtain ⟨i, rfl⟩ := byte_of_toNat_lt h
  exact Option.isSome_iff_exists.mp ((by decide : ∀ i : Fin 4, (readMode (natByte i.val)).isSome = true) i)

theorem readDirection_of_lt {b : Byte} (h : b.toNat < 3) : ∃ d, readDirection b = some d := by
  obtain ⟨i, rfl⟩ := byte_of_toNat_lt h
  exact Option.isSome_iff_exists.mp ((by decide : ∀ i : Fin 3, (readDirection (natByte i.val)).isSome = true) i)

/-- DMA_MODE (R85). -/
theorem dmaMode_answers {s : State} (hs : Listening s) (tag channel mode direction owner options : Byte) :
    exec (.dmaMode tag channel mode direction owner options) s =
      .next (serveDmaMode tag channel mode direction owner options (heard s)) :=
  exec_row (i := .dmaMode tag channel mode direction owner options) hs rfl rfl (by decide) (of_decide_eq_true rfl)

section dmaMode

variable {s : State} (hs : Listening s) (tag : Byte) {channel mode direction owner : Byte} (options : Byte)
include hs

theorem dmaMode_badRequest (h : 4 ≤ mode.toNat ∨ 3 ≤ direction.toNat) :
    serveDmaMode tag channel mode direction owner options (heard s) = answered 0x89 tag [2] s := by
  have hrefused := refuse_heard_of_listening hs 0x09 tag .badRequest
  unfold serveDmaMode
  split
  · next m d hm hd =>
    obtain h | h := h
    · exact nomatch (readMode_of_le h).symm.trans hm
    · exact nomatch (readDirection_of_le h).symm.trans hd
  · exact hrefused

theorem dmaMode_range (hmode : mode.toNat < 4) (hdirection : direction.toNat < 3)
    (h : 4 ≤ channel.toNat ∨ 8 ≤ owner.toNat) :
    serveDmaMode tag channel mode direction owner options (heard s) = answered 0x89 tag [3] s := by
  obtain ⟨m, hm⟩ := readMode_of_lt hmode
  obtain ⟨d, hd⟩ := readDirection_of_lt hdirection
  have hrefused := refuse_heard_of_listening hs 0x09 tag .range
  rw [serveDmaMode, hm, hd]
  dsimp only
  split
  · next n slot hn hslot =>
    obtain h | h := h
    · exact nomatch (indexBelow_of_le h).symm.trans hn
    · exact nomatch (indexBelow_of_le h).symm.trans hslot
  · exact hrefused

theorem dmaMode_loads {m : DmaMode} {d : DmaDirection} {n : Fin 4} {slot : Fin 8} (hm : m.code = mode)
    (hd : d.code = direction) (hn : channel.toNat = n.val) (hslot : owner.toNat = slot.val) :
    serveDmaMode tag channel mode direction owner options (heard s) =
      if s.channels[n].state = .running then answered 0x89 tag [5] s
      else answered 0x89 tag [0] { s with channels := upd s.channels n fun c =>
        { c with
          mode := m, direction := d, owner := slot, recordEnd := options.getLsbD 0, autoReload := options.getLsbD 1,
          stray := 0 } } := by
  have hbusy := refuse_heard_of_listening hs 0x09 tag .busy
  rw [serveDmaMode, (readMode_eq_some_iff mode m).mpr hm, (readDirection_eq_some_iff direction d).mpr hd]
  dsimp only
  rw [indexBelow_of_toNat hn, indexBelow_of_toNat hslot]
  dsimp only
  rw [hbusy, reply_of_ready (by exact hs.1)]
  rfl

end dmaMode

theorem readDmaStep_of_le {b : Byte} (h : 2 ≤ b.toNat) : readDmaStep b = none := by
  have h0 : b ≠ 0 := by rintro rfl; exact absurd h (by decide)
  have h1 : b ≠ 1 := by rintro rfl; exact absurd h (by decide)
  rw [readDmaStep, if_neg h0, if_neg h1]

/-- The step byte 1 counts down. -/
theorem readDmaStep_of_lt {b : Byte} (h : b.toNat < 2) : readDmaStep b = some (decide (b = 1)) := by
  obtain ⟨i, rfl⟩ := byte_of_toNat_lt h
  revert i
  decide

theorem dmaAddr_answers {s : State} (hs : Listening s) (tag channel page stp : Byte) (offset : Word16) :
    exec (.dmaAddr tag channel page offset stp) s = .next (serveDmaAddr tag channel page offset stp (heard s)) :=
  exec_row (i := .dmaAddr tag channel page offset stp) hs rfl rfl (by decide) (of_decide_eq_true rfl)

section dmaAddr

variable {s : State} (hs : Listening s) (tag : Byte) {channel page stp : Byte} (offset : Word16)
include hs

theorem dmaAddr_badRequest (h : 2 ≤ stp.toNat) :
    serveDmaAddr tag channel page offset stp (heard s) = answered 0x8A tag [2] s := by
  rw [serveDmaAddr, readDmaStep_of_le h]
  exact refuse_heard_of_listening hs 0x0A tag .badRequest

theorem dmaAddr_range (hstep : stp.toNat < 2) (h : 4 ≤ channel.toNat ∨ 16 ≤ page.toNat) :
    serveDmaAddr tag channel page offset stp (heard s) = answered 0x8A tag [3] s := by
  have hrefused := refuse_heard_of_listening hs 0x0A tag .range
  rw [serveDmaAddr, readDmaStep_of_lt hstep]
  dsimp only
  split
  · next n p hn hp =>
    obtain h | h := h
    · exact nomatch (indexBelow_of_le h).symm.trans hn
    · exact nomatch (indexBelow_of_le h).symm.trans hp
  · exact hrefused

theorem dmaAddr_loads {n : Fin 4} {p : Fin 16} {kept : Word16} (hstep : stp.toNat < 2) (hn : channel.toNat = n.val)
    (hp : page.toNat = p.val) (hkept : kept = if 2 ≤ n.val then offset &&& 0xFFFE else offset) :
    serveDmaAddr tag channel page offset stp (heard s) =
      if s.channels[n].state = .running then answered 0x8A tag [5] s
      else answered 0x8A tag [if kept = offset then 0 else 1] { s with channels := upd s.channels n fun c =>
        { c with
          page := p, basePage := p, offset := kept, baseOffset := kept, down := decide (stp = 1),
          addressLoaded := true, finished := false, state := if c.countLoaded then .loaded else .idle } } := by
  have hoffset : phaseOffset n offset = kept := by
    rw [hkept, phaseOffset, wideChannel]
    simp only [decide_eq_true_eq]
  have hbusy := refuse_heard_of_listening hs 0x0A tag .busy
  have hcode : (if kept = offset then Status.ok else .adjusted).code = if kept = offset then 0 else 1 := by
    split <;> rfl
  rw [serveDmaAddr, readDmaStep_of_lt hstep]
  dsimp only
  rw [indexBelow_of_toNat hn, indexBelow_of_toNat hp]
  dsimp only
  rw [hbusy, hoffset, reply_of_ready (by exact hs.1), hcode]
  rfl

end dmaAddr

theorem dmaCount_answers {s : State} (hs : Listening s) (tag channel : Byte) (count : Word24) :
    exec (.dmaCount tag channel count) s = .next (serveDmaCount tag channel count (heard s)) :=
  exec_row (i := .dmaCount tag channel count) hs rfl rfl (by decide) (of_decide_eq_true rfl)

/-- The count word as R87 writes it. -/
theorem countWord_eq (n : Nat) : countWord n = BitVec.ofNat 16 ((65536 - n) % 65536) := by
  apply BitVec.eq_of_toNat_eq
  simp only [countWord, BitVec.toNat_ofNat]
  omega

theorem dmaCount_range {s : State} (hs : Listening s) (tag : Byte) {channel : Byte} {count : Word24}
    (h : 4 ≤ channel.toNat ∨ count.toNat = 0 ∨ 65536 < count.toNat) :
    serveDmaCount tag channel count (heard s) = answered 0x8B tag [3] s := by
  have hrefused := refuse_heard_of_listening hs 0x0B tag .range
  unfold serveDmaCount
  split
  · next n hn =>
    obtain h | h := h
    · exact nomatch (indexBelow_of_le h).symm.trans hn
    · rw [if_pos h]
      exact hrefused
  · exact hrefused

theorem dmaCount_loads {s : State} (hs : Listening s) (tag : Byte) {channel : Byte} {count : Word24} {n : Fin 4}
    (hn : channel.toNat = n.val) (hlow : 1 ≤ count.toNat) (hhigh : count.toNat ≤ 65536) :
    serveDmaCount tag channel count (heard s) =
      if s.channels[n].state = .running then answered 0x8B tag [5] s
      else answered 0x8B tag [0] { s with channels := upd s.channels n fun c =>
        { c with
          count := BitVec.ofNat 16 ((65536 - count.toNat) % 65536)
          baseCount := BitVec.ofNat 16 ((65536 - count.toNat) % 65536)
          countLoaded := true, finished := false, state := if c.addressLoaded then .loaded else .idle } } := by
  have hbusy := refuse_heard_of_listening hs 0x0B tag .busy
  rw [serveDmaCount, indexBelow_of_toNat hn]
  dsimp only
  rw [if_neg (by omega), hbusy, countWord_eq, reply_of_ready (by exact hs.1)]
  rfl

/-- Settles O36: each phase's checks in their order, then the load. -/
theorem dmaModeAndPhasesLoad : Obligations.DmaModeAndPhasesLoad := by
  unfold Obligations.DmaModeAndPhasesLoad
  refine ⟨fun tag channel mode direction owner options s hs => ?_, fun tag channel page stp offset s hs => ?_,
    fun tag channel count s hs => ?_⟩
  · rw [dmaMode_answers hs]
    exact ⟨fun h => congrArg _ (dmaMode_badRequest hs tag options h),
      fun hm hd h => congrArg _ (dmaMode_range hs tag options hm hd h),
      fun m d n slot hm hd hn hslot => congrArg _ (dmaMode_loads hs tag options hm hd hn hslot)⟩
  · rw [dmaAddr_answers hs]
    exact ⟨fun h => congrArg _ (dmaAddr_badRequest hs tag offset h),
      fun hstep h => congrArg _ (dmaAddr_range hs tag offset hstep h),
      fun n p kept hstep hn hp hkept => congrArg _ (dmaAddr_loads hs tag offset hstep hn hp hkept)⟩
  · rw [dmaCount_answers hs]
    exact ⟨fun h => congrArg _ (dmaCount_range hs tag h),
      fun n hn hlow hhigh => congrArg _ (dmaCount_loads hs tag hn hlow hhigh)⟩

/-! ## START (R88) -/

/-- A reply with a channel's state, from a ready link (R88). -/
theorem replyChannel_of_ready {s : State} (h : s.link.ready = true) (tag : Byte) (status : Status) (n : Fin 4) :
    replyChannel tag status n s = withReply 0x8C tag [status.code, s.channels[n].state.code] s :=
  reply_of_ready h 0x0C tag status _

theorem dmaStart_answers {s : State} (hs : Listening s) (tag channel : Byte) :
    exec (.dmaStart tag channel) s = .next (serveDmaStart tag channel (heard s)) :=
  exec_row (i := .dmaStart tag channel) hs rfl rfl (by decide) (of_decide_eq_true rfl)

theorem live_iff (b : BusState) : b.live = true ↔ b = .run ∨ b = .hold ∨ b = .stop := by cases b <;> decide

theorem not_live_iff (b : BusState) : b.live = false ↔ b = .off ∨ b = .resetting ∨ b = .down := by
  cases b <;> decide

theorem mayStart_iff (s : State) (n : Fin 4) :
    mayStart s n = true ↔ s.bus.state.live = true ∧
      (s.channels[n].state = .loaded ∨ (s.channels[n].state = .done ∧ s.channels[n].autoReload = true)) ∧
      s.slots[s.channels[n].owner].state = .attached := by
  simp only [mayStart, attached, Bool.and_eq_true, Bool.or_eq_true, beq_iff_eq, and_assoc]

/-- The context of a START (R88), with an owner slot that is ATTACHED. -/
theorem startChannel_eq {n : Fin 4} {s : State} (h : s.slots[s.channels[n].owner].state = .attached) :
    startChannel n s = { s with channels := upd s.channels n fun c =>
      { c with
        page := if c.state = .done then c.basePage else c.page
        offset := if c.state = .done then c.baseOffset else c.offset
        count := if c.state = .done then c.baseCount else c.count
        addressLoaded := c.addressLoaded || decide (c.state = .done)
        countLoaded := c.countLoaded || decide (c.state = .done)
        state := .running, finished := false, cause := .none, runFlags := noFlags, pulse := false
        blockRun := decide (c.mode = .block) && s.cards[c.owner].requests[n] } } := by
  have hrequested : requested s n s.channels[n].owner = s.cards[s.channels[n].owner].requests[n] := by
    rw [requested, attached, h]
    rfl
  refine congrArg (fun v => { s with channels := v }) (upd_congr ?_)
  rw [hrequested]
  generalize s.cards[s.channels[n].owner].requests[n] = level
  generalize s.channels[n] = c
  by_cases hdone : c.state = .done
  · simp [hdone, Channel.reloaded, Bool.beq_eq_decide_eq]
  · simp [hdone, Bool.beq_eq_decide_eq]

/-- Settles O37. -/
theorem dmaStartRuns : Obligations.DmaStartRuns := by
  unfold Obligations.DmaStartRuns
  refine ⟨fun tag channel s hs h => ?_, fun tag n s c hs hc => ?_⟩
  · rw [dmaStart_answers hs, serveDmaStart, indexBelow_of_le h]
    exact congrArg _ (refuse_heard_of_listening hs 0x0C tag .range)
  · subst hc
    rw [dmaStart_answers hs, serveDmaStart, indexBelow_natByte (by decide) n]
    dsimp only
    refine ⟨fun hrefused => ?_, fun hlive hstate howner => ?_⟩
    · rw [if_neg]
      · exact congrArg _ (refuse_heard_of_listening hs 0x0C tag .badState)
      · rw [mayStart_iff, live_iff]
        rintro ⟨hlive, hstate, howner⟩
        have hlive : s.bus.state = .run ∨ s.bus.state = .hold ∨ s.bus.state = .stop := hlive
        have howner : s.slots[s.channels[n].owner].state = .attached := howner
        have hstate : s.channels[n].state = .loaded ∨
          (s.channels[n].state = .done ∧ s.channels[n].autoReload = true) := hstate
        rcases hrefused with h | h | h | ⟨hloaded, hdone⟩ | h
        · rw [h] at hlive
          exact absurd hlive (by decide)
        · rw [h] at hlive
          exact absurd hlive (by decide)
        · rw [h] at hlive
          exact absurd hlive (by decide)
        · obtain hstate | ⟨hstate, hauto⟩ := hstate
          · exact hloaded hstate
          · exact hdone.elim (· hstate) fun h => absurd (h.symm.trans hauto) Bool.false_ne_true
        · exact h howner
    · have hmay : mayStart (heard s) n = true := (mayStart_iff (heard s) n).mpr ⟨(live_iff _).mpr hlive, hstate, howner⟩
      rw [if_pos hmay, startChannel_eq (s := heard s) howner, replyChannel_of_ready (by exact hs.1)]
      dsimp only
      rw [upd_self]
      rfl

/-! ## CLEAR and PULSE (R89, R90) -/

theorem dmaClear_answers {s : State} (hs : Listening s) (tag channel : Byte) :
    exec (.dmaClear tag channel) s = .next (serveDmaClear tag channel (heard s)) :=
  exec_row (i := .dmaClear tag channel) hs rfl rfl (by decide) (of_decide_eq_true rfl)

theorem dmaPulse_answers {s : State} (hs : Listening s) (tag channel : Byte) :
    exec (.dmaPulse tag channel) s = .next (serveDmaPulse tag channel (heard s)) :=
  exec_row (i := .dmaPulse tag channel) hs rfl rfl (by decide) (of_decide_eq_true rfl)

/-- CLEAR's effect as one state: the queue's part is told from the state before. -/
theorem clearChannel_whole (n : Fin 4) (s : State) :
    clearChannel n s = { (if s.channels[n].state = .running then tellQueue n s else s) with
      arb := letGo n s, channels := upd s.channels n cleared } := by
  have htold : tellQueue n { s with arb := letGo n s, channels := upd s.channels n cleared } =
      { tellQueue n s with arb := letGo n s, channels := upd s.channels n cleared } :=
    (aside_arb_channels (letGo n s) (upd s.channels n cleared)).tellQueue s n
  rw [clearChannel_eq]
  split
  · exact htold
  · rfl

/-- The CLEARs that waited, whatever the channel's state (R89). -/
theorem finishClears_eq {n : Fin 4} {s : State} (h : s.channels[n].waiting ≠ []) :
    finishClears n s = sendAll (answers 0x8C [0, 0] s.channels[n].waiting) { clearChannel n s with
      channels := upd s.channels n fun c => { cleared c with waiting := [] } } := by
  by_cases hrun : s.channels[n].state = .running
  · rw [finishClears_of_running h hrun, clearChannel_eq, if_pos hrun]
  · rw [finishClears_of_stopped h hrun, clearChannel_eq, if_neg hrun]

/-- A channel just cleared is IDLE. -/
theorem clearChannel_state (n : Fin 4) (s : State) : (clearChannel n s).channels[n].state = .idle := by
  rw [clearChannel_whole]
  dsimp only
  rw [upd_self]
  rfl

theorem clearChannel_ready (n : Fin 4) (s : State) : (clearChannel n s).link.ready = s.link.ready := by
  rw [clearChannel_whole]
  dsimp only
  split
  · exact tellQueue_ready n s
  · rfl

/-- Settles O39. -/
theorem dmaClearAndPulseAct : Obligations.DmaClearAndPulseAct := by
  unfold Obligations.DmaClearAndPulseAct
  refine ⟨fun tag channel s hs h => ?_, fun tag n s hs => ?_, fun tag n s hs hbusy => ?_, fun tag n s hs haccess hcycle => ?_,
    fun n s => ⟨clearChannel_touches n s, clearChannel_whole n s⟩,
    fun n s => ⟨finishClears_of_none, fun h => finishClears_eq h⟩⟩
  · rw [dmaClear_answers hs, dmaPulse_answers hs, serveDmaClear, serveDmaPulse, indexBelow_of_le h]
    have hrefused := refuse_heard_of_listening hs 0x0C tag .range
    exact ⟨congrArg _ hrefused, congrArg _ hrefused⟩
  · rw [dmaPulse_answers hs, serveDmaPulse, indexBelow_natByte (by decide) n]
    dsimp only
    refine ⟨fun h => ?_, fun hrun hmode => ?_⟩
    · exact congrArg _ ((if_pos h).trans (refuse_heard_of_listening hs 0x0C tag .badState))
    · have hbusy := refuse_heard_of_listening hs 0x0C tag .busy
      have hchecked : ¬ (s.channels[n].state ≠ .running ∨ s.channels[n].mode = .cascade) := fun h =>
        h.elim (· hrun) hmode
      have hcode : (modChannel n (fun c => { c with pulse := true }) (heard s)).channels[n].state.code = 2 := by
        rw [modChannel]
        dsimp only
        rw [upd_self]
        exact congrArg DmaState.code hrun
      refine congrArg _ ((if_neg hchecked).trans ?_)
      rw [hbusy, replyChannel_of_ready (by exact hs.1), hcode]
      rfl
  · rw [dmaClear_answers hs, serveDmaClear, indexBelow_natByte (by decide) n]
    exact congrArg _ (if_pos ((transferring_iff (heard s) n).mpr hbusy))
  · have hidle : ¬ transferring (heard s) n = true := by
      rw [transferring_iff]
      rintro (h | ⟨c, hc, hinitiator⟩)
      · exact h haccess
      · exact hcycle c hc hinitiator
    rw [dmaClear_answers hs, serveDmaClear, indexBelow_natByte (by decide) n]
    dsimp only
    rw [if_neg hidle, replyChannel_of_ready ((clearChannel_ready n (heard s)).trans hs.1), clearChannel_state]
    rfl

end Sys2Proof.Machine
end

section
/-! PROOFS. O16: the moves among RUN, HOLD and STOP. First what a move leaves of the arbiter and of the engine; then the
BUS requests. -/

namespace Sys2Proof.Machine

set_option Elab.async false

/-! ## The arbiter as the bus leaves RUN (R56, R60) -/

/-- A hold that runs ends at the next boundary; a cascade grant, begun or not, is withdrawn. -/
def arbLeft (s : State) : Arbiter :=
  { s.arb with
    holdEnding := s.arb.holdEnding || (heldBy s.arb).isSome
    grant := none
    hold := if s.arb.grant.isSome then .none else s.arb.hold
    owner := if s.arb.grant.isSome ∧ s.planner.master = none then .none else s.arb.owner }

theorem markHoldEnding_eq (s : State) : markHoldEnding s =
    { s with arb := { s.arb with holdEnding := s.arb.holdEnding || (heldBy s.arb).isSome } } := by
  unfold markHoldEnding modArb
  split
  · next h => rw [h, Bool.or_true]
  · next h => rw [Bool.eq_false_of_not_eq_true h, Bool.or_false]

theorem withdrawCascade_eq (s : State) : withdrawCascade s = { s with arb := { s.arb with
    grant := none
    hold := if s.arb.grant.isSome then .none else s.arb.hold
    owner := if s.arb.grant.isSome ∧ s.planner.master = none then .none else s.arb.owner } } := by
  unfold withdrawCascade modArb
  cases hgrant : s.arb.grant with
  | none =>
    have hgrant' : s.arb = { s.arb with grant := none } := by rw [← hgrant]
    simp only [Option.isSome_none, Bool.false_eq_true, if_false, false_and]
    rw [← hgrant']
  | some n => cases hmaster : s.planner.master <;> simp

theorem leaveRun_eq (s : State) : leaveRun s = { s with arb := arbLeft s } := by
  rw [leaveRun, markHoldEnding_eq, withdrawCascade_eq]
  rfl

/-! ## The engine (R138, R139) -/

/-- A service in progress is marked held as the bus enters HOLD. -/
theorem markHeld_eq (s : State) : markHeld s =
    { s with engine := { s.engine with held := s.engine.held || decide (s.engine.state ≠ .idle) } } := by
  unfold markHeld modEngine
  by_cases h : s.engine.state = .idle
  · have hidle : decide (s.engine.state ≠ .idle) = false := decide_eq_false (not_not_intro h)
    rw [hidle, Bool.or_false, if_pos (beq_iff_eq.mpr h)]
  · simp [h]

/-- The engine of a SUSPENDED service that goes on: a DELAY step loads its time (R137). -/
def engineResumed (s : State) : Engine :=
  { s.engine with
    state := if s.engine.state = .suspended then .serving else s.engine.state
    delayLeft := if s.engine.state = .suspended then
        match currentStep s with
        | some (.delay micros) => micros
        | _ => s.engine.delayLeft
      else s.engine.delayLeft }

theorem resumeService_eq (s : State) : resumeService s = { s with engine := engineResumed s } := by
  unfold resumeService beginStep engineResumed modEngine
  by_cases h : s.engine.state = .suspended
  · have hstep : currentStep { s with engine := { s.engine with state := .serving } } = currentStep s := rfl
    simp only [h, beq_self_eq_true, if_true, hstep]
    generalize currentStep s = current
    cases current with
    | none => rfl
    | some st => cases st <;> rfl
  · rw [if_neg (by simpa using h)]
    simp only [h, if_false]

/-! ## The move (R39) -/

/-- The arbiter after a move. -/
def movedArb (s : State) : Arbiter := if s.bus.state = .run then arbLeft s else s.arb

/-- The engine after a move. -/
def movedEngine (new : BusState) (s : State) : Engine :=
  { s.engine with
    held := s.engine.held || (decide (new = .hold) && decide (s.engine.state ≠ .idle))
    state := if s.bus.state = .stop ∧ s.engine.state = .suspended then .serving else s.engine.state
    delayLeft :=
      if s.bus.state = .stop ∧ s.engine.state = .suspended then
        match currentStep s with
        | some (.delay micros) => micros
        | _ => s.engine.delayLeft
      else s.engine.delayLeft }

section moveLive

variable (new : BusState) (cause : BusCause) (s : State)

theorem changeBus_frame : Touches [.bus, .link] s (changeBus new cause s) :=
  (touches_bus (l := [.bus, .link]) s _).trans ((notice_touches _ _ _).mono)

theorem changeBus_bus : (changeBus new cause s).bus = busChanged new cause s.bus := notice_bus _ _ _

theorem changeBus_link :
    (changeBus new cause s).link = (notice 4 [s.bus.state.code, new.code, cause.code] s).link :=
  notice_link_congr _ _ rfl rfl rfl

/-- What a state the bus has just left RUN in, or another, brings to arbiter and engine. -/
theorem moved_eq (t : State) (wasRun isHold wasStop : Prop) [Decidable wasRun] [Decidable isHold] [Decidable wasStop] :
    (let s2 := if wasRun then leaveRun t else t
      let s3 := if isHold then markHeld s2 else s2
      if wasStop then resumeService s3 else s3) =
    { t with
      arb := if wasRun then arbLeft t else t.arb
      engine := { t.engine with
        held := t.engine.held || (decide isHold && decide (t.engine.state ≠ .idle))
        state := if wasStop ∧ t.engine.state = .suspended then .serving else t.engine.state
        delayLeft := if wasStop ∧ t.engine.state = .suspended then
            match currentStep t with
            | some (.delay micros) => micros
            | _ => t.engine.delayLeft
          else t.engine.delayLeft } } := by
  have hleft : (if wasRun then leaveRun t else t) = { t with arb := if wasRun then arbLeft t else t.arb } := by
    rw [leaveRun_eq]
    split <;> rfl
  have hheld (u : State) : (if isHold then markHeld u else u) = { u with engine := { u.engine with
      held := u.engine.held || (decide isHold && decide (u.engine.state ≠ .idle)) } } := by
    rw [markHeld_eq]
    by_cases h : isHold <;> simp [h]
  have hresumed (u : State) : (if wasStop then resumeService u else u) = { u with engine := { u.engine with
      state := if wasStop ∧ u.engine.state = .suspended then .serving else u.engine.state
      delayLeft := if wasStop ∧ u.engine.state = .suspended then
          match currentStep u with
          | some (.delay micros) => micros
          | _ => u.engine.delayLeft
        else u.engine.delayLeft } } := by
    rw [resumeService_eq, engineResumed]
    by_cases h : wasStop <;> simp [h]
  dsimp only
  rw [hresumed, hheld, hleft]
  rfl

/-- The whole of a move: the BUS_STATE notice, then arbiter and engine from the state before. -/
theorem moveLive_eq : moveLive new cause s =
    { changeBus new cause s with arb := movedArb s, engine := movedEngine new s } := by
  have harb : (changeBus new cause s).arb = s.arb := changeBus_frame new cause s .arb (by decide)
  have hplanner : (changeBus new cause s).planner = s.planner := changeBus_frame new cause s .planner (by decide)
  have hengine : (changeBus new cause s).engine = s.engine := changeBus_frame new cause s .engine (by decide)
  have hentries : (changeBus new cause s).entries = s.entries := changeBus_frame new cause s .entries (by decide)
  have hstep : currentStep (changeBus new cause s) = currentStep s := by
    simp only [currentStep, stepsOf, hengine, hentries]
  refine (moved_eq (changeBus new cause s) (s.bus.state = .run) (new = .hold) (s.bus.state = .stop)).trans ?_
  simp only [arbLeft, harb, hplanner, hengine, hstep, movedArb, movedEngine]

theorem moveLive_bus : (moveLive new cause s).bus = busChanged new cause s.bus := by
  rw [moveLive_eq]
  exact changeBus_bus new cause s

theorem moveLive_link :
    (moveLive new cause s).link = (notice 4 [s.bus.state.code, new.code, cause.code] s).link := by
  rw [moveLive_eq]
  exact changeBus_link new cause s

theorem moveLive_arb : (moveLive new cause s).arb = movedArb s := by rw [moveLive_eq]

theorem moveLive_engine : (moveLive new cause s).engine = movedEngine new s := by rw [moveLive_eq]

end moveLive

/-! ## BUS RUN, HOLD and STOP (R39) -/

theorem replyBus_of_ready {s : State} (h : s.link.ready = true) (tag : Byte) (status : Status) :
    replyBus tag status s = withReply 0x85 tag [status.code, s.bus.state.code, s.bus.cause.code] s :=
  reply_of_ready h 0x05 tag status _

/-- The three requests by the state each asks for. -/
theorem busMove_answers {i : Instr} {tag : Byte} {new : BusState} {s : State} (hs : Listening s)
    (hi : (i = .busRun tag ∧ new = .run) ∨ (i = .busHold tag ∧ new = .hold) ∨ (i = .busStop tag ∧ new = .stop)) :
    exec i s = .next (busMove new tag (heard s)) := by
  obtain ⟨rfl, rfl⟩ | ⟨rfl, rfl⟩ | ⟨rfl, rfl⟩ := hi
  · exact exec_row (i := .busRun tag) hs rfl rfl (by decide) (of_decide_eq_true rfl)
  · exact exec_row (i := .busHold tag) hs rfl rfl (by decide) (of_decide_eq_true rfl)
  · exact exec_row (i := .busStop tag) hs rfl rfl (by decide) (of_decide_eq_true rfl)

/-- Settles O16. -/
theorem busMovesAmongLiveStates : Obligations.BusMovesAmongLiveStates := by
  unfold Obligations.BusMovesAmongLiveStates
  intro i tag new s hs hi
  have hnew : new.live = true := by
    obtain ⟨-, rfl⟩ | ⟨-, rfl⟩ | ⟨-, rfl⟩ := hi <;> rfl
  rw [busMove_answers hs hi]
  refine ⟨fun hdead => ?_, fun hsame => ?_, fun hlive hother => ?_⟩
  · have hdead : ¬ (heard s).bus.state.live = true := by
      rw [Bool.not_eq_true]
      exact (not_live_iff s.bus.state).mpr hdead
    rw [busMove, if_neg hdead]
    exact congrArg _ (replyBus_of_ready (s := heard s) hs.1 tag .badState)
  · have hlive : (heard s).bus.state.live = true := hsame ▸ hnew
    rw [busMove, if_pos hlive, if_pos (c := (heard s).bus.state = new) hsame, ← hsame]
    exact congrArg _ (replyBus_of_ready (s := heard s) hs.1 tag .ok)
  · have hlive : (heard s).bus.state.live = true := (live_iff s.bus.state).mpr hlive
    have hready : (moveLive new .request (heard s)).link.ready = true := by
      rw [moveLive_link, notice_ready]
      exact hs.1
    rw [busMove, if_pos hlive, if_neg (c := (heard s).bus.state = new) hother, replyBus_of_ready hready, moveLive_bus]
    refine ⟨moveLive new .request (heard s), rfl, ?_, moveLive_bus _ _ _, moveLive_link _ _ _, moveLive_arb _ _ _,
      moveLive_engine _ _ _⟩
    exact ((heard_touches s).mono).trans ((moveLive_touches new .request (heard s)).mono)

end Sys2Proof.Machine
end

section
/-! PROOFS. O14: the settings. -/

namespace Sys2Proof.Machine

set_option Elab.async false

/-! ## The store of a setting (R44, R62, R158, R191) -/

/-- The state with a setting stored, before what that brings at once. -/
def stored (n x : Nat) (s : State) : State := { s with settings := s.settings.put n x }

theorem anyCycle_eq_false_iff (s : State) :
    anyCycle s = false ↔ s.planner.cycle = none ∧ s.planner.master = none := by
  rw [anyCycle, cycleRunning, Bool.or_eq_false_iff, Option.isSome_eq_false_iff, Option.isSome_eq_false_iff,
    Option.isNone_iff_eq_none, Option.isNone_iff_eq_none]

/-- A condition read as "no cycle runs". -/
theorem ite_anyCycle {α : Type} (s : State) (x y : α) :
    (if anyCycle s then x else y) = if s.planner.cycle = none ∧ s.planner.master = none then y else x := by
  by_cases h : s.planner.cycle = none ∧ s.planner.master = none
  · rw [if_pos h, if_neg (by rw [(anyCycle_eq_false_iff s).mpr h]; decide)]
  · rw [if_neg h, if_pos]
    exact Bool.eq_true_of_not_eq_false fun hfalse => h ((anyCycle_eq_false_iff s).mp hfalse)

/-- Setting 1 reaches BCLK at once, unless a cycle runs (R44). -/
theorem storeSetting_clock (x : Nat) (s : State) : storeSetting 1 x s =
    if s.planner.cycle = none ∧ s.planner.master = none then { stored 1 x s with bus := { s.bus with clock := x } }
    else stored 1 x s :=
  ite_anyCycle s _ _

/-- Setting 3 is the interval in use at once, unless a cycle runs (R62). -/
theorem storeSetting_refresh (x : Nat) (s : State) : storeSetting 3 x s =
    { stored 3 x s with arb := if s.planner.cycle = none ∧ s.planner.master = none then
        { s.arb with intervalUse := x, intervalSet := false, interval := 0 }
      else { s.arb with intervalSet := true } } := by
  refine (ite_anyCycle s _ _).trans ?_
  by_cases h : s.planner.cycle = none ∧ s.planner.master = none
  · rw [if_pos h, if_pos h]
    rfl
  · rw [if_neg h, if_neg h]
    rfl

/-- The high flag test of a DRAIN, a CLEAR and a SET of setting 8 (R158). -/
theorem testHigh_eq (s : State) : testHigh s =
    if s.settings.almostFull ≤ s.capture.records.length ∧ s.capture.high = false then
      notice 0 (bytes2 s.capture.records.length ++
          bytes2 (s.capture.records.map fun r => r.data.length).sum ++ bytes2 s.settings.almostFull)
        { s with capture := { s.capture with high := true } }
    else { s with capture := { s.capture with
      high := decide (s.settings.almostFull ≤ s.capture.records.length) } } := by
  have htest : testHigh s = if s.settings.almostFull ≤ s.capture.records.length then
      if s.capture.high then s
      else notice 0 (bytes2 s.capture.records.length ++
          bytes2 (s.capture.records.map fun r => r.data.length).sum ++ bytes2 s.settings.almostFull)
        { s with capture := { s.capture with high := true } }
    else { s with capture := { s.capture with high := false } } := rfl
  rw [htest]
  by_cases hlevel : s.settings.almostFull ≤ s.capture.records.length
  · cases hhigh : s.capture.high with
    | false => rw [if_pos hlevel, if_neg Bool.false_ne_true, if_pos ⟨hlevel, rfl⟩]
    | true =>
      have hkept : { s.capture with high := true } = s.capture := by rw [← hhigh]
      rw [if_pos hlevel, if_pos rfl, if_neg (fun h => Bool.noConfusion h.2), decide_eq_true hlevel, hkept]
  · rw [if_neg hlevel, if_neg fun h => hlevel h.1, decide_eq_false hlevel]

/-- Setting 8 is tested against the record count at once (R158). -/
theorem storeSetting_almostFull (x : Nat) (s : State) : storeSetting 8 x s =
    if x ≤ s.capture.records.length ∧ s.capture.high = false then
      notice 0 (bytes2 s.capture.records.length ++
          bytes2 (s.capture.records.map fun r => r.data.length).sum ++ bytes2 x)
        { stored 8 x s with capture := { s.capture with high := true } }
    else { stored 8 x s with capture := { s.capture with high := decide (x ≤ s.capture.records.length) } } :=
  testHigh_eq (stored 8 x s)

/-- Every other setting is stored, no more. -/
theorem storeSetting_other {n : Nat} (h1 : n ≠ 1) (h3 : n ≠ 3) (h8 : n ≠ 8) (x : Nat) (s : State) :
    storeSetting n x s = stored n x s := by
  unfold storeSetting
  split
  · exact absurd rfl h1
  · exact absurd rfl h3
  · exact absurd rfl h8
  · rfl

/-! ## GET and SET (R191) -/

theorem get_answers {s : State} (hs : Listening s) (tag n : Byte) :
    exec (.get tag n) s = .next (serveGet tag n (heard s)) :=
  exec_row (i := .get tag n) hs rfl rfl (by decide) (of_decide_eq_true rfl)

theorem set_answers {s : State} (hs : Listening s) (tag n : Byte) (v : Word16) :
    exec (.set tag n v) s = .next (serveSet tag n v (heard s)) :=
  exec_row (i := .set tag n v) hs rfl rfl (by decide) (of_decide_eq_true rfl)

theorem settingNumber_iff (n : Nat) : settingNumber n = true ↔ 1 ≤ n ∧ n ≤ 11 := by
  rw [settingNumber, Bool.and_eq_true, decide_eq_true_eq, decide_eq_true_eq]

/-- The status of an accepted SET: ADJUSTED where the value was clamped. -/
theorem setStatus_code (n v : Nat) : (setStatus n v).code = if clampSetting n v = v then 0 else 1 := by
  unfold setStatus
  split <;> rfl

/-- The reply of an accepted SET, with the value in force. -/
def setTold (tag n : Byte) (v : Word16) (x : Nat) (t : State) : State :=
  withReply 0x83 tag ((if x = v.toNat then 0 else 1) :: n :: bytes2 x) t

/-- An accepted SET: the store, the reply, and for settings 10 and 11 the selection. -/
theorem serveSet_accepted {s u : State} {tag n : Byte} {v : Word16} {x : Nat} (hlow : 1 ≤ n.toNat) (hhigh : n.toNat ≤ 11)
    (hclock : n = 1 → s.bus.state ≠ .run) (hx : clampSetting n.toNat v.toNat = x)
    (hstored : storeSetting n.toNat x s = u) (hready : u.link.ready = true) :
    serveSet tag n v s =
      if n = 10 ∨ n = 11 then settle (setTold tag n v x u) else setTold tag n v x u := by
  have hnumber : settingNumber n.toNat = true := (settingNumber_iff _).mpr ⟨hlow, hhigh⟩
  have hone : ¬ (n.toNat = 1 ∧ s.bus.state = .run) := fun h =>
    hclock (BitVec.eq_of_toNat_eq h.1) h.2
  have hten : 10 ≤ n.toNat ↔ n = 10 ∨ n = 11 := by
    rw [← BitVec.toNat_inj, ← BitVec.toNat_inj]
    change 10 ≤ n.toNat ↔ n.toNat = 10 ∨ n.toNat = 11
    omega
  rw [serveSet]
  dsimp only
  rw [hnumber, if_neg hone, hx, hstored, reply_of_ready hready, setStatus_code, hx]
  simp only [hten, setTold]
  rfl

/-- Settles O14. -/
theorem settingsAreReadAndStored : Obligations.SettingsAreReadAndStored := by
  unfold Obligations.SettingsAreReadAndStored
  refine ⟨⟨rfl, rfl⟩, fun tag n s hs => ?_, fun tag n v s hs hn => ?_, fun tag v s hs hrun => ?_,
    fun tag n v s x hs hlow hhigh hclock hx => ?_⟩
  · rw [get_answers hs, serveGet, refuse_heard_of_listening hs, reply_heard_of_listening hs]
    simp only [settingNumber_iff]
    split <;> rfl
  · have hnumber : settingNumber n.toNat = false := by
      rw [Bool.eq_false_iff, ne_eq, settingNumber_iff]
      rintro ⟨hlow, hhigh⟩
      obtain rfl | h := hn
      · exact absurd hlow (by decide)
      · omega
    rw [set_answers hs, serveSet, hnumber]
    exact congrArg _ (refuse_heard_of_listening hs 0x03 tag .range)
  · rw [set_answers hs, serveSet]
    exact congrArg _ ((if_neg (by decide)).trans ((if_pos ⟨rfl, hrun⟩).trans
      (refuse_heard_of_listening hs 0x03 tag .badState)))
  · have hx : clampSetting n.toNat v.toNat = x := hx.symm
    rw [set_answers hs]
    refine congrArg Host.Outcome.next ?_
    have accepted {u : State} (hstored : storeSetting n.toNat x (heard s) = u) (hready : u.link.ready = true) :=
      serveSet_accepted (s := heard s) (tag := tag) hlow hhigh hclock hx hstored hready
    dsimp only
    by_cases h1 : n = 1
    · subst h1
      rw [accepted (storeSetting_clock x (heard s)) (by split <;> exact hs.1), if_neg (by decide), if_pos rfl]
      by_cases hcycle : s.planner.cycle = none ∧ s.planner.master = none
      · rw [if_pos (c := (heard s).planner.cycle = none ∧ (heard s).planner.master = none) hcycle, if_pos hcycle]
        rfl
      · rw [if_neg (c := (heard s).planner.cycle = none ∧ (heard s).planner.master = none) hcycle, if_neg hcycle]
        rfl
    · by_cases h3 : n = 3
      · subst h3
        rw [accepted (storeSetting_refresh x (heard s)) hs.1]
        rfl
      · by_cases h8 : n = 8
        · subst h8
          have hready : (storeSetting 8 x (heard s)).link.ready = true := by
            rw [storeSetting_almostFull]
            split
            · rw [notice_ready]
              exact hs.1
            · exact hs.1
          rw [accepted (storeSetting_almostFull x (heard s)) (storeSetting_almostFull x (heard s) ▸ hready)]
          rfl
        · have hother : storeSetting n.toNat x (heard s) = stored n.toNat x (heard s) :=
            storeSetting_other (fun h => h1 (BitVec.eq_of_toNat_eq h)) (fun h => h3 (BitVec.eq_of_toNat_eq h))
              (fun h => h8 (BitVec.eq_of_toNat_eq h)) x _
          rw [accepted hother hs.1, if_neg h1, if_neg h3, if_neg h8]
          rfl

end Sys2Proof.Machine
end

section
/-! PROOFS. O22 and O23: the claim table. First that the overlap check finds no more than shared addresses; then the
checks of a CLAIM write; then resolving and planning. -/

namespace Sys2Proof.Machine

set_option Elab.async false

/-! ## The overlap check is exact (R7) -/

/-- Each number of a reduced range is the remainder of a number of the range. -/
theorem exists_of_mem_reducedRanges {base limit v d : Nat} {r : Nat × Nat} (horder : base ≤ limit)
    (hr : r ∈ reducedRanges base limit d) (hlow : r.1 ≤ v) (hhigh : v ≤ r.2) :
    ∃ u, base ≤ u ∧ u ≤ limit ∧ u % 2 ^ d = v := by
  have hpos : 0 < 2 ^ d := Nat.two_pow_pos d
  unfold reducedRanges at hr
  generalize 2 ^ d = m at hpos hr ⊢
  have hb : base % m < m := Nat.mod_lt base hpos
  have hl : limit % m < m := Nat.mod_lt limit hpos
  obtain ⟨k, rfl⟩ := Nat.exists_eq_add_of_le horder
  -- the number of the range that stands `j` above its base
  have found (j : Nat) (hj : j < m) (hjk : j ≤ k) (hv : (if m ≤ base % m + j then base % m + j - m else base % m + j) = v) :
      ∃ u, base ≤ u ∧ u ≤ base + k ∧ u % m = v :=
    ⟨base + j, Nat.le_add_right _ _, Nat.add_le_add_left hjk base, (add_mod_cases hj).trans hv⟩
  dsimp only at hr
  split at hr
  · next hlong =>
    obtain rfl := List.mem_singleton.mp hr
    dsimp only at hlow hhigh
    by_cases h : base % m ≤ v
    · exact found (v - base % m) (by omega) (by omega) (by split_ifs <;> omega)
    · exact found (v + m - base % m) (by omega) (by omega) (by split_ifs <;> omega)
  · next hshort =>
    have hk := add_mod_cases (b := base) (k := k) (m := m) (by omega)
    split at hr
    · next hrises =>
      obtain rfl := List.mem_singleton.mp hr
      dsimp only at hlow hhigh
      rw [hk] at hrises hhigh
      exact found (v - base % m) (by split_ifs at * <;> omega) (by split_ifs at * <;> omega) (by split_ifs at * <;> omega)
    · next hwraps =>
      rw [hk] at hwraps
      obtain rfl | hr := List.mem_cons.mp hr
      · dsimp only at hlow hhigh
        exact found (v - base % m) (by omega) (by split_ifs at * <;> omega) (by split_ifs at * <;> omega)
      · obtain rfl := List.mem_singleton.mp hr
        dsimp only at hlow hhigh
        rw [hk] at hhigh
        exact found (v + m - base % m) (by split_ifs at * <;> omega) (by split_ifs at * <;> omega)
          (by split_ifs at * <;> omega)

theorem matches_iff (c : Claim) (space : Space) (a : Nat) : c.matches space a = true ↔
    c.enabled = true ∧ c.space = space ∧ c.base ≤ a % 2 ^ c.decode ∧ a % 2 ^ c.decode ≤ c.limit := by
  rw [Claim.matches, Bool.and_eq_true, Bool.and_eq_true, Bool.and_eq_true, beq_iff_eq, decide_eq_true_eq,
    decide_eq_true_eq, and_assoc, and_assoc]

/-- Two enabled entries of one space that fail the check share an address. -/
theorem shareAddress_of_overlapsReduced {x y : Claim} (hx : x.enabled = true) (hy : y.enabled = true)
    (hspace : x.space = y.space) (hxr : x.InRange) (hyr : y.InRange) (h : overlapsReduced x y = true) :
    shareAddress x y := by
  obtain ⟨hxorder, hxlimit, -⟩ := hxr
  obtain ⟨hyorder, hylimit, -⟩ := hyr
  obtain ⟨r, hr, hmeet⟩ := List.any_eq_true.mp h
  simp only [rangesMeet, Bool.and_eq_true, decide_eq_true_eq] at hmeet
  obtain ⟨hxhigh, hxlow⟩ := hmeet
  -- a number both ranges hold
  have hordered : r.1 ≤ r.2 := by
    unfold reducedRanges at hr
    have hpos : 0 < 2 ^ x.decode := Nat.two_pow_pos _
    have hb : y.base % 2 ^ x.decode < 2 ^ x.decode := Nat.mod_lt _ hpos
    generalize 2 ^ x.decode = m at hr hpos hb
    dsimp only at hr
    split_ifs at hr with h1 h2
    · obtain rfl := List.mem_singleton.mp hr
      exact Nat.zero_le _
    · obtain rfl := List.mem_singleton.mp hr
      exact h2
    · obtain rfl | hr := List.mem_cons.mp hr
      · dsimp only
        omega
      · obtain rfl := List.mem_singleton.mp hr
        exact Nat.zero_le _
  obtain ⟨u, hubase, hulimit, hu⟩ := exists_of_mem_reducedRanges (v := max x.base r.1) hyorder hr (le_max_right _ _)
    (max_le hxhigh hordered)
  have hmod : u % 2 ^ y.decode = u := Nat.mod_eq_of_lt (lt_of_le_of_lt hulimit hylimit)
  refine ⟨y.space, u, (matches_iff x _ u).mpr ⟨hx, hspace, ?_, ?_⟩, (matches_iff y _ u).mpr ⟨hy, rfl, ?_, ?_⟩⟩
  · rw [hu]
    exact le_max_left _ _
  · rw [hu]
    exact max_le hxorder hxlow
  · rw [hmod]
    exact hubase
  · rw [hmod]
    exact hulimit

theorem shareAddress_symm {x y : Claim} (h : shareAddress x y) : shareAddress y x := by
  obtain ⟨space, a, hx, hy⟩ := h
  exact ⟨space, a, hy, hx⟩

/-- The overlap check on entries in range: an address that both match. -/
theorem conflicts_iff {claims : Vector Claim 24} {e : Fin 24} {c : Claim} (hc : c.InRange)
    (hclaims : ∀ k : Fin 24, claims[k].InRange) :
    conflicts claims e c = true ↔ ∃ k : Fin 24, k ≠ e ∧ shareAddress c claims[k] := by
  constructor
  · intro h
    simp only [conflicts, Bool.and_eq_true, List.any_eq_true, bne_iff_ne, ne_eq, beq_iff_eq] at h
    obtain ⟨hon, k, -, ⟨⟨hk, hkon⟩, hspace⟩, hover⟩ := h
    refine ⟨k, hk, ?_⟩
    unfold Claim.overlaps at hover
    split at hover
    · exact shareAddress_of_overlapsReduced hon hkon hspace.symm hc (hclaims k) hover
    · exact shareAddress_symm (shareAddress_of_overlapsReduced hkon hon hspace (hclaims k) hc hover)
  · rintro ⟨k, hk, space, a, hmatch, hother⟩
    by_contra hfree
    have hnone := not_matches_of_not_conflicts (Bool.eq_false_of_not_eq_true hfree) hk hmatch
    exact Bool.false_ne_true (hnone.symm.trans hother)

/-! ## The passes of a CLAIM write (R6) -/

section codes

variable {b : Byte}

theorem readSpace_of_le (h : b.toNat ≤ 1) : readSpace b = some (if b = 0 then .mem else .io) := by
  obtain ⟨i, rfl⟩ := byte_of_toNat_lt (Nat.lt_succ_of_le h)
  revert i
  decide

theorem readClaimWidth_of_le (h : b.toNat ≤ 1) : readClaimWidth b = some (decide (b = 1)) := by
  obtain ⟨i, rfl⟩ := byte_of_toNat_lt (Nat.lt_succ_of_le h)
  revert i
  decide

theorem readTarget_of_le (h : b.toNat ≤ 8) :
    readTarget b = some (if h : b.toNat < 8 then .slot ⟨b.toNat, h⟩ else .image) := by
  unfold readTarget
  split
  · rfl
  · next hhigh => exact if_pos (BitVec.eq_of_toNat_eq (show b.toNat = 8 by omega))

theorem readSpace_of_lt (h : 1 < b.toNat) : readSpace b = none := by
  by_contra hsome
  obtain ⟨x, hx⟩ := Option.ne_none_iff_exists'.mp hsome
  rw [← (readSpace_eq_some_iff b x).mp hx] at h
  cases x <;> exact absurd h (by decide)

theorem readTarget_of_lt (h : 8 < b.toNat) : readTarget b = none := by
  by_contra hsome
  obtain ⟨x, hx⟩ := Option.ne_none_iff_exists'.mp hsome
  rw [← (readTarget_eq_some_iff b x).mp hx] at h
  cases x with
  | slot n =>
    rw [ClaimTarget.code, natByte, BitVec.toNat_ofNat] at h
    omega
  | image => exact absurd h (by decide)

theorem readClaimWidth_of_lt (h : 1 < b.toNat) : readClaimWidth b = none := by
  have h0 : b ≠ 0 := by rintro rfl; exact absurd h (by decide)
  have h1 : b ≠ 1 := by rintro rfl; exact absurd h (by decide)
  rw [readClaimWidth, if_neg h0, if_neg h1]

end codes

/-- Pass 1 fails: a code out of its list. -/
theorem checkClaim_badRequest {claims : Vector Claim 24} {w : ClaimFields}
    (h : 1 < w.space.toNat ∨ 8 < w.target.toNat ∨ 1 < w.width.toNat) : checkClaim claims w = .error .badRequest := by
  have hcodes : claimCodes w = none := by
    unfold claimCodes
    split
    · next hspace htarget hwidth =>
      obtain h | h | h := h
      · exact nomatch (readSpace_of_lt h).symm.trans hspace
      · exact nomatch (readTarget_of_lt h).symm.trans htarget
      · exact nomatch (readClaimWidth_of_lt h).symm.trans hwidth
    · rfl
  rw [checkClaim, hcodes]

section checks

variable {w : ClaimFields}

/-- The codes of a write that passes pass 1, as the entry it stores has them. -/
theorem claimCodes_eq (hspace : w.space.toNat ≤ 1) (htarget : w.target.toNat ≤ 8) (hwidth : w.width.toNat ≤ 1) :
    claimCodes w = some ((claimOf w).space, (claimOf w).target, (claimOf w).wide) := by
  rw [claimCodes, readSpace_of_le hspace, readTarget_of_le htarget, readClaimWidth_of_le hwidth]
  rfl

/-- The target of a write is image memory exactly for the code 8. -/
theorem claimOf_target_iff (htarget : w.target.toNat ≤ 8) : (claimOf w).target = .image ↔ w.target = 8 := by
  have hcode : w.target = 8 ↔ w.target.toNat = 8 := ⟨fun h => h ▸ rfl, fun h => BitVec.eq_of_toNat_eq h⟩
  rw [hcode, claimOf]
  dsimp only
  split
  · simp only [reduceCtorEq, false_iff]
    omega
  · simp only [true_iff]
    omega

/-- The space of a write is IO exactly for the code 1. -/
theorem claimOf_space (hspace : w.space.toNat ≤ 1) :
    (w.space = 0 ∧ (claimOf w).space = .mem) ∨ (w.space = 1 ∧ (claimOf w).space = .io) := by
  by_cases h : w.space = 0
  · exact .inl ⟨h, if_pos h⟩
  · have hne : w.space.toNat ≠ 0 := fun h0 => h (BitVec.eq_of_toNat_eq h0)
    exact .inr ⟨BitVec.eq_of_toNat_eq (show w.space.toNat = 1 by omega), if_neg h⟩

/-- The entry an accepted write stores. -/
theorem storedClaim_eq (hspace : w.space.toNat ≤ 1) (htarget : w.target.toNat ≤ 8) :
    storedClaim w (claimOf w).space (claimOf w).target (claimOf w).wide = claimOf w := by
  have hdecode : (if (claimOf w).space = .mem then 20 else w.decode.toNat) = (claimOf w).decode := by
    obtain ⟨h, hs⟩ | ⟨h, hs⟩ := claimOf_space hspace
    · rw [if_pos hs]
      exact (if_pos h).symm
    · rw [if_neg (by rw [hs]; decide)]
      exact (if_neg (by rw [h]; decide)).symm
  have hoffset : (if (claimOf w).target = .image then w.imageOffset.toNat else 0) = (claimOf w).imageOffset := by
    simp only [claimOf_target_iff htarget]
    rfl
  have hreadOnly : ((claimOf w).target == .image && flagByte .claimReadOnly w.readOnly) = (claimOf w).readOnly := by
    have himage : ((claimOf w).target == .image) = decide (w.target = 8) := by
      rw [Bool.eq_iff_iff, beq_iff_eq, decide_eq_true_eq, claimOf_target_iff htarget]
    rw [himage]
    rfl
  rw [storedClaim, hdecode, hoffset, hreadOnly]
  rfl

/-- Pass 2 for the offset into image memory. -/
def windowFits (w : ClaimFields) (space : Space) : ClaimTarget → Bool
  | .image => (space == .mem) && decide (w.imageOffset.toNat + (w.limit.toNat - w.base.toNat) ≤ 0xFFFFF)
  | .slot _ => true

/-- Pass 2 for the addresses. -/
def addressesFit (w : ClaimFields) : Space → Bool
  | .mem => decide (w.base.toNat ≤ 0xFFFFF) && decide (w.limit.toNat ≤ 0xFFFFF)
  | .io => (w.decode == 10 || w.decode == 12 || w.decode == 16) && decide (w.base.toNat < 2 ^ w.decode.toNat) &&
      decide (w.limit.toNat < 2 ^ w.decode.toNat)

theorem claimInRange_eq (w : ClaimFields) (space : Space) (target : ClaimTarget) :
    claimInRange w space target = (decide (w.extra.toNat ≤ 15) && decide (w.base.toNat ≤ w.limit.toNat) &&
      addressesFit w space && windowFits w space target) := by
  cases space <;> cases target <;> rfl

theorem windowFits_iff (hspace : w.space.toNat ≤ 1) (htarget : w.target.toNat ≤ 8) :
    windowFits w (claimOf w).space (claimOf w).target = true ↔
      (w.target = 8 → w.space = 0 ∧ w.imageOffset.toNat + (w.limit.toNat - w.base.toNat) ≤ 0xFFFFF) := by
  have hmem : (claimOf w).space = .mem ↔ w.space = 0 := by
    obtain ⟨h, hs⟩ | ⟨h, hs⟩ := claimOf_space hspace
    · simp only [h, hs]
    · rw [h, hs]
      decide
  have hiff := claimOf_target_iff htarget
  generalize (claimOf w).target = t at hiff ⊢
  cases t with
  | slot n => simp only [windowFits, ← hiff, reduceCtorEq, false_implies]
  | image => simp only [windowFits, ← hiff, Bool.and_eq_true, beq_iff_eq, decide_eq_true_eq, hmem, true_implies]

theorem addressesFit_iff (hspace : w.space.toNat ≤ 1) (horder : w.base.toNat ≤ w.limit.toNat) :
    addressesFit w (claimOf w).space = true ↔ (w.space = 0 → w.limit.toNat ≤ 0xFFFFF) ∧
      (w.space = 1 → (w.decode = 10 ∨ w.decode = 12 ∨ w.decode = 16) ∧ w.limit.toNat < 2 ^ w.decode.toNat) := by
  obtain ⟨h, hs⟩ | ⟨h, hs⟩ := claimOf_space hspace
  · have h1 : (0 : Byte) ≠ 1 := by decide
    simp only [hs, h, addressesFit, Bool.and_eq_true, decide_eq_true_eq, true_implies, h1, false_implies, and_true]
    omega
  · have h0 : (1 : Byte) ≠ 0 := by decide
    simp only [hs, h, addressesFit, Bool.and_eq_true, Bool.or_eq_true, beq_iff_eq, decide_eq_true_eq, true_implies, h0,
      false_implies, true_and, or_assoc]
    constructor
    · rintro ⟨⟨hwidth, -⟩, hlimit⟩
      exact ⟨hwidth, hlimit⟩
    · rintro ⟨hwidth, hlimit⟩
      exact ⟨⟨hwidth, by omega⟩, hlimit⟩

/-- Pass 2, with the entry number: the ranges of R6. -/
theorem claimInRange_iff (hspace : w.space.toNat ≤ 1) (htarget : w.target.toNat ≤ 8) :
    (w.entry.toNat < 24 ∧ claimInRange w (claimOf w).space (claimOf w).target = true) ↔ claimWriteInRange w := by
  rw [claimInRange_eq, claimWriteInRange]
  simp only [Bool.and_eq_true, decide_eq_true_eq, windowFits_iff hspace htarget, and_assoc]
  refine and_congr_right fun _ => and_congr_right fun _ => and_congr_right fun horder => ?_
  rw [addressesFit_iff hspace horder, and_assoc]

/-- The entry a write in range stores is in range (R6). -/
theorem claimOf_inRange (hspace : w.space.toNat ≤ 1) (htarget : w.target.toNat ≤ 8) (h : claimWriteInRange w) :
    (claimOf w).InRange := by
  obtain ⟨-, hrange⟩ := (claimInRange_iff hspace htarget).mpr h
  rw [← storedClaim_eq hspace htarget]
  exact storedClaim_inRange hrange

end checks

/-- An index byte that names nothing is out of range. -/
theorem indexBelow_eq_none_iff {n : Nat} {b : Byte} : indexBelow n b = none ↔ n ≤ b.toNat := by
  unfold indexBelow
  split
  · simp only [reduceCtorEq, false_iff]
    omega
  · simp only [true_iff]
    omega

section passes

variable {claims : Vector Claim 24} {w : ClaimFields} (hspace : w.space.toNat ≤ 1) (htarget : w.target.toNat ≤ 8)
  (hwidth : w.width.toNat ≤ 1)
include hspace htarget hwidth

/-- Pass 2 fails. -/
theorem checkClaim_range (h : ¬ claimWriteInRange w) : checkClaim claims w = .error .range := by
  rw [checkClaim, claimCodes_eq hspace htarget hwidth]
  dsimp only
  split
  · rfl
  · next e he =>
    have hentry : w.entry.toNat < 24 := by
      by_contra hhigh
      exact nomatch (indexBelow_of_le (Nat.le_of_not_lt hhigh)).symm.trans he
    rw [if_neg fun hrange => h ((claimInRange_iff hspace htarget).mp ⟨hentry, hrange⟩)]

/-- Pass 3, on entries in range. -/
theorem checkClaim_inRange {e : Fin 24} (h : claimWriteInRange w) (he : w.entry.toNat = e.val) :
    checkClaim claims w = if conflicts claims e (claimOf w) then .error .conflict else .ok (e, claimOf w) := by
  obtain ⟨-, hrange⟩ := (claimInRange_iff hspace htarget).mpr h
  rw [checkClaim, claimCodes_eq hspace htarget hwidth]
  dsimp only
  rw [indexBelow_of_toNat he]
  dsimp only
  rw [if_pos hrange, storedClaim_eq hspace htarget]

end passes

/-! ## CLAIM read and write (R6 to R8) -/

theorem claimRead_answers {s : State} (hs : Listening s) (tag entry : Byte) :
    exec (.claimRead tag entry) s = .next (serveClaimRead tag entry (heard s)) :=
  exec_row (i := .claimRead tag entry) hs rfl rfl (by decide) (of_decide_eq_true rfl)

theorem claimWrite_answers {s : State} (hs : Listening s) (tag : Byte) (w : ClaimFields) :
    exec (.claimWrite tag w) s = .next (serveClaimWrite tag w (heard s)) :=
  exec_row (i := .claimWrite tag w) hs rfl rfl (of_decide_eq_true rfl) (of_decide_eq_true rfl)

/-- A write the checks refuse. -/
theorem serveClaimWrite_error {s : State} (hs : Listening s) (tag : Byte) {w : ClaimFields} {status : Status}
    (h : checkClaim s.claims w = .error status) :
    serveClaimWrite tag w (heard s) = answered 0x87 tag [status.code] s := by
  have hrefused := refuse_heard_of_listening hs 0x07 tag status
  unfold serveClaimWrite
  rw [show (heard s).claims = s.claims from rfl, h]
  exact hrefused

/-- A write the checks pass. -/
theorem serveClaimWrite_ok {s : State} (hs : Listening s) (tag : Byte) {w : ClaimFields} {e : Fin 24} {c : Claim}
    (h : checkClaim s.claims w = .ok (e, c)) :
    serveClaimWrite tag w (heard s) = answered 0x87 tag [0] { s with claims := upd s.claims e fun _ => c } := by
  unfold serveClaimWrite
  rw [show (heard s).claims = s.claims from rfl, h]
  dsimp only
  rw [reply_of_ready (by exact hs.1)]
  rfl

/-- The bytes of an entry as stored (R8). -/
theorem claim_bytes (c : Claim) : c.bytes =
    [if c.enabled then 1 else 0, if c.space = .mem then 0 else 1, natByte c.decode] ++ bytes3 c.base ++
      bytes3 c.limit ++
      [match c.target with
        | .slot n => natByte n.val
        | .image => 8, if c.wide then 1 else 0, natByte c.extra] ++
      bytes3 c.imageOffset ++ [if c.readOnly then 1 else 0] := by
  have hspace : spaceCode c.space = if c.space = .mem then 0 else 1 := by cases c.space <;> rfl
  have htarget : c.target.code = (match c.target with
      | .slot n => natByte n.val
      | .image => 8) := by cases c.target <;> rfl
  rw [Claim.bytes, hspace, htarget]
  rfl

/-- Settles O22. -/
theorem claimRequestsAct : Obligations.ClaimRequestsAct := by
  unfold Obligations.ClaimRequestsAct
  refine ⟨fun tag e s c hs hc => ?_, fun tag entry s hs h => ?_, fun tag w s hs => ⟨fun hcodes => ?_,
    fun hspace htarget hwidth => ⟨fun hrange => ?_, fun e hrange he hclaims => ⟨fun hshared => ?_, fun hfree => ?_⟩⟩⟩⟩
  · rw [claimRead_answers hs, serveClaimRead, indexBelow_natByte (by decide) e]
    refine congrArg _ ((reply_heard_of_listening hs 0x07 tag .ok (heard s).claims[e].bytes).trans ?_)
    rw [show (heard s).claims = s.claims from rfl, hc, claim_bytes]
    simp only [List.cons_append, List.append_assoc, List.nil_append]
    rfl
  · rw [claimRead_answers hs, serveClaimRead, indexBelow_of_le h]
    exact congrArg _ (refuse_heard_of_listening hs 0x07 tag .range)
  · rw [claimWrite_answers hs, serveClaimWrite_error hs tag (checkClaim_badRequest hcodes)]
    rfl
  · rw [claimWrite_answers hs, serveClaimWrite_error hs tag (checkClaim_range hspace htarget hwidth hrange)]
    rfl
  · have hconflict := (conflicts_iff (claimOf_inRange hspace htarget hrange) hclaims).mpr hshared
    have hcheck := checkClaim_inRange (claims := s.claims) hspace htarget hwidth hrange he
    rw [if_pos hconflict] at hcheck
    rw [claimWrite_answers hs, serveClaimWrite_error hs tag hcheck]
    rfl
  · have hconflict : ¬ conflicts s.claims e (claimOf w) = true := by
      rw [conflicts_iff (claimOf_inRange hspace htarget hrange) hclaims]
      rintro ⟨k, hk, hshared⟩
      exact hfree k hk hshared
    have hcheck := checkClaim_inRange (claims := s.claims) hspace htarget hwidth hrange he
    rw [if_neg hconflict] at hcheck
    rw [claimWrite_answers hs, serveClaimWrite_ok hs tag hcheck]

/-! ## Resolving and planning (R5, R10, R11, R20) -/

/-- An address that one entry alone can match resolves to it. -/
theorem resolve_of_matches {s : State} (hdisjoint : ClaimsDisjoint s) {space : Space} {a : Nat} {e : Fin 24}
    (h : s.claims[e].matches space a = true) : resolve s.claims space a = s.claims[e].resolved e a := by
  obtain ⟨-, hunique⟩ := hdisjoint
  have hall (j : Fin 24) : j ∈ allEntries := by revert j; decide
  unfold resolve
  split
  · next k hk =>
    have hmatch := List.find?_some hk
    rw [hunique k e space a hmatch h]
  · next hnone => exact absurd h (by simpa using List.find?_eq_none.mp hnone e (hall e))

theorem resolve_of_no_match {claims : Vector Claim 24} {space : Space} {a : Nat}
    (h : ∀ e : Fin 24, claims[e].matches space a = false) : resolve claims space a = unclaimedByte := by
  have hnone : (allEntries.find? fun e => claims[e].matches space a) = none :=
    List.find?_eq_none.mpr fun e _ => by rw [h e]; decide
  rw [resolve, hnone]

theorem spaceSize_eq (space : Space) : spaceSize space = if space = .mem then 0x100000 else 0x10000 := by
  cases space <;> rfl

/-- The five conditions of a wide cycle (R11). -/
theorem plansWide_iff (s : State) (i : AccessInput) (low high : Resolved) : plansWide s i low high = true ↔
    i.word = true ∧ i.address % 2 = 0 ∧ (∃ e : Fin 24, low.entry = some e ∧ high.entry = some e) ∧ low.wide = true ∧
      (low.target = .image ∨ ∃ n : Fin 8, low.target = .slot n ∧ s.slots[n].wide = true) := by
  have hentries : (low.entry.isSome = true ∧ low.entry = high.entry) ↔
      ∃ e : Fin 24, low.entry = some e ∧ high.entry = some e := by
    cases low.entry with
    | none => simp
    | some e => simp [eq_comm]
  have htarget : wideTarget s low.target = true ↔
      low.target = .image ∨ ∃ n : Fin 8, low.target = .slot n ∧ s.slots[n].wide = true := by
    cases low.target <;> simp [wideTarget]
  simp only [plansWide, Bool.and_eq_true, decide_eq_true_eq, beq_iff_eq, htarget, ← hentries, and_assoc]

/-- Settles O23. -/
theorem accessesAreResolvedAndPlanned : Obligations.AccessesAreResolvedAndPlanned := by
  unfold Obligations.AccessesAreResolvedAndPlanned
  refine ⟨matches_iff, fun s space a hdisjoint => ⟨fun e he => ?_, fun h => resolve_of_no_match h⟩,
    fun s i terminal pulsed => ⟨rfl, ?_, plansWide_iff s i _ _, rfl, rfl⟩⟩
  · rw [resolve_of_matches hdisjoint he, Claim.resolved]
    generalize s.claims[e] = c
    cases htarget : c.target <;> simp only [ClaimTarget.cycle]
  · rw [← spaceSize_eq]
    rfl

end Sys2Proof.Machine
end

section
/-! PROOFS. The interrupt unit: O43 (line changes) and O42 (the LINE requests). -/

namespace Sys2Proof.Machine

set_option Elab.async false

/-! ## A request taken in `s`, told from `s` -/

/-- A state with the link as it stood before the request. -/
def unheard (s u : State) : State := { u with link := s.link }

/-- A change of other blocks than the link, made after the request was taken, is that change before it. -/
theorem heard_unheard {l : List Field} {s u : State} (h : Touches l (heard s) u) (hl : Field.link ∉ l) :
    heard (unheard s u) = u := by
  have hlink : u.link = (heard s).link := h .link hl
  have hkept : { u with link := (heard s).link } = u := by rw [← hlink]
  exact hkept

theorem touches_unheard {l : List Field} {s u : State} (h : Touches l (heard s) u) : Touches l s (unheard s u) := by
  intro f hf
  have hsame := h f hf
  cases f
  case link => rfl
  all_goals exact hsame

/-! ## An evaluation (R111) -/

theorem modLineSlot_of_eq {l : Fin 12} {n : Fin 8} {f : LineSlot → LineSlot} {s : State}
    (h : f (lineSlotOf s l n) = lineSlotOf s l n) : modLineSlot l n f s = s := by
  have hrow : upd s.lineSlots[l] n f = s.lineSlots[l] := upd_of_eq h
  have hrows : (upd s.lineSlots l fun row => upd row n f) = s.lineSlots := upd_of_eq hrow
  rw [modLineSlot, hrows]

/-- An evaluation, whatever it finds. -/
theorem evaluate_eq (l : Fin 12) (n : Fin 8) (s : State) :
    evaluate l n s = modLineSlot l n (evaluated s l n) s := by
  unfold evaluate
  split
  · next hset =>
    have hvalue : ({ lineSlotOf s l n with pending := true } : LineSlot) = evaluated s l n (lineSlotOf s l n) := by
      rw [evaluated, hset, Bool.or_true]
    have hrow : upd s.lineSlots[l] n (fun x => { x with pending := true }) = upd s.lineSlots[l] n (evaluated s l n) :=
      upd_congr hvalue
    have hrows : (upd s.lineSlots l fun row => upd row n fun x => { x with pending := true }) =
        upd s.lineSlots l fun row => upd row n (evaluated s l n) := upd_congr hrow
    rw [modLineSlot, modLineSlot, hrows]
  · next hstays => exact (modLineSlot_of_eq (by rw [evaluated, Bool.eq_false_of_not_eq_true hstays, Bool.or_false])).symm

/-- What the part sees of a line at a watched slot is the line. -/
theorem watched_and_asserted (s : State) (l : Fin 12) (n : Fin 8) :
    (watched s n && asserted s l n) = (watched s n && s.cards[n].lines[l]) := by
  unfold watched asserted
  cases attached s n <;> simp

/-- A LEVEL line asserted at a watched slot. -/
theorem evaluated_of_asserted {s : State} {l : Fin 12} {n : Fin 8} (hsense : s.lines[l].sense = .level)
    (hwatched : watched s n = true) (hline : s.cards[n].lines[l] = true) (x : LineSlot) :
    evaluated s l n x = { x with pending := x.pending || (!x.inService && !x.stuck) } := by
  have hseen : (watched s n && asserted s l n) = true := by rw [watched_and_asserted, hwatched, hline]; rfl
  rw [evaluated, hsense, Bool.and_assoc _ (watched s n), hseen]
  rfl

/-! ## LINE_ASSERT and LINE_DEASSERT (R109 to R112) -/

section lineAssert

variable {l : Fin 12} {n : Fin 8} {s : State}

theorem driveLine_line (l : Fin 12) (n : Fin 8) (level : Bool) (s : State) :
    (driveLine l n level s).cards[n].lines[l] = level := by
  rw [driveLine]
  dsimp only
  rw [upd_self]
  dsimp only
  rw [upd_self]

/-- A change that the unit does not watch. -/
theorem lineAssert_unwatched (hline : s.cards[n].lines[l] = false) (hwatched : watched s n = false) :
    exec (.lineAssert l n) s = .next (driveLine l n true s) := by
  refine congrArg Host.Outcome.next ((if_neg (by rw [hline]; decide)).trans (if_neg (by rw [hwatched]; decide)))

/-- A change at a watched slot moves the reference level, and is an edge or an evaluation. -/
theorem lineAssert_watched (hline : s.cards[n].lines[l] = false) (hwatched : watched s n = true) :
    exec (.lineAssert l n) s = .next (settle (if s.lines[l].sense = .edge
      then risingEdge l n (setReference l n true (driveLine l n true s))
      else evaluate l n (setReference l n true (driveLine l n true s)))) :=
  congrArg Host.Outcome.next ((if_neg (by rw [hline]; decide)).trans (if_pos hwatched))

variable (s) (l n)

/-- The line-slot as its reference level moves. -/
theorem lineSlotOf_referenced : lineSlotOf (setReference l n true (driveLine l n true s)) l n =
    { s.lineSlots[l][n] with reference := true } := lineSlotOf_mod_self l n _ _

theorem risingEdge_referenced : risingEdge l n (setReference l n true (driveLine l n true s)) =
    if s.lineSlots[l][n].stuck then modLineSlot l n (fun x => { x with reference := true }) (driveLine l n true s)
    else if s.lineSlots[l][n].pending then
      raiseCoalesced (.lineSlot l n) (modLineSlot l n (fun x => { x with reference := true }) (driveLine l n true s))
    else modLineSlot l n (fun x => { x with reference := true, pending := true }) (driveLine l n true s) := by
  rw [risingEdge, lineSlotOf_referenced]
  unfold setReference
  rw [modLineSlot_modLineSlot]

variable {s l n}

theorem evaluate_referenced (hsense : s.lines[l].sense = .level) (hwatched : watched s n = true) :
    evaluate l n (setReference l n true (driveLine l n true s)) = modLineSlot l n (fun x =>
      { x with reference := true, pending := x.pending || (!x.inService && !x.stuck) }) (driveLine l n true s) := by
  have hline : (setReference l n true (driveLine l n true s)).cards[n].lines[l] = true := driveLine_line l n true s
  have hvalue := evaluated_of_asserted (s := setReference l n true (driveLine l n true s)) hsense hwatched hline
  rw [evaluate_eq, funext hvalue]
  unfold setReference
  rw [modLineSlot_modLineSlot]

end lineAssert

/-- Settles O43. -/
theorem lineChangesMakeRequests : Obligations.LineChangesMakeRequests := by
  unfold Obligations.LineChangesMakeRequests
  refine ⟨fun l n s hline => congrArg Host.Outcome.next (if_pos hline), fun l n s driven hline hdriven => ?_,
    fun l n s driven hdriven => ?_, fun src s => rfl⟩
  · have hdriven : driven = driveLine l n true s := hdriven
    subst hdriven
    refine ⟨fun hwatched => lineAssert_unwatched hline hwatched, fun hwatched hsense hstuck hpending => ?_,
      fun hwatched hsense hstuck hpending => ?_, fun hwatched hsense hstuck => ?_, fun hwatched hsense => ?_⟩
    · rw [lineAssert_watched hline hwatched, if_pos hsense, risingEdge_referenced, hstuck, hpending]
      rfl
    · rw [lineAssert_watched hline hwatched, if_pos hsense, risingEdge_referenced, hstuck, hpending]
      rfl
    · rw [lineAssert_watched hline hwatched, if_pos hsense, risingEdge_referenced, hstuck]
      rfl
    · rw [lineAssert_watched hline hwatched, if_neg (by rw [hsense]; decide), evaluate_referenced hsense hwatched]
  · subst hdriven
    rfl

/-! ## The LINE requests (R119 to R123) -/

section lineRows

variable {s : State} (hs : Listening s)
include hs

theorem lineQuery_answers (tag line : Byte) : exec (.lineQuery tag line) s = .next (serveLineQuery tag line (heard s)) :=
  exec_row (i := .lineQuery tag line) hs rfl rfl (by decide) (of_decide_eq_true rfl)

theorem lineConfigure_answers (tag line sense enabled group keep entry : Byte) :
    exec (.lineConfigure tag line sense enabled group keep entry) s =
      .next (serveLineConfigure tag line sense enabled group keep entry (heard s)) :=
  exec_row (i := .lineConfigure tag line sense enabled group keep entry) hs rfl rfl (by decide) (of_decide_eq_true rfl)

theorem clearStuck_answers (tag line bitmap : Byte) :
    exec (.clearStuck tag line bitmap) s = .next (serveClearStuck tag line bitmap (heard s)) :=
  exec_row (i := .clearStuck tag line bitmap) hs rfl rfl (by decide) (of_decide_eq_true rfl)

theorem clearPending_answers (tag line bitmap : Byte) :
    exec (.clearPending tag line bitmap) s = .next (serveClearPending tag line bitmap (heard s)) :=
  exec_row (i := .clearPending tag line bitmap) hs rfl rfl (by decide) (of_decide_eq_true rfl)

/-- An accepted LINE request answers the line's state as it leaves it (R120). -/
theorem replyLine_heard {l : List Field} {u : State} (h : Touches l (heard s) u) (hl : Field.link ∉ l) (tag : Byte)
    (line : Fin 12) :
    replyLine tag line u = answered 0x8E tag (0 :: lineFields (unheard s u) line) (unheard s u) := by
  have hready : u.link.ready = true := (congrArg Link.ready (h .link hl : u.link = (heard s).link)).trans hs.1
  rw [replyLine, reply_of_ready hready, answered, heard_unheard h hl]
  rfl

end lineRows

/-- A line-slot's value after the line's configuration is written (R121). -/
def configured (s : State) (l : Fin 12) (c : LineConfig) (n : Fin 8) : LineSlot :=
  { s.lineSlots[l][n] with
    stillAsserted := 0
    pending := decide (c.sense = .level) && watched s n && s.cards[n].lines[l] && !s.lineSlots[l][n].inService &&
      !s.lineSlots[l][n].stuck }

/-- The states of a line whose sense has changed, before any evaluation. -/
def senseChanged (l : Fin 12) (c : LineConfig) (s : State) : State :=
  { s with
    lines := upd s.lines l fun _ => c
    lineSlots := upd s.lineSlots l fun row => mapAll (fun x => { x with pending := false, stillAsserted := 0 }) row }

theorem lineSlotOf_senseChanged (l : Fin 12) (c : LineConfig) (s : State) (k : Fin 12) (n : Fin 8) :
    lineSlotOf (senseChanged l c s) k n =
      if k = l then { s.lineSlots[l][n] with pending := false, stillAsserted := 0 } else s.lineSlots[k][n] := by
  rw [lineSlotOf, senseChanged]
  dsimp only
  rw [upd_get]
  by_cases h : k = l
  · subst h
    rw [if_pos rfl, if_pos rfl, mapAll_get]
  · rw [if_neg (Ne.symm h), if_neg h]

theorem configureLine_lineSlots (l : Fin 12) (c : LineConfig) (s : State) (k : Fin 12) (n : Fin 8) :
    (configureLine l c s).lineSlots[k][n] =
      if k = l ∧ s.lines[l].sense ≠ c.sense then configured s l c n else s.lineSlots[k][n] := by
  have hwhole : configureLine l c s = if s.lines[l].sense != c.sense then
      (if c.sense == .level then allSlots.foldl (fun t n => evaluate l n t) (senseChanged l c s)
        else senseChanged l c s)
      else { s with lines := upd s.lines l fun _ => c } := rfl
  rw [hwhole]
  by_cases hchanged : s.lines[l].sense = c.sense
  · rw [if_neg (by simpa using hchanged), if_neg fun h => h.2 hchanged]
  · rw [if_pos (by simpa using hchanged)]
    simp only [ne_eq, hchanged, not_false_eq_true, and_true]
    have hlines : (senseChanged l c s).lines[l] = c := upd_self s.lines l fun _ => c
    have hseen : (watched (senseChanged l c s) n && asserted (senseChanged l c s) l n) =
        (watched s n && s.cards[n].lines[l]) := watched_and_asserted s l n
    show lineSlotOf _ k n = _
    cases hsense : c.sense with
    | edge =>
      rw [if_neg (by decide), lineSlotOf_senseChanged]
      simp only [configured, hsense, reduceCtorEq, decide_false, Bool.false_and]
    | level =>
      rw [if_pos (by decide), lineSlotOf_foldl_slots (l := l) (fun _ _ => evaluate_touches _ _ _)
        (fun s n l' k => lineSlotOf_evaluate l l' n k s) (fun _ _ n h => evaluated_congr h l n),
        lineSlotOf_senseChanged]
      by_cases hk : k = l
      · subst hk
        simp only [if_true, evaluated, hlines, hsense, configured, Bool.and_assoc, Bool.false_or, beq_self_eq_true,
          Bool.true_and, decide_true]
        rw [← Bool.and_assoc (watched (senseChanged k c s) n), hseen, Bool.and_assoc]
      · rw [if_neg hk, if_neg hk, if_neg hk]

theorem configureLine_lines (l : Fin 12) (c : LineConfig) (s : State) :
    (configureLine l c s).lines = upd s.lines l fun _ => c := by
  unfold configureLine
  dsimp only
  split
  · split
    · exact touches_foldl (fun t n => evaluate l n t) (fun t n => evaluate_touches l n t) allSlots _ .lines (by decide)
    · rfl
  · rfl

/-- The line-slots of a line that a bitmap names, changed in turn. -/
theorem lineSlotOf_forBitmap {l : Fin 12} {f : Fin 8 → State → State} {val : State → Fin 8 → LineSlot → LineSlot}
    (bitmap : Byte) (htouch : ∀ s n, Touches [.lineSlots] s (f n s))
    (hval : ∀ s n l' k, lineSlotOf (f n s) l' k = if l = l' ∧ n = k then val s n (lineSlotOf s l' k) else lineSlotOf s l' k)
    (hcongr : ∀ s t n, Touches [.lineSlots] s t → val t n = val s n) (s : State) (k : Fin 12) (n : Fin 8) :
    lineSlotOf (forBitmap bitmap f s) k n =
      if k = l ∧ bitmap.getLsbD n.val = true then val s n (lineSlotOf s k n) else lineSlotOf s k n := by
  unfold forBitmap
  rw [lineSlotOf_foldl_slots (l := l) (val := fun s n x => if bitmap.getLsbD n.val then val s n x else x)
    (fun s n => .ite (htouch s n) (.refl _ _)) (fun s n l' k => ?_) (fun s t n h => ?_)]
  · by_cases hk : k = l <;> simp [hk]
  · by_cases hbit : bitmap.getLsbD n.val = true
    · simp only [if_pos hbit, hval]
    · simp only [if_neg hbit, ite_self]
  · rw [hcongr s t n h]

/-- A line-slot after CLEAR_STUCK (R119). -/
theorem clearStuck_lineSlots (l : Fin 12) (bitmap : Byte) (s : State) (k : Fin 12) (n : Fin 8) :
    lineSlotOf (forBitmap bitmap (clearStuckAt l) s) k n =
      if k = l ∧ bitmap.getLsbD n.val = true then
        evaluated s l n { lineSlotOf s k n with stuck := false, stillAsserted := 0 }
      else lineSlotOf s k n := by
  refine lineSlotOf_forBitmap (val := fun s n x => evaluated s l n { x with stuck := false, stillAsserted := 0 }) bitmap
    (fun s n => clearStuckAt_touches l n s) (fun s n l' k => ?_) (fun s t n h => ?_) s k n
  · have hcleared : Touches [.lineSlots] s (modLineSlot l n (fun x => { x with stuck := false, stillAsserted := 0 }) s) :=
      touches_lineSlots s _
    rw [clearStuckAt, lineSlotOf_evaluate, lineSlotOf_mod, evaluated_congr hcleared]
    split <;> rfl
  · rw [evaluated_congr h l n]

theorem clearPending_lineSlots (l : Fin 12) (bitmap : Byte) (s : State) (k : Fin 12) (n : Fin 8) :
    lineSlotOf (forBitmap bitmap (clearPendingAt l) s) k n =
      if k = l ∧ bitmap.getLsbD n.val = true then { lineSlotOf s k n with pending := false } else lineSlotOf s k n :=
  lineSlotOf_forBitmap (val := fun _ _ x => { x with pending := false }) bitmap
    (fun s n => clearPendingAt_touches l n s) (fun s n l' k => lineSlotOf_mod l l' n k _ s) (fun _ _ _ _ => rfl) s k n

/-- The eight bits of a LINE reply's level (R123). -/
theorem levelAsWatched_eq (s : State) (l : Fin 12) (n : Fin 8) : levelAsWatched s l n =
    (decide (s.slots[n].state = .attached) &&
      (decide (s.bus.state = .run) || decide (s.bus.state = .hold) || decide (s.bus.state = .stop)) &&
      s.cards[n].lines[l]) := by
  have hlive : s.bus.state.live =
      (decide (s.bus.state = .run) || decide (s.bus.state = .hold) || decide (s.bus.state = .stop)) := by
    cases s.bus.state <;> rfl
  rw [levelAsWatched, watched_and_asserted, watched, hlive]
  rfl

/-- One slot's bytes of a LINE reply (R123, R195). -/
theorem lineSlotBytes_eq (s : State) (l : Fin 12) (n : Fin 8) : lineSlotBytes s l n =
    [natByte (s.lineSlots[l][n].pending.toNat + 2 * s.lineSlots[l][n].inService.toNat +
        4 * s.lineSlots[l][n].stuck.toNat +
        8 * (decide (s.slots[n].state = .attached) &&
          (decide (s.bus.state = .run) || decide (s.bus.state = .hold) || decide (s.bus.state = .stop)) &&
          s.cards[n].lines[l]).toNat),
      natByte s.lineSlots[l][n].stillAsserted, natByte s.capture.lineCounts[l][n].coalesced,
      natByte s.capture.lineCounts[l][n].lost] := by
  rw [← levelAsWatched_eq]
  rfl

/-- A watched line-slot that its line asserts, as CLEAR_STUCK evaluates it (R119). -/
theorem evaluated_unstuck (s : State) (l : Fin 12) (n : Fin 8) (x : LineSlot) :
    evaluated s l n { x with stuck := false, stillAsserted := 0 } = { x with
      stuck := false, stillAsserted := 0
      pending := x.pending || (decide (s.lines[l].sense = .level) && watched s n && s.cards[n].lines[l] &&
        !x.inService) } := by
  have hsense : (s.lines[l].sense == .level) = decide (s.lines[l].sense = .level) := rfl
  simp only [evaluated, Bool.not_false, Bool.and_true, hsense, Bool.and_assoc]
  rw [← Bool.and_assoc (watched s n), watched_and_asserted, Bool.and_assoc]

theorem readSense_of_le {b : Byte} (h : 2 ≤ b.toNat) : readSense b = none := by
  have h0 : b ≠ 0 := by rintro rfl; exact absurd h (by decide)
  have h1 : b ≠ 1 := by rintro rfl; exact absurd h (by decide)
  rw [readSense, if_neg h0, if_neg h1]

theorem readSense_of_lt {b : Byte} (h : b.toNat < 2) : readSense b = some (if b = 0 then .edge else .level) := by
  obtain ⟨i, rfl⟩ := byte_of_toNat_lt h
  revert i
  decide

theorem readEntry_of_le {b : Byte} (h : 24 ≤ b.toNat) (hb : b ≠ 0xFF) : readEntry b = none := by
  rw [readEntry, dif_neg (by omega), if_neg hb]

section lineChecks

variable {s : State} (tag : Byte) {line sense group entry : Byte} (enabled keep : Byte)

/-- CONFIGURE out of range (R121). -/
theorem lineConfigure_range (hs : Listening s) (hsense : sense.toNat < 2)
    (h : 12 ≤ line.toNat ∨ 8 ≤ group.toNat ∨ (24 ≤ entry.toNat ∧ entry ≠ 0xFF)) :
    serveLineConfigure tag line sense enabled group keep entry (heard s) = answered 0x8E tag [3] s := by
  have hrefused := refuse_heard_of_listening hs 0x0E tag .range
  rw [serveLineConfigure, readSense_of_lt hsense]
  dsimp only
  split
  · next hline hgroup hentry =>
    obtain h | h | ⟨h, hne⟩ := h
    · exact nomatch (indexBelow_of_le h).symm.trans hline
    · exact nomatch (indexBelow_of_le h).symm.trans hgroup
    · exact nomatch (readEntry_of_le h hne).symm.trans hentry
  · exact hrefused

/-- An accepted CONFIGURE (R121). -/
theorem lineConfigure_writes {l : Fin 12} {g : Fin 8} {e : Option (Fin 24)} (hsense : sense.toNat < 2)
    (hline : line.toNat = l.val) (hgroup : group.toNat = g.val) (hentry : entryCode e = entry) :
    serveLineConfigure tag line sense enabled group keep entry (heard s) =
      settle (replyLine tag l (configureLine l
        { sense := if sense = 0 then .edge else .level, enabled := flagByte .lineEnabled enabled, group := g,
          keepAlive := flagByte .lineKeepAlive keep, entry := e } (heard s))) := by
  rw [serveLineConfigure, readSense_of_lt hsense, indexBelow_of_toNat hline, indexBelow_of_toNat hgroup,
    (readEntry_eq_some_iff entry e).mpr hentry]

end lineChecks

/-- Settles O42. -/
theorem lineRequestsAct : Obligations.LineRequestsAct := by
  unfold Obligations.LineRequestsAct
  refine ⟨fun tag line s hs h => ?_, fun tag l s hs => ?_, fun l s => ?_,
    fun tag line sense enabled group keep entry s hs => ⟨fun h => ?_, fun hsense h => ?_,
      fun l g e c hsense hline hgroup hentry hc => ?_⟩,
    fun tag line bitmap s hs h => ?_, fun tag bitmap l s hs => ?_, fun tag bitmap l s hs => ?_⟩
  · rw [lineQuery_answers hs, serveLineQuery, indexBelow_of_le h]
    exact congrArg _ (refuse_heard_of_listening hs 0x0E tag .range)
  · rw [lineQuery_answers hs, serveLineQuery, indexBelow_natByte (by decide) l]
    exact congrArg _ (reply_heard_of_listening hs 0x0E tag .ok _)
  · have hentry : entryCode s.lines[l].entry = (match s.lines[l].entry with
        | some e => natByte e.val
        | none => 0xFF) := by cases s.lines[l].entry <;> rfl
    have hslots := funext (lineSlotBytes_eq s l)
    simp only [lineFields, hentry, hslots]
    rfl
  · rw [lineConfigure_answers hs, serveLineConfigure, readSense_of_le h]
    exact congrArg _ (refuse_heard_of_listening hs 0x0E tag .badRequest)
  · rw [lineConfigure_answers hs, lineConfigure_range tag enabled keep hs hsense h]
  · have htouch := configureLine_touches l c (heard s)
    rw [lineConfigure_answers hs, lineConfigure_writes tag enabled keep hsense hline hgroup hentry, ← hc,
      replyLine_heard hs htouch (by decide)]
    refine ⟨_, rfl, touches_unheard htouch, configureLine_lines l c (heard s), fun k n => ?_⟩
    exact configureLine_lineSlots l c (heard s) k n
  · have hrefused := refuse_heard_of_listening hs 0x0E tag .range
    rw [clearStuck_answers hs, clearPending_answers hs, serveClearStuck, serveClearPending, indexBelow_of_le h]
    exact ⟨congrArg _ hrefused, congrArg _ hrefused⟩
  · have htouch := forBitmap_touches bitmap (clearStuckAt_touches l) (heard s)
    rw [clearStuck_answers hs, serveClearStuck, indexBelow_natByte (by decide) l]
    dsimp only
    rw [replyLine_heard hs htouch (by decide)]
    refine ⟨_, rfl, touches_unheard htouch, fun k n => ?_⟩
    refine (clearStuck_lineSlots l bitmap (heard s) k n).trans ?_
    split
    · next h => rw [evaluated_unstuck, h.1]; rfl
    · rfl
  · have htouch := forBitmap_touches bitmap (clearPendingAt_touches l) (heard s)
    rw [clearPending_answers hs, serveClearPending, indexBelow_natByte (by decide) l]
    dsimp only
    rw [replyLine_heard hs htouch (by decide)]
    refine ⟨_, rfl, touches_unheard htouch, fun k n => ?_⟩
    refine (clearPending_lineSlots l bitmap (heard s) k n).trans ?_
    split
    · next h => rw [h.1]; rfl
    · rfl

end Sys2Proof.Machine
end

section
/-! PROOFS. O45: the periodic timers. -/

namespace Sys2Proof.Machine

set_option Elab.async false

section timerRows

variable {s : State} (hs : Listening s) (tag timer : Byte)
include hs

theorem timerQuery_answers : exec (.timerQuery tag timer) s = .next (serveTimerQuery tag timer (heard s)) :=
  exec_row (i := .timerQuery tag timer) hs rfl rfl (by decide) (of_decide_eq_true rfl)

variable (period : Word16) (entry keep : Byte)

theorem timerStart_answers : exec (.timerStart tag timer period entry keep) s =
    .next (serveTimerStart tag timer period entry keep (heard s)) :=
  exec_row (i := .timerStart tag timer period entry keep) hs rfl rfl (by decide) (of_decide_eq_true rfl)

theorem timerStop_answers : exec (.timerStop tag timer period entry keep) s =
    .next (serveTimerStop tag timer period entry keep (heard s)) :=
  exec_row (i := .timerStop tag timer period entry keep) hs rfl rfl (by decide) (of_decide_eq_true rfl)

end timerRows

/-- A period of 0 is stored as 1 (R147). -/
theorem timerPeriod_eq (period : Word16) : timerPeriod period = if period = 0 then 1 else period.toNat := by
  have hzero : period = 0 ↔ period.toNat = 0 := ⟨fun h => h ▸ rfl, fun h => BitVec.eq_of_toNat_eq h⟩
  rw [timerPeriod]
  split_ifs with h
  · rw [h]
    rfl
  · rw [hzero] at h
    omega

theorem timerStatus_code (period : Word16) : (timerStatus period).code = if period = 0 then 1 else 0 := by
  unfold timerStatus
  split <;> rfl

/-- The fields of a TIMER reply (R147, R195). -/
theorem timerFields_eq (n : Fin 4) (s : State) : timerFields s n =
    [if s.timers[n].running then 1 else 0] ++ bytes2 s.timers[n].period ++
      [match s.timers[n].entry with
        | some e => natByte e.val
        | none => 0xFF, if s.timers[n].keepAlive then 1 else 0] ++ bytes3 s.timers[n].elapsed ++
      [if s.timers[n].pending then 1 else 0, if s.timers[n].inService then 1 else 0,
        natByte s.capture.timerCounts[n].coalesced, natByte s.capture.timerCounts[n].lost] := by
  have hentry (e : Option (Fin 24)) : entryCode e = (match e with
      | some e => natByte e.val
      | none => 0xFF) := by cases e <;> rfl
  rw [← hentry]
  rfl

/-- A CONFIGURE out of range (R147). -/
theorem timerRequests_range {s : State} (hs : Listening s) (tag keep : Byte) {timer entry : Byte} (period : Word16)
    (h : 4 ≤ timer.toNat ∨ (24 ≤ entry.toNat ∧ entry ≠ 0xFF)) :
    serveTimerStart tag timer period entry keep (heard s) = answered 0x90 tag [3] s ∧
    serveTimerStop tag timer period entry keep (heard s) = answered 0x90 tag [3] s := by
  have hrefused := refuse_heard_of_listening hs 0x10 tag .range
  have unread {n : Fin 4} {e : Option (Fin 24)} (hn : indexBelow 4 timer = some n) (he : readEntry entry = some e) : False := by
    obtain h | ⟨h, hne⟩ := h
    · exact nomatch (indexBelow_of_le h).symm.trans hn
    · exact nomatch (readEntry_of_le h hne).symm.trans he
  constructor
  · unfold serveTimerStart
    split
    · next hn he => exact (unread hn he).elim
    · exact hrefused
  · unfold serveTimerStop
    split
    · next hn he => exact (unread hn he).elim
    · exact hrefused

/-- An accepted CONFIGURE answers the timer as it leaves it (R147). -/
theorem replyTimer_heard {t : State} (hs : t.link.ready = true) (tag : Byte) (period : Word16) (n : Fin 4) :
    replyTimer tag (timerStatus period) n (heard t) =
      answered 0x90 tag ((if period = 0 then 1 else 0) :: timerFields t n) t := by
  rw [replyTimer, reply_of_ready (by exact hs), timerStatus_code]
  rfl

theorem refreshing_iff (b : BusState) : refreshing b = true ↔ b = .run ∨ b = .hold := by cases b <;> decide

/-- Settles O45. -/
theorem timersAreConfiguredAndExpire : Obligations.TimersAreConfiguredAndExpire := by
  unfold Obligations.TimersAreConfiguredAndExpire
  refine ⟨fun tag timer entry keep period s hs h => ?_, fun tag timer s hs h => ?_, fun tag n s hs => ?_,
    timerFields_eq, fun tag keep n e period s t adjusted hs hadjusted ht => ?_,
    fun tag keep n e period s t adjusted hs hadjusted ht => ?_, fun n s h => ?_, fun n s t hrun hbus ht => ?_⟩
  · obtain ⟨hstart, hstop⟩ := timerRequests_range hs tag keep period h
    rw [timerStart_answers hs, timerStop_answers hs, hstart, hstop]
    exact ⟨rfl, rfl⟩
  · rw [timerQuery_answers hs, serveTimerQuery, indexBelow_of_le h]
    exact congrArg _ (refuse_heard_of_listening hs 0x10 tag .range)
  · rw [timerQuery_answers hs, serveTimerQuery, indexBelow_natByte (by decide) n]
    exact congrArg _ (reply_heard_of_listening hs 0x10 tag .ok _)
  · have hready : t.link.ready = true := ht ▸ hs.1
    have htaken : modTimer n (fun x => { x with
        period := timerPeriod period, entry := e, keepAlive := flagByte .timerKeepAlive keep,
        running := true, elapsed := 0 }) (heard s) = heard t := by
      rw [ht, timerPeriod_eq]
      rfl
    rw [timerStart_answers hs, serveTimerStart, indexBelow_natByte (by decide) n, (readEntry_eq_some_iff _ e).mpr rfl,
      hadjusted]
    dsimp only
    by_cases hlive : s.bus.state = .run ∨ s.bus.state = .hold ∨ s.bus.state = .stop
    · rw [if_pos hlive, if_pos ((live_iff (heard s).bus.state).mpr hlive), htaken, replyTimer_heard hready]
    · rw [if_neg hlive, if_neg (mt (live_iff (heard s).bus.state).mp hlive)]
      exact congrArg _ (refuse_heard_of_listening hs 0x10 tag .badState)
  · have hready : t.link.ready = true := ht ▸ hs.1
    have htaken : modTimer n (fun x => { x with
        period := timerPeriod period, entry := e, keepAlive := flagByte .timerKeepAlive keep,
        running := false, elapsed := 0, pending := false }) (heard s) = heard t := by
      rw [ht, timerPeriod_eq]
      rfl
    rw [timerStop_answers hs, serveTimerStop, indexBelow_natByte (by decide) n, (readEntry_eq_some_iff _ e).mpr rfl,
      hadjusted]
    dsimp only
    rw [htaken, replyTimer_heard hready]
  · refine congrArg Host.Outcome.next (if_neg ?_)
    rw [refreshing_iff]
    rintro ⟨hrun, hbus⟩
    obtain h | ⟨hnrun, hnhold⟩ := h
    · exact Bool.false_ne_true (h.symm.trans hrun)
    · exact hbus.elim hnrun hnhold
  · subst ht
    exact congrArg Host.Outcome.next (if_pos ⟨hrun, (refreshing_iff _).mpr hbus⟩)

end Sys2Proof.Machine
end

section
/-! PROOFS. O49: DRAIN. First how many records a reply carries; then the requests; then a record's bytes. -/

namespace Sys2Proof.Machine

set_option Elab.async false

/-! ## How many records a reply carries (R160) -/

/-- The bytes of records in a reply. -/
def recordsLength (rs : List Record) : Nat := (rs.map fun r => 16 + r.data.length).sum

theorem recordsLength_cons (r : Record) (rs : List Record) :
    recordsLength (r :: rs) = 16 + r.data.length + recordsLength rs := by
  rw [recordsLength, List.map_cons, List.sum_cons]
  rfl

/-- The count is bounded by Ne, by the records held and by the largest payload, and is the largest such. -/
theorem drainCount_spec (ne size : Nat) (rs : List Record) (hsize : size ≤ 1024) :
    drainCount ne size rs ≤ ne ∧ drainCount ne size rs ≤ rs.length ∧
      size + recordsLength (rs.take (drainCount ne size rs)) ≤ 1024 ∧
      (drainCount ne size rs = ne ∨ drainCount ne size rs = rs.length ∨
        1024 < size + recordsLength (rs.take (drainCount ne size rs + 1))) := by
  induction ne generalizing size rs with
  | zero => simp [drainCount, recordsLength, hsize]
  | succ ne ih =>
    cases rs with
    | nil => simp [drainCount, recordsLength, hsize]
    | cons r rest =>
      unfold drainCount
      dsimp only
      split
      · next hfits =>
        obtain ⟨hne, hlength, hroom, hmax⟩ := ih (size + 16 + r.data.length) rest hfits
        generalize drainCount ne (size + 16 + r.data.length) rest = k at hne hlength hroom hmax ⊢
        rw [Nat.add_comm 1 k, List.take_succ_cons, List.take_succ_cons, recordsLength_cons, recordsLength_cons,
          List.length_cons]
        omega
      · next hfull =>
        rw [List.take_zero, Nat.zero_add, List.take_succ_cons, List.take_zero, recordsLength_cons]
        simp only [recordsLength, List.map_nil, List.sum_nil]
        omega

/-! ## DRAIN and DRAIN with CLEAR (R158 to R161) -/

section drainRows

variable {s : State} (hs : Listening s) (tag ne : Byte)
include hs

theorem drain_answers : exec (.drain tag ne) s = .next (drainRecords tag ne (heard s)) :=
  exec_row (i := .drain tag ne) hs rfl rfl (by decide) (of_decide_eq_true rfl)

theorem drainClear_answers : exec (.drainClear tag ne) s = .next (drainAndClear tag ne (heard s)) :=
  exec_row (i := .drainClear tag ne) hs rfl rfl (by decide) (of_decide_eq_true rfl)

/-- Ne of 0 is refused (R159). -/
theorem drains_refused :
    drainRecords tag 0 (heard s) = answered 0x92 tag ([3, 0] ++ bytes2 s.capture.records.length) s ∧
    drainAndClear tag 0 (heard s) = answered 0x92 tag ([3, 0] ++ bytes2 s.capture.records.length) s := by
  have hrefused : refuseDrain tag .range (heard s) = answered 0x92 tag ([3, 0] ++ bytes2 s.capture.records.length) s :=
    reply_heard_of_listening hs 0x12 tag .range _
  exact ⟨hrefused, hrefused⟩

end drainRows

/-- The payload of a DRAIN reply that carries the oldest `k` records (R160, R195). -/
def drainPayload (k : Nat) (records : List Record) : List Byte :=
  0 :: natByte k :: (bytes2 (records.drop k).length ++ ((records.take k).map Record.bytes).flatten)

theorem drainReply_of_ready {t : State} (h : t.link.ready = true) (tag : Byte) {k : Nat} {records : List Record}
    (hk : k ≤ records.length) :
    drainReply tag (records.take k) (records.drop k).length t = withReply 0x92 tag (drainPayload k records) t := by
  rw [drainReply, reply_of_ready h, List.length_take, Nat.min_eq_left hk]
  rfl

/-- The queue with the carried records removed and the high flag tested (R158). -/
theorem drained_eq {s : State} (left : List Record) :
    testHigh { heard s with capture := { s.capture with records := left } } =
      if s.settings.almostFull ≤ left.length ∧ s.capture.high = false then
        notice 0 (bytes2 left.length ++ bytes2 (left.map fun r => r.data.length).sum ++ bytes2 s.settings.almostFull)
          (heard { s with capture := { s.capture with records := left, high := true } })
      else heard { s with capture := { s.capture with
        records := left, high := decide (s.settings.almostFull ≤ left.length) } } :=
  testHigh_eq _

/-- A slot code and an entry code as the record layout writes them. -/
theorem entryCode_eq (e : Option (Fin 24)) : entryCode e = (match e with
    | some e => natByte e.val
    | none => 0xFF) := by cases e <;> rfl

theorem optionCode_eq (k : Option Nat) : optionCode k = (match k with
    | some k => natByte k
    | none => 0xFF) := by cases k <;> rfl

/-- The first two header bytes name the source and the slot (R150, R195). -/
theorem recordByte_eq (src : Source) : src.recordByte = (match src with
    | .lineSlot l _ => natByte l.val
    | .timer n => natByte (64 + n.val)
    | .channel n => natByte (128 + n.val)
    | .watch u => natByte (192 + u.val)) := by cases src <;> rfl

theorem slotCode_slotField (r : Record) : slotCode r.slotField = (match r.source with
    | .lineSlot _ n => natByte n.val
    | .timer _ => 0xFF
    | _ => match r.slot with
      | some n => natByte n.val
      | none => 0xFF) := by
  unfold Record.slotField
  cases r.source with
  | lineSlot l n => rfl
  | timer n => rfl
  | channel n => cases r.slot <;> rfl
  | watch u => cases r.slot <;> rfl

/-- Settles O49. -/
theorem drainCarriesTheOldestRecords : Obligations.DrainCarriesTheOldestRecords := by
  unfold Obligations.DrainCarriesTheOldestRecords
  refine ⟨fun tag s hs => ?_, fun tag ne s hs hne => ?_, fun r => ?_⟩
  · obtain ⟨hdrain, hclear⟩ := drains_refused hs tag
    rw [drain_answers hs, drainClear_answers hs, hdrain, hclear]
    exact ⟨rfl, rfl⟩
  · obtain ⟨hcount, hheld, hroom, hmax⟩ := drainCount_spec ne.toNat 4 s.capture.records (by decide)
    refine ⟨drainCount ne.toNat 4 s.capture.records, hcount, hheld, hroom, hmax, fun left payload hleft hpayload => ?_⟩
    have hdrain : drainRecords tag ne (heard s) = (fun k : Nat =>
        drainReply tag (s.capture.records.take k) (s.capture.records.drop k).length
          (if k = 0 then { heard s with capture := { s.capture with records := s.capture.records.drop k } }
          else testHigh { heard s with capture := { s.capture with records := s.capture.records.drop k } }))
        (drainCount ne.toNat 4 s.capture.records) := if_neg hne
    have hclear : drainAndClear tag ne (heard s) = (fun k : Nat =>
        drainReply tag (s.capture.records.take k) (s.capture.records.drop k).length
          { heard s with capture := { s.capture with records := [], high := false } })
        (drainCount ne.toNat 4 s.capture.records) := if_neg hne
    rw [drain_answers hs, drainClear_answers hs, hdrain, hclear]
    generalize drainCount ne.toNat 4 s.capture.records = k at *
    have hpayload : payload = drainPayload k s.capture.records := by rw [hpayload, hleft]; rfl
    subst hleft
    rw [hpayload]
    dsimp only
    refine ⟨congrArg Host.Outcome.next ?_, congrArg Host.Outcome.next (drainReply_of_ready (by exact hs.1) tag hheld)⟩
    rw [drained_eq]
    by_cases hk : k = 0
    · subst hk
      rw [if_pos rfl, if_pos rfl, drainReply_of_ready (by exact hs.1) tag hheld, List.drop_zero]
      rfl
    · rw [if_neg hk, if_neg hk, drainReply_of_ready ?_ tag hheld]
      · rfl
      · split
        · rw [notice_ready]
          exact hs.1
        · exact hs.1
  · rw [Record.bytes, recordByte_eq, slotCode_slotField, optionCode_eq, optionCode_eq, entryCode_eq]
    rfl

end Sys2Proof.Machine
end

section
/-! PROOFS. The watch units: O50 (the WATCH requests) and O51 (match and hit). -/

namespace Sys2Proof.Machine

set_option Elab.async false

/-! ## The WATCH requests (R171, R172) -/

section watchRows

variable {s : State} (hs : Listening s) (tag unit : Byte)
include hs

theorem watchQuery_answers : exec (.watchQuery tag unit) s = .next (serveWatchQuery tag unit (heard s)) :=
  exec_row (i := .watchQuery tag unit) hs rfl rfl (by decide) (of_decide_eq_true rfl)

theorem watchArm_answers : exec (.watchArm tag unit) s = .next (serveWatchArm tag unit (heard s)) :=
  exec_row (i := .watchArm tag unit) hs rfl rfl (by decide) (of_decide_eq_true rfl)

theorem watchDisarm_answers : exec (.watchDisarm tag unit) s = .next (serveWatchDisarm tag unit (heard s)) :=
  exec_row (i := .watchDisarm tag unit) hs rfl rfl (by decide) (of_decide_eq_true rfl)

theorem watchConfigure_answers (f : WatchFields) :
    exec (.watchConfigure tag unit f) s = .next (serveWatchConfigure tag unit f (heard s)) :=
  exec_row (i := .watchConfigure tag unit f) hs rfl rfl (of_decide_eq_true rfl) (of_decide_eq_true rfl)

end watchRows

/-- An accepted WATCH request answers the unit as it leaves it (R171). -/
theorem replyWatch_heard {t : State} (ht : t.link.ready = true) (tag : Byte) (u : Fin 2) :
    replyWatch tag u (heard t) = answered 0x91 tag (0 :: watchFields t u) t := by
  rw [replyWatch, reply_of_ready (by exact ht)]
  rfl

/-- The fields of a WATCH reply (R172, R195). -/
theorem watchFields_eq {u : Fin 2} {s : State} {w : Watch} (hw : s.watch[u] = w) : watchFields s u =
    [if w.armed then 1 else 0, if w.space = .mem then 0 else 1] ++ bytes3 w.address.toNat ++ bytes3 w.mask.toNat ++
      [natByte (w.reads.toNat + 2 * w.writes.toNat),
        natByte (w.fromQueue.toNat + 2 * w.fromChannel.toNat + 4 * w.fromService.toNat + 8 * w.fromMaster.toNat),
        if w.dataCompare then 1 else 0] ++
      bytes2 w.dataValue.toNat ++ bytes2 w.dataMask.toNat ++
      [natByte (w.record.toNat + 2 * w.hold.toNat), if w.oneShot then 1 else 0] ++ bytes2 w.hits ++
      [natByte s.capture.watchLost[u]] := by
  have hspace : spaceCode w.space = if w.space = .mem then 0 else 1 := by cases w.space <;> rfl
  rw [watchFields, hw, hspace]
  rfl

theorem readArm_of_le {b : Byte} (h : 2 ≤ b.toNat) : readArm b = none := by
  have h0 : b ≠ 0 := by rintro rfl; exact absurd h (by decide)
  have h1 : b ≠ 1 := by rintro rfl; exact absurd h (by decide)
  rw [readArm, if_neg h0, if_neg h1]

theorem readArm_of_lt {b : Byte} (h : b.toNat < 2) : readArm b = some (decide (b = 1)) := by
  obtain ⟨i, rfl⟩ := byte_of_toNat_lt h
  revert i
  decide

/-- The space a good code names. -/
def spaceOf (b : Byte) : Space := if b = 0 then .mem else .io

section codes

variable {f : WatchFields}

/-- Pass 1 fails (R171). -/
theorem watchCodes_of_bad (h : 2 ≤ f.space.toNat ∨ 2 ≤ f.arm.toNat ∨ 4 ≤ f.kinds.toNat ∨ 16 ≤ f.initiators.toNat ∨
    4 ≤ f.actions.toNat) : watchCodes f = none := by
  unfold watchCodes
  split
  · next hspace harm =>
    obtain h | h | h := h
    · exact nomatch (readSpace_of_lt h).symm.trans hspace
    · exact nomatch (readArm_of_le h).symm.trans harm
    · refine if_neg ?_
      simp only [Bool.and_eq_true, decide_eq_true_eq]
      omega
  · rfl

theorem watchCodes_of_good (hspace : f.space.toNat < 2) (harm : f.arm.toNat < 2) (hkinds : f.kinds.toNat < 4)
    (hinitiators : f.initiators.toNat < 16) (hactions : f.actions.toNat < 4) :
    watchCodes f = some (spaceOf f.space, decide (f.arm = 1)) := by
  rw [watchCodes, readSpace_of_le (Nat.le_of_lt_succ hspace), readArm_of_lt harm]
  dsimp only
  rw [decide_eq_true hkinds, decide_eq_true hinitiators, decide_eq_true hactions]
  rfl

theorem lastAddress_spaceOf (b : Byte) : lastAddress (spaceOf b) = if b = 0 then 0xFFFFF else 0xFFFF := by
  unfold spaceOf
  split <;> rfl

/-- Pass 2 (R171). -/
theorem watchInRange_iff (f : WatchFields) : watchInRange f (spaceOf f.space) = true ↔ f.kinds ≠ 0 ∧ f.initiators ≠ 0 ∧
    f.address.toNat ≤ (if f.space = 0 then 0xFFFFF else 0xFFFF) ∧
    f.mask.toNat ≤ (if f.space = 0 then 0xFFFFF else 0xFFFF) := by
  simp only [watchInRange, Bool.and_eq_true, bne_iff_ne, decide_eq_true_eq, lastAddress_spaceOf, and_assoc, ne_eq]

end codes

/-- The unit an accepted CONFIGURE leaves, its fields written out (R171). -/
theorem configuredWatch_eq (old : Watch) (f : WatchFields) (space : Space) (armed : Bool) :
    configuredWatch old f space armed =
      { armed := armed
        space := space
        address := BitVec.ofNat 20 f.address.toNat
        mask := BitVec.ofNat 20 f.mask.toNat
        reads := f.kinds.getLsbD 0, writes := f.kinds.getLsbD 1
        fromQueue := f.initiators.getLsbD 0, fromChannel := f.initiators.getLsbD 1
        fromService := f.initiators.getLsbD 2, fromMaster := f.initiators.getLsbD 3
        dataCompare := flagByte .watchDataCompare f.dataCompare
        dataValue := f.dataValue, dataMask := f.dataMask
        record := f.actions.getLsbD 0, hold := f.actions.getLsbD 1
        oneShot := flagByte .watchOneShot f.oneShot
        hits := if flagByte .watchClearCount f.clearCount then 0 else old.hits } := rfl

/-- Settles O50. -/
theorem watchRequestsAct : Obligations.WatchRequestsAct := by
  unfold Obligations.WatchRequestsAct
  refine ⟨fun tag unit s hs h => ?_, fun tag u s armed disarmed hs harmed hdisarmed => ?_, fun u s w hw => watchFields_eq hw,
    fun tag unit f s hs => ⟨fun h => ?_, fun hspace harm hkinds hinitiators hactions => ⟨fun h => ?_,
      fun u t hunit hkind hinitiator haddress hmask ht => ?_⟩⟩⟩
  · have hrefused := refuse_heard_of_listening hs 0x11 tag .range
    rw [watchQuery_answers hs, watchArm_answers hs, watchDisarm_answers hs, serveWatchQuery, serveWatchArm,
      serveWatchDisarm, indexBelow_of_le h]
    exact ⟨congrArg _ hrefused, congrArg _ hrefused, congrArg _ hrefused⟩
  · rw [watchQuery_answers hs, watchArm_answers hs, watchDisarm_answers hs, serveWatchQuery, serveWatchArm,
      serveWatchDisarm, indexBelow_natByte (by decide) u]
    have hon : modWatch u (fun w => { w with armed := true }) (heard s) = heard armed := by
      rw [harmed]
      rfl
    have hoff : modWatch u (fun w => { w with armed := false }) (heard s) = heard disarmed := by
      rw [hdisarmed]
      rfl
    dsimp only
    rw [hon, hoff, replyWatch_heard hs.1, replyWatch_heard (t := armed) (harmed ▸ hs.1),
      replyWatch_heard (t := disarmed) (hdisarmed ▸ hs.1)]
    exact ⟨rfl, rfl, rfl⟩
  · rw [watchConfigure_answers hs, serveWatchConfigure, watchCodes_of_bad h]
    exact congrArg _ (refuse_heard_of_listening hs 0x11 tag .badRequest)
  · have hrefused := refuse_heard_of_listening hs 0x11 tag .range
    rw [watchConfigure_answers hs, serveWatchConfigure,
      watchCodes_of_good hspace harm hkinds hinitiators hactions]
    dsimp only
    split
    · next u hu =>
      refine congrArg Host.Outcome.next ((if_neg fun hrange => ?_).trans hrefused)
      obtain ⟨hkind, hinitiator, haddress, hmask⟩ := (watchInRange_iff f).mp hrange
      obtain h | h | h | h | h := h
      · exact nomatch (indexBelow_of_le h).symm.trans hu
      · exact hkind h
      · exact hinitiator h
      · exact absurd haddress (Nat.not_le.mpr h)
      · exact absurd hmask (Nat.not_le.mpr h)
    · exact congrArg _ hrefused
  · have hready : t.link.ready = true := ht ▸ hs.1
    have htaken : modWatch u (fun old => configuredWatch old f (spaceOf f.space) (decide (f.arm = 1))) (heard s) =
        heard t := by
      rw [ht]
      rfl
    rw [watchConfigure_answers hs, serveWatchConfigure,
      watchCodes_of_good hspace harm hkinds hinitiators hactions]
    dsimp only
    rw [indexBelow_of_toNat hunit]
    dsimp only
    rw [if_pos ((watchInRange_iff f).mpr ⟨hkind, hinitiator, haddress, hmask⟩), htaken, replyWatch_heard hready]

/-! ## The match (R167) -/

/-- Two values agree in the bits a mask names. -/
theorem masked_eq_iff {w : Nat} (x y mask : BitVec w) : ((x ^^^ y) &&& mask == 0) = true ↔
    ∀ k, k < w → mask.getLsbD k = true → x.getLsbD k = y.getLsbD k := by
  rw [beq_iff_eq]
  constructor
  · intro h k hk hmask
    have hbit : ((x ^^^ y) &&& mask).getLsbD k = false := by
      rw [h]
      exact BitVec.getLsbD_zero
    rw [BitVec.getLsbD_and, BitVec.getLsbD_xor, hmask, Bool.and_true] at hbit
    simpa using hbit
  · intro h
    refine BitVec.eq_of_getLsbD_eq fun k hk => ?_
    rw [BitVec.getLsbD_and, BitVec.getLsbD_xor]
    cases hmask : mask.getLsbD k with
    | false => simp
    | true =>
      rw [h k hk hmask]
      simp

/-- The bits of two bytes put together. -/
theorem getLsbD_word16 (b0 b1 : Byte) (k : Nat) :
    (word16 b0 b1).getLsbD k = if k < 8 then b0.getLsbD k else b1.getLsbD (k - 8) := by
  rw [word16, BitVec.getLsbD_append]

/-- When a unit hits. -/
theorem hits_iff (w : Watch) (p : Presentation) : w.hits? p = true ↔
    w.armed = true ∧ w.space = p.space ∧
      (∀ k, k < 20 → w.mask.getLsbD k = true → w.address.getLsbD k = p.address.testBit k) ∧
      (if p.write then w.writes = true else w.reads = true) ∧ w.watchesInitiator p.initiator = true ∧
      (w.dataCompare = true → ∀ k, k < 16 → w.dataMask.getLsbD k = true →
        w.dataValue.getLsbD k = if k < 8 then p.data0.getLsbD k else p.data1.getLsbD (k - 8)) := by
  have haddress : ((w.address ^^^ BitVec.ofNat 20 p.address) &&& w.mask == 0) = true ↔
      ∀ k, k < 20 → w.mask.getLsbD k = true → w.address.getLsbD k = p.address.testBit k := by
    rw [masked_eq_iff]
    refine forall_congr' fun k => imp_congr_right fun hk => ?_
    rw [BitVec.getLsbD_ofNat, decide_eq_true hk, Bool.true_and]
  have hdata : (!w.dataCompare || ((w.dataValue ^^^ p.value) &&& w.dataMask == 0)) = true ↔
      (w.dataCompare = true → ∀ k, k < 16 → w.dataMask.getLsbD k = true →
        w.dataValue.getLsbD k = if k < 8 then p.data0.getLsbD k else p.data1.getLsbD (k - 8)) := by
    rw [Bool.or_eq_true, masked_eq_iff, Bool.not_eq_true', ← Bool.not_eq_true, ← imp_iff_not_or]
    simp only [Presentation.value, getLsbD_word16]
  have hkind : (if p.write then w.writes else w.reads) = true ↔ if p.write then w.writes = true else w.reads = true := by
    split <;> rfl
  simp only [Watch.hits?, Bool.and_eq_true, beq_iff_eq, haddress, hdata, hkind, and_assoc]

/-! ## The hit (R43, R168, R169) -/

/-- The record of a hit (R169, R195). -/
theorem watchRecord_eq (u : Fin 2) (p : Presentation) (s : State) : watchRecord u p s =
    { source := .watch u, slot := p.slot,
      flags := { noRecordFlags with unclaimed := p.unclaimed, prot := p.prot, timeout := p.timeout },
      sequence := 0, time := s.timeBase, coalesced := 0, lost := 0, firstFail := none, entry := none,
      steps := none,
      data := natByte ((if p.space = .io then 1 else 0) + 2 * p.write.toNat + 4 * p.word.toNat) ::
        (bytes3 p.address ++ [p.data0, p.data1,
          match p.initiator with
          | .queue => 0
          | .channel _ => 1
          | .service => 2
          | .master => 3,
          match p.slot with
          | some n => natByte n.val
          | none => 0xFF]) } := by
  have hspace : (p.space == .io).toNat = if p.space = .io then 1 else 0 := by cases p.space <;> rfl
  have hinitiator : p.initiator.code = (match p.initiator with
      | .queue => 0
      | .channel _ => 1
      | .service => 2
      | .master => 3) := by cases p.initiator <;> rfl
  have hslot : slotCode p.slot = (match p.slot with
      | some n => natByte n.val
      | none => 0xFF) := by cases p.slot <;> rfl
  rw [watchRecord, Presentation.cycleByte, hspace, hinitiator, hslot]

/-- What handing a record over does to queue and link is read from the queue, the link, the settings and the time. -/
theorem handRecord_watch (r : Record) (s : State) (v : Vector Watch 2) :
    (handRecord r { s with watch := v }).capture = (handRecord r s).capture ∧
      (handRecord r { s with watch := v }).link = (handRecord r s).link := by
  unfold handRecord
  split
  · rw [storeRecord_capture, storeRecord_capture, storeRecord_link, storeRecord_link]
    refine ⟨rfl, ?_⟩
    simp only [apply_ite State.link]
    congr 1
    exact notice_link_congr _ _ rfl rfl rfl
  · exact ⟨rfl, rfl⟩

theorem requestHold_eq (u : Fin 2) (s : State) : requestHold u s = { s with bus :=
    if s.bus.state = .run ∧ s.bus.holdRequest = none then { s.bus with holdRequest := some u } else s.bus } := by
  unfold requestHold
  split <;> rfl

/-- The hit counted, a one-shot unit disarmed. -/
def hitCounted (u : Fin 2) (s : State) : State :=
  { s with watch := upd s.watch u fun w => { w with hits := min 65535 (w.hits + 1), armed := w.armed && !w.oneShot } }

/-- The hit recorded, if the unit records. -/
def hitRecorded (u : Fin 2) (p : Presentation) (s : State) : State :=
  if s.watch[u].record then handRecord (watchRecord u p s) (hitCounted u s) else hitCounted u s

theorem watchHit_eq (u : Fin 2) (p : Presentation) (s : State) :
    watchHit u p s = if s.watch[u].hold then requestHold u (hitRecorded u p s) else hitRecorded u p s := rfl

section hitRecorded

variable (u : Fin 2) (p : Presentation) (s : State)

theorem hitRecorded_touches : Touches [.capture, .link] (hitCounted u s) (hitRecorded u p s) :=
  .ite (handRecord_touches _ _) (.refl _ _)

theorem hitRecorded_bus : (hitRecorded u p s).bus = s.bus := hitRecorded_touches u p s .bus (by decide)

theorem hitRecorded_watch : (hitRecorded u p s).watch = (hitCounted u s).watch :=
  hitRecorded_touches u p s .watch (by decide)

theorem hitRecorded_capture :
    (hitRecorded u p s).capture = (if s.watch[u].record then handRecord (watchRecord u p s) s else s).capture := by
  obtain ⟨hcapture, -⟩ := handRecord_watch (watchRecord u p s) s (hitCounted u s).watch
  unfold hitRecorded
  split
  · exact hcapture
  · rfl

theorem hitRecorded_link :
    (hitRecorded u p s).link = (if s.watch[u].record then handRecord (watchRecord u p s) s else s).link := by
  obtain ⟨-, hlink⟩ := handRecord_watch (watchRecord u p s) s (hitCounted u s).watch
  unfold hitRecorded
  split
  · exact hlink
  · rfl

/-- A hit: what it changes beside what it records is the hold request (R43). -/
theorem watchHit_whole : watchHit u p s = { hitRecorded u p s with bus :=
    if s.watch[u].hold = true ∧ s.bus.state = .run ∧ s.bus.holdRequest = none then
      { s.bus with holdRequest := some u } else s.bus } := by
  have hbus := hitRecorded_bus u p s
  rw [watchHit_eq, requestHold_eq, hbus]
  by_cases hhold : s.watch[u].hold = true
  · simp only [hhold, if_true, true_and]
  · rw [if_neg hhold, if_neg fun h => hhold h.1, ← hbus]

end hitRecorded

/-- Settles O51. -/
theorem watchHitActs : Obligations.WatchHitActs := by
  unfold Obligations.WatchHitActs
  refine ⟨fun w p => ?_, fun u p s hmiss => if_neg (by rw [hmiss]; decide), fun u p s r hhit hr => ?_, fun p s t ht => ?_⟩
  · rw [hits_iff]
    have hinitiator : w.watchesInitiator p.initiator = true ↔ (match p.initiator with
        | .queue => w.fromQueue = true
        | .channel _ => w.fromChannel = true
        | .service => w.fromService = true
        | .master => w.fromMaster = true) := by cases p.initiator <;> rfl
    rw [hinitiator] <;> rfl
  · have hpresented : presentTo u p s = watchHit u p s := if_pos hhit
    have hrecord : r = watchRecord u p s := hr.trans (watchRecord_eq u p s).symm
    refine ⟨presentTo_touches u p s, ?_, ?_, ?_, ?_⟩
    all_goals rw [hpresented, watchHit_whole]
    · exact hitRecorded_watch u p s
    · rw [hrecord]
      exact hitRecorded_capture u p s
    · rw [hrecord]
      exact hitRecorded_link u p s
  · subst ht
    unfold present eitherOrder
    split
    · exact .inl rfl
    · exact .inr rfl

end Sys2Proof.Machine
end

section
/-! PROOFS. O52: the image memory requests and the fill. -/

namespace Sys2Proof.Machine

set_option Elab.async false

/-! ## Bytes stored and read (R178, R179) -/

/-- Every byte of image memory after a store. -/
theorem readByte_writeBytesAt {cells : List Host.Cell} (hcells : Memory.wf cells = true) (a : Nat) (bs : List Byte)
    (x : Nat) : readByte (writeBytesAt cells a bs) x =
      if a ≤ x ∧ x < a + bs.length then bs.getD (x - a) 0 else readByte cells x := by
  split
  · next h =>
    obtain ⟨k, rfl⟩ := Nat.exists_eq_add_of_le h.1
    have hk : k < bs.length := by omega
    rw [readByte_writeBytesAt_same bs cells a k hcells hk, Nat.add_sub_cancel_left, List.getD_eq_getElem _ _ hk]
  · exact readByte_writeBytesAt_other bs cells a x (by omega)

theorem readBytes_eq (cells : List Host.Cell) (a n : Nat) :
    readBytes cells a n = (List.range n).map fun k => readByte cells (a + k) := by
  induction n generalizing a with
  | zero => rfl
  | succ n ih =>
    rw [readBytes, ih, List.range_succ_eq_map, List.map_cons, List.map_map]
    simp only [Nat.add_zero, Function.comp_def, Nat.succ_eq_add_one, Nat.add_assoc, Nat.add_comm 1]

/-! ## The requests (R177 to R180) -/

theorem imageRange_iff (offset length most : Nat) : imageRange offset length most = true ↔
    1 ≤ length ∧ length ≤ most ∧ offset + length ≤ 0x100000 := by
  simp only [imageRange, Bool.and_eq_true, decide_eq_true_eq]
  omega

theorem imgWrite_answers {s : State} (hs : Listening s) (tag : Byte) (offset : Word24) (count : Word16)
    {data : List Byte} (hdata : data.length ≤ 1019) :
    exec (.imgWrite tag offset count data) s = .next (serveImgWrite tag offset count data (heard s)) := by
  refine exec_row (i := .imgWrite tag offset count data) hs rfl rfl (by decide) ?_
  simp only [List.length_cons]
  omega

theorem imgRead_answers {s : State} (hs : Listening s) (tag : Byte) (offset : Word24) (length : Word16) :
    exec (.imgRead tag offset length) s = .next (serveImgRead tag offset length (heard s)) :=
  exec_row (i := .imgRead tag offset length) hs rfl rfl (by decide) (of_decide_eq_true rfl)

theorem imgFill_answers {s : State} (hs : Listening s) (tag value : Byte) (offset length : Word24) :
    exec (.imgFill tag offset length value) s = .next (serveImgFill tag offset length value (heard s)) :=
  exec_row (i := .imgFill tag offset length value) hs rfl rfl (by decide) (of_decide_eq_true rfl)

/-! ## The fill (R180, R181) -/

/-- The bytes a fill stores at a microsecond end, before its end is told. -/
def fillStored (s : State) : State :=
  { s with image := { s.image with
      cells := writeBytesAt s.image.cells s.image.fillNext (List.replicate (fillCount s.image) s.image.fillValue)
      fillNext := s.image.fillNext + fillCount s.image } }

theorem fillStore_eq (s : State) : fillStore s =
    if s.image.fillEnd < s.image.fillNext + fillCount s.image then
      sendAll (answers 0x95 [0] [{ tag := s.image.fillTag, wanted := s.image.replyWanted }])
        { fillStored s with image := { (fillStored s).image with filling := false } }
    else fillStored s := by
  have hreply (w : Waiting) (t : State) : replyLater 0x15 w .ok [] t = sendAll (answers 0x95 [0] [w]) t :=
    foldl_replyLater 0x15 .ok (fun _ => []) (fun _ _ => rfl) [w] t
  unfold fillStore endFill
  dsimp only
  split
  · exact hreply _ _
  · rfl

theorem answers_single (kind : Byte) (payload : List Byte) (w : Waiting) : answers kind payload [w] =
    if w.wanted = true then [{ kind := kind, tag := w.tag, payload := payload }] else [] := by
  cases hw : w.wanted <;> simp [answers, hw]

/-- A frame handed over joins the transmit list of a ready link. -/
theorem sendAll_link (fs : List Frame) (s : State) :
    (sendAll fs s).link = { s.link with tx := if s.link.ready then s.link.tx ++ fs else s.link.tx } := by
  unfold sendAll
  split <;> rfl

theorem fillStore_link (s : State) : (fillStore s).link = { s.link with tx :=
    (if s.image.fillEnd < s.image.fillNext + fillCount s.image ∧ s.image.replyWanted = true ∧ s.link.ready = true then
      s.link.tx ++ [{ kind := 0x95, tag := s.image.fillTag, payload := [0] }]
    else s.link.tx) } := by
  rw [fillStore_eq]
  by_cases hend : s.image.fillEnd < s.image.fillNext + fillCount s.image
  · rw [if_pos hend, sendAll_link, answers_single]
    have hlink : (fillStored s).link = s.link := rfl
    dsimp only
    rw [hlink]
    cases hwanted : s.image.replyWanted <;> cases hready : s.link.ready <;> simp [hend]
  · rw [if_neg hend, if_neg fun h => hend h.1]
    rfl

section fillStore

variable {s : State} (hfilling : s.image.filling = true)
include hfilling

theorem fillStore_image : (fillStore s).image = { (fillStored s).image with
    filling := decide (s.image.fillNext + fillCount s.image ≤ s.image.fillEnd) } := by
  rw [fillStore_eq]
  split
  · next hend =>
    rw [decide_eq_false (Nat.not_le.mpr hend)]
    exact sendAll_touches _ _ .image (by decide)
  · next hgoes =>
    rw [decide_eq_true (Nat.le_of_not_lt hgoes), ← hfilling]
    rfl

end fillStore

/-- Settles O52. -/
theorem imageRequestsAct : Obligations.ImageRequestsAct := by
  unfold Obligations.ImageRequestsAct
  refine ⟨fun tag offset count data s hs hdata => ?_, fun tag offset length s hs => ?_,
    fun tag value offset length s hs => ?_, fun s h => ?_, fun s k hfilling hk => ?_⟩
  · rw [imgWrite_answers hs tag offset count hdata]
    refine ⟨fun hcount => ?_, fun hcount hrange => ?_, fun hcount hne hmost hend => ?_⟩
    · exact congrArg Host.Outcome.next ((if_pos hcount).trans (refuse_heard_of_listening hs 0x13 tag .badRequest))
    · have hbad : ¬ imageRange offset.toNat data.length 1016 = true := by
        rw [imageRange_iff]
        rintro ⟨hlow, hmost, hend⟩
        obtain rfl | h | h | h := hrange
        · exact absurd hlow (by simp)
        all_goals omega
      exact congrArg Host.Outcome.next ((if_neg (not_not_intro hcount)).trans ((if_neg hbad).trans
        (refuse_heard_of_listening hs 0x13 tag .range)))
    · have hgood : imageRange offset.toNat data.length 1016 = true :=
        (imageRange_iff _ _ _).mpr ⟨List.length_pos_iff.mpr hne, hmost, hend⟩
      refine ⟨writeBytesAt s.image.cells offset.toNat data, congrArg Host.Outcome.next
        ((if_neg (not_not_intro hcount)).trans ((if_pos hgood).trans ?_)), fun hwf x => ?_⟩
      · exact reply_of_ready (s := storeImage offset.toNat data (heard s)) hs.1 0x13 tag .ok []
      · exact readByte_writeBytesAt hwf offset.toNat data x
  · have hread := reply_heard_of_listening hs 0x14 tag .ok (readBytes s.image.cells offset.toNat length.toNat)
    have hrefused := refuse_heard_of_listening hs 0x14 tag .range
    have hserve : serveImgRead tag offset length (heard s) =
        if imageRange offset.toNat length.toNat 1016 = true then
          reply 0x14 tag .ok (readBytes s.image.cells offset.toNat length.toNat) (heard s)
        else refuse 0x14 tag .range (heard s) := rfl
    rw [imgRead_answers hs, hserve, hread, hrefused, readBytes_eq]
    simp only [imageRange_iff]
    rfl
  · have hbusy := refuse_heard_of_listening hs 0x15 tag .busy
    have hrefused := refuse_heard_of_listening hs 0x15 tag .range
    have hserve : serveImgFill tag offset length value (heard s) =
        if imageRange offset.toNat length.toNat 1048576 = true then
          (if s.image.filling then refuse 0x15 tag .busy (heard s)
            else startFill tag offset.toNat length.toNat value (heard s))
        else refuse 0x15 tag .range (heard s) := rfl
    rw [imgFill_answers hs, hserve, hbusy, hrefused]
    refine congrArg Host.Outcome.next ?_
    by_cases hrange : length.toNat = 0 ∨ 0x100000 < offset.toNat + length.toNat
    · rw [if_pos hrange, if_neg]
      · rfl
      · rw [imageRange_iff]
        omega
    · rw [if_neg hrange, if_pos]
      · rfl
      · rw [imageRange_iff]
        omega
  · exact congrArg Host.Outcome.next (if_neg (by rw [h]; decide))
  · have hk : k = fillCount s.image := hk
    subst hk
    refine ⟨fillStore s, congrArg Host.Outcome.next (if_pos hfilling), fillStore_touches s, ?_, fun hwf x => ?_,
      fillStore_link s⟩
    · rw [fillStore_image hfilling]
      rfl
    · rw [fillStore_image hfilling]
      refine (readByte_writeBytesAt hwf _ _ x).trans ?_
      rw [List.length_replicate]
      split
      · next h =>
        rw [List.getD_eq_getElem _ _ (by rw [List.length_replicate]; omega), List.getElem_replicate]
      · rfl

end Sys2Proof.Machine
end

section
/-! PROOFS. O44: the service table. -/

namespace Sys2Proof.Machine

set_option Elab.async false

section serviceRows

variable {s : State} (hs : Listening s) (tag entry : Byte)
include hs

theorem serviceQuery_answers : exec (.serviceQuery tag entry) s = .next (serveServiceQuery tag entry (heard s)) :=
  exec_row (i := .serviceQuery tag entry) hs rfl rfl (by decide) (of_decide_eq_true rfl)

theorem serviceWrite_answers (record count : Byte) {bytes : List Byte} (hlong : bytes.length ≤ 1020) :
    exec (.serviceWrite tag entry record count bytes) s =
      .next (serveServiceWrite tag entry record count bytes (heard s)) := by
  refine exec_row (i := .serviceWrite tag entry record count bytes) hs rfl rfl (by decide) ?_
  simp only [List.length_cons]
  omega

end serviceRows

/-! ## Step records (R128, R129, R195) -/

/-- The bytes of step records read as those records. -/
theorem readSteps_stepBytes (raw : List RawStep) : readSteps raw.length (raw.map stepBytes).flatten = some raw := by
  induction raw with
  | nil => rfl
  | cons r rest ih =>
    simp only [List.map_cons, List.flatten_cons, stepBytes, List.cons_append, List.nil_append, List.length_cons,
      readSteps, ih, word24_bytes, word16_bytes]

/-- Step records are read from their own bytes alone. -/
theorem readSteps_eq_some {n : Nat} {bytes : List Byte} {raw : List RawStep} (h : readSteps n bytes = some raw) :
    raw.length = n ∧ bytes = (raw.map stepBytes).flatten := by
  induction n, bytes using readSteps.induct generalizing raw with
  | case1 =>
    obtain rfl := Option.some.inj h
    exact ⟨rfl, rfl⟩
  | case2 bytes hne => simp [readSteps] at h
  | case3 n kind width count a0 a1 a2 v0 v1 rest steps hrest ih =>
    rw [readSteps, hrest] at h
    obtain rfl := Option.some.inj h
    obtain ⟨hlength, hbytes⟩ := ih hrest
    refine ⟨congrArg (· + 1) hlength, ?_⟩
    simp [stepBytes, hbytes]
  | case4 n kind width count a0 a1 a2 v0 v1 rest hrest ih =>
    rw [readSteps, hrest] at h
    exact nomatch h
  | case5 n bytes hne => simp [readSteps] at h

/-- A known kind, and the six it can be. -/
def KnownKind (r : RawStep) : Prop := 1 ≤ r.kind.toNat ∧ r.kind.toNat ≤ 6

theorem known_iff (r : RawStep) : r.known = true ↔ KnownKind r := by
  simp [RawStep.known, KnownKind]

theorem knownKind_cases {r : RawStep} (h : KnownKind r) :
    r.kind = 1 ∨ r.kind = 2 ∨ r.kind = 3 ∨ r.kind = 4 ∨ r.kind = 5 ∨ r.kind = 6 := by
  obtain ⟨hlow, hhigh⟩ := h
  bv_omega

theorem widthOk_iff (b : Byte) : widthOk b = true ↔ b = 1 ∨ b = 2 := by
  simp [widthOk]

theorem inRange_iff {r : RawStep} (h : KnownKind r) : r.inRange = true ↔ stepFits r := by
  obtain hk | hk | hk | hk | hk | hk := knownKind_cases h <;>
    simp [RawStep.inRange, stepFits, hk, widthOk_iff, and_assoc]
  exact fun _ => ⟨fun ⟨hlow, hhigh, ha⟩ => ⟨ha, hlow, hhigh⟩, fun ⟨ha, hlow, hhigh⟩ => ⟨hlow, hhigh, ha⟩⟩

theorem captures_step {r : RawStep} (h : KnownKind r) (hfits : stepFits r) : r.step.captures = stepCaptures r := by
  have hwidth (hw : r.width = 1 ∨ r.width = 2) : widthOf (decide (r.width = 2)) = r.width.toNat := by
    obtain hw | hw := hw <;> rw [hw] <;> rfl
  obtain ⟨hio, -, -, hmem⟩ := hfits
  obtain hk | hk | hk | hk | hk | hk := knownKind_cases h
  · simpa [RawStep.step, stepCaptures, hk, Step.captures] using hwidth (hio (.inl hk)).1
  · simpa [RawStep.step, stepCaptures, hk, Step.captures] using .inl (hwidth (hio (.inr (.inl hk))).1)
  all_goals simp [RawStep.step, stepCaptures, hk, Step.captures]

theorem capturedLength_steps {raw : List RawStep} (hknown : ∀ r ∈ raw, KnownKind r) (hfits : ∀ r ∈ raw, stepFits r) :
    capturedLength (raw.map RawStep.step) = (raw.map stepCaptures).sum := by
  rw [capturedLength, List.map_map]
  exact congrArg List.sum (List.map_congr_left fun r hr => captures_step (hknown r hr) (hfits r hr))

theorem stepsInRange_iff {raw : List RawStep} (hknown : ∀ r ∈ raw, KnownKind r) : stepsInRange raw = true ↔
    raw.length ≤ 8 ∧ (∀ r ∈ raw, stepFits r) ∧ (raw.map stepCaptures).sum ≤ 64 := by
  have hall : raw.all RawStep.inRange = true ↔ ∀ r ∈ raw, stepFits r := by
    rw [List.all_eq_true]
    exact forall₂_congr fun r hr => inRange_iff (hknown r hr)
  rw [stepsInRange, Bool.and_eq_true, Bool.and_eq_true, decide_eq_true_eq, decide_eq_true_eq, hall, and_assoc]
  refine and_congr_right fun _ => and_congr_right fun hfits => ?_
  rw [capturedLength_steps hknown hfits]

theorem any_adjusted (raw : List RawStep) :
    (if raw.any RawStep.adjusted then Status.adjusted else .ok).code =
      if ∃ r ∈ raw, r.kind = 6 ∧ r.count = 0 then 1 else 0 := by
  have hany : raw.any RawStep.adjusted = true ↔ ∃ r ∈ raw, r.kind = 6 ∧ r.count = 0 := by
    simp [RawStep.adjusted]
  simp only [hany]
  split <;> rfl

theorem entryInUse_iff (s : State) (e : Fin 24) :
    entryInUse s e = true ↔ s.engine.state ≠ .idle ∧ s.engine.entry = some (some e) := by
  simp [entryInUse]

/-! ## The fields of a SERVICE reply (R130, R195) -/

theorem widthOf_code (word : Bool) : natByte (widthOf word) = if word then 2 else 1 := by cases word <;> rfl

theorem capturedLength_eq (steps : List Step) : capturedLength steps = (steps.map fun st =>
    match st with
    | .inp _ word => if word then 2 else 1
    | .inrep _ word times => times * (if word then 2 else 1)
    | .min _ times => times
    | _ => 0).sum := by
  refine congrArg List.sum (List.map_congr_left fun st _ => ?_)
  cases st <;> rfl

theorem engineFields_eq (g : Engine) : engineFields g = [g.state.code] ++
    (match g.source with
      | some (.lineSlot l n) => [0, natByte l.val, natByte n.val]
      | some (.timer n) => [1, natByte n.val, 0xFF]
      | _ => [0xFF, 0xFF, 0xFF]) ++
    [match g.entry with
      | some (some k) => natByte k.val
      | _ => 0xFF, natByte g.step] := by
  unfold engineFields
  cases g.source with
  | none => cases g.entry with
    | none => rfl
    | some e => cases e <;> rfl
  | some src =>
    cases src <;> cases g.entry with
    | none => rfl
    | some e => cases e <;> rfl

/-- Settles O44. -/
theorem serviceTableIsWritten : Obligations.ServiceTableIsWritten := by
  unfold Obligations.ServiceTableIsWritten
  refine ⟨fun tag entry record count bytes s hs hlong hnone => ?_,
    fun tag entry record count bytes raw s hs hlong hlength hknown hbytes => ?_, fun r => ?_, fun port times micros word v => ?_,
    capturedLength_eq, fun tag entry s hs h => ?_, fun tag e s x hs hx => ?_⟩
  · have hrefused := refuse_heard_of_listening hs 0x0F tag .badRequest
    rw [serviceWrite_answers hs tag entry record count hlong, serveServiceWrite]
    split
    · next raw hraw =>
      obtain ⟨hlength, hbytes⟩ := readSteps_eq_some hraw
      by_cases hknown : raw.all RawStep.known = true
      · rw [List.all_eq_true] at hknown
        exact absurd hbytes (hnone raw hlength fun r hr => (known_iff r).mp (hknown r hr))
      · rw [if_pos (by simpa using hknown)]
        exact congrArg _ hrefused
    · exact congrArg _ hrefused
  · have hall : raw.all RawStep.known = true := List.all_eq_true.mpr fun r hr => (known_iff r).mpr (hknown r hr)
    have hrange := refuse_heard_of_listening hs 0x0F tag .range
    rw [serviceWrite_answers hs tag entry record count hlong, serveServiceWrite, ← hlength, hbytes,
      readSteps_stepBytes]
    dsimp only
    rw [hall, if_neg (by decide)]
    refine ⟨fun hbad => congrArg _ ?_, fun e he hmost hfits hcaptures => congrArg _ ?_⟩
    · split
      · next e he =>
        have hout : stepsInRange raw = false := by
          rw [← Bool.not_eq_true, stepsInRange_iff hknown]
          rintro ⟨hmost, hfits, hcaptures⟩
          obtain h | h | ⟨r, hr, h⟩ | h := hbad
          · exact nomatch (indexBelow_of_le h).symm.trans he
          · omega
          · exact h (hfits r hr)
          · omega
        rw [hout, if_pos (by decide)]
        exact hrange
      · exact hrange
    · have hin : stepsInRange raw = true := (stepsInRange_iff hknown).mpr ⟨hmost, hfits, hcaptures⟩
      rw [indexBelow_of_toNat he]
      dsimp only
      rw [hin, if_neg (by decide)]
      by_cases huse : s.engine.state ≠ .idle ∧ s.engine.entry = some (some e)
      · rw [if_pos huse, if_pos (c := entryInUse (heard s) e = true) ((entryInUse_iff _ e).mpr huse)]
        exact refuse_heard_of_listening hs 0x0F tag .busy
      · rw [if_neg huse, if_neg (c := entryInUse (heard s) e = true) (mt (entryInUse_iff _ e).mp huse),
          reply_of_ready (by exact hs.1), any_adjusted]
        rfl
  · refine ⟨?_, ?_, ?_, ?_, ?_, ?_⟩ <;> intro hk <;> simp [RawStep.step, hk, stepValue]
  · simp only [Step.record, widthOf_code, and_self]
  · rw [serviceQuery_answers hs, serveServiceQuery, indexBelow_of_le h]
    exact congrArg _ (refuse_heard_of_listening hs 0x0F tag .range)
  · subst hx
    rw [serviceQuery_answers hs, serveServiceQuery, indexBelow_natByte (by decide) e]
    dsimp only
    rw [reply_heard_of_listening hs, serviceFields, engineFields_eq]
    simp only [List.append_assoc]
    rfl

end Sys2Proof.Machine
end

section
/-! PROOFS. O33: OPS frames, their checks and their acceptance. -/

namespace Sys2Proof.Machine

set_option Elab.async false

/-- The write data a header calls for is there (R67). -/
def DataWhole (r : RawOp) : Prop := r.data.length = writeBytes r.kind r.width r.times

/-! ## Operation records (R67, R195) -/

theorem readOps_opBytes {ops : List RawOp} (hdata : ∀ r ∈ ops, DataWhole r) :
    readOps ops.length (ops.map opBytes).flatten = some ops := by
  induction ops with
  | nil => rfl
  | cons r rest ih =>
    have hlength : r.data.length = writeBytes r.kind r.width r.times := hdata r List.mem_cons_self
    have htake (tail : List Byte) : (r.data ++ tail).take (writeBytes r.kind r.width r.times) = r.data :=
      hlength ▸ List.take_left
    have hdrop (tail : List Byte) : (r.data ++ tail).drop (writeBytes r.kind r.width r.times) = tail :=
      hlength ▸ List.drop_left
    have hroom (tail : List Byte) : ¬ (r.data ++ tail).length < writeBytes r.kind r.width r.times := by
      rw [List.length_append]
      omega
    simp only [List.map_cons, List.flatten_cons, opBytes, List.cons_append, List.nil_append, List.length_cons, readOps,
      htake, hdrop, hroom, if_false, ih fun x hx => hdata x (List.mem_cons_of_mem r hx)]

theorem readOps_eq_some {n : Nat} {bytes : List Byte} {ops : List RawOp} (h : readOps n bytes = some ops) :
    ops.length = n ∧ (∀ r ∈ ops, DataWhole r) ∧ bytes = (ops.map opBytes).flatten := by
  induction n, bytes using readOps.induct generalizing ops with
  | case1 =>
    obtain rfl := Option.some.inj h
    exact ⟨rfl, by simp, rfl⟩
  | case2 bytes hne => simp [readOps] at h
  | case3 =>
    rename_i hshort
    rw [readOps, if_pos hshort] at h
    exact nomatch h
  | case4 n kind width times step a0 a1 a2 a3 rest =>
    rename_i hroom ops' hrest ih
    rw [readOps, if_neg hroom, hrest] at h
    obtain rfl := Option.some.inj h
    obtain ⟨hlength, hdata, hbytes⟩ := ih hrest
    refine ⟨congrArg (· + 1) hlength, ?_, ?_⟩
    · rw [List.forall_mem_cons]
      exact ⟨List.length_take_of_le (Nat.le_of_not_lt hroom), hdata⟩
    · have hwhole : rest.take (writeBytes kind width times) ++ (ops'.map opBytes).flatten = rest :=
        hbytes ▸ List.take_append_drop _ rest
      simp only [List.map_cons, List.flatten_cons, opBytes, List.cons_append, List.nil_append, hwhole]
  | case5 =>
    rename_i hroom hrest ih
    rw [readOps, if_neg hroom, hrest] at h
    exact nomatch h
  | case6 n bytes hne => simp [readOps] at h

theorem writeBytes_eq (r : RawOp) : writeBytes r.kind r.width r.times =
    if r.kind = 2 ∨ r.kind = 4 then (if r.times = 0 then 256 else r.times.toNat) * r.width.toNat else 0 := by
  simp [writeBytes, repeatOf]

/-- Known codes and whole data, as the manual gives them. -/
theorem opWhole_iff (r : RawOp) : opWhole r ↔ r.known = true ∧ DataWhole r := by
  rw [opWhole, DataWhole, writeBytes_eq]
  have hknown : r.known = true ↔ 1 ≤ r.kind.toNat ∧ r.kind.toNat ≤ 7 ∧ (r.kind.toNat ≤ 4 → r.step.toNat ≤ 1) := by
    simp only [RawOp.known, RawOp.isAccess, Bool.and_eq_true, Bool.or_eq_true, Bool.not_eq_true', Bool.and_eq_false_iff,
      decide_eq_true_eq, decide_eq_false_iff_not]
    omega
  rw [hknown, and_assoc, and_assoc]

theorem parseOps_eq_some {payload : List Byte} {stop : Bool} {ops : List RawOp} :
    parseOps payload = some (stop, ops) ↔ SpellsOps payload stop ops := by
  constructor
  · intro h
    match payload, h with
    | flags :: count :: rest, h =>
      rw [parseOps] at h
      split at h
      · next hflags =>
        split at h
        · next ops' hops =>
          obtain ⟨hlength, hdata, hbytes⟩ := readOps_eq_some hops
          split at h
          · next hknown =>
            obtain ⟨rfl, rfl⟩ := Prod.mk.inj (Option.some.inj h)
            rw [List.all_eq_true] at hknown
            refine ⟨by omega, fun r hr => (opWhole_iff r).mpr ⟨hknown r hr, hdata r hr⟩, ?_⟩
            rw [hbytes, hlength, natByte, BitVec.ofNat_toNat]
            obtain rfl | rfl : flags = 0 ∨ flags = 1 := by simpa using hflags
            all_goals rfl
          · exact nomatch h
        · exact nomatch h
      · exact nomatch h
  · rintro ⟨hlength, hwhole, rfl⟩
    have hcount : (natByte ops.length).toNat = ops.length := by
      rw [natByte, BitVec.toNat_ofNat]
      omega
    have hread := readOps_opBytes fun r hr => ((opWhole_iff r).mp (hwhole r hr)).2
    have hknown : ops.all RawOp.known = true := List.all_eq_true.mpr fun r hr => ((opWhole_iff r).mp (hwhole r hr)).1
    rw [parseOps, hcount, hread]
    dsimp only
    rw [hknown]
    cases stop <;> rfl

theorem readBytes_opReads (r : RawOp) : r.readBytes = opReads r := by
  simp [RawOp.readBytes, opReads, repeatOf]

theorem op_inRange_iff {r : RawOp} (h : r.known = true) : r.inRange = true ↔ opFits r := by
  have hkind : r.kind = 1 ∨ r.kind = 2 ∨ r.kind = 3 ∨ r.kind = 4 ∨ r.kind = 5 ∨ r.kind = 6 ∨ r.kind = 7 := by
    simp only [RawOp.known, Bool.and_eq_true, decide_eq_true_eq] at h
    bv_omega
  obtain hk | hk | hk | hk | hk | hk | hk := hkind
  case inr.inr.inr.inr.inr.inr =>
    simp [RawOp.inRange, opFits, hk, RawOp.limit]
    exact fun _ => decide_eq_true_iff
  all_goals simp [RawOp.inRange, opFits, hk, widthOk_iff]

theorem opsInRange_iff {ops : List RawOp} (hknown : ∀ r ∈ ops, r.known = true) : opsInRange ops = true ↔ opsFit ops := by
  have hall : ops.all RawOp.inRange = true ↔ ∀ r ∈ ops, opFits r := by
    rw [List.all_eq_true]
    exact forall₂_congr fun r hr => op_inRange_iff (hknown r hr)
  have hsum : replySum ops = 2 + (ops.map fun r => 4 + opReads r).sum :=
    congrArg (2 + List.sum ·) (List.map_congr_left fun _ _ => congrArg (4 + ·) (readBytes_opReads _))
  simp only [opsInRange, opsFit, Bool.and_eq_true, decide_eq_true_eq, hall, hsum, and_assoc]

theorem newRecords_eq (id : Nat) : ∀ (k : Nat) (ops : List RawOp), newRecords id k ops = (ops.zipIdx k).map fun p =>
    { kind := p.1.op, frame := id, index := p.2, done := 0, cycles := 0, flags := noFlags, data := [] }
  | _, [] => rfl
  | k, _ :: rest => congrArg (_ :: ·) (newRecords_eq id (k + 1) rest)

/-! ## The request -/

@[simp] theorem heard_bus (s : State) : (heard s).bus = s.bus := rfl
@[simp] theorem heard_queue (s : State) : (heard s).queue = s.queue := rfl

theorem ops_answers {s : State} (hs : Listening s) (tag : Byte) {payload : List Byte} (hlong : payload.length ≤ 1024) :
    exec (.ops tag payload) s = .next (serveOps tag payload (heard s)) :=
  exec_row (i := .ops tag payload) hs rfl rfl (by decide) hlong

/-- Settles O33: the four passes of `checkOps` read the bytes exactly as `SpellsOps` writes them. -/
theorem opsFramesAreCheckedAndQueued : Obligations.OpsFramesAreCheckedAndQueued := by
  unfold Obligations.OpsFramesAreCheckedAndQueued
  refine ⟨fun tag payload s hs hlong hnone => ?_, fun tag payload stop ops s hs hlong hspelt => ?_, fun r => ?_⟩
  · rw [ops_answers hs tag hlong, serveOps, checkOps]
    cases hparse : parseOps payload with
    | none => exact congrArg _ (reply_heard_of_listening hs 0x08 tag .badRequest [0])
    | some p => exact absurd (parseOps_eq_some.mp hparse) (hnone p.1 p.2)
  · rw [ops_answers hs tag hlong, serveOps, checkOps, parseOps_eq_some.mpr hspelt]
    dsimp only
    obtain ⟨-, hwhole, -⟩ := hspelt
    have hin := opsInRange_iff fun r hr => ((opWhole_iff r).mp (hwhole r hr)).1
    refine ⟨fun hdead => ?_, fun hoff hdown hout => ?_, fun hoff hdown hfit hfull => ?_, fun hoff hdown hfit hroom => ?_⟩
    · have hrefused : ((s.bus.state == .off) || (s.bus.state == .down)) = true := by
        obtain h | h := hdead <;> rw [h] <;> rfl
      rw [heard_bus, hrefused]
      exact congrArg _ (reply_heard_of_listening hs 0x08 tag .badState [0])
    all_goals
      have hpassed : ((s.bus.state == .off) || (s.bus.state == .down)) = false := by simp [hoff, hdown]
      rw [heard_bus, hpassed]
    · rw [Bool.eq_false_iff.mpr (mt hin.mp hout)]
      exact congrArg _ (reply_heard_of_listening hs 0x08 tag .range [0])
    all_goals rw [hin.mpr hfit]
    · rw [if_neg (by decide), if_neg (by decide), if_pos (by rw [heard_queue]; have hsome := hfit.1; omega)]
      exact congrArg _ (reply_heard_of_listening hs 0x08 tag .busy [0])
    · rw [if_neg (by decide), if_neg (by decide), if_neg (by rw [heard_queue]; omega)]
      dsimp only
      simp only [acceptOps, newRecords_eq]
      have hadjusted : ops.any RawOp.adjusted = ops.any fun r => decide (r.kind = 6 ∧ r.address = 0) := by
        refine congrArg ops.any (funext fun r => ?_)
        simp [RawOp.adjusted]
      rw [hadjusted]
      rfl
  · refine ⟨?_, ?_, ?_, ?_, ?_, ?_, fun n hk hn => ?_⟩
    case refine_7 => simp [RawOp.op, hk, RawOp.limit, hn]
    all_goals intro hk; simp [RawOp.op, hk, repeatOf]

end Sys2Proof.Machine
end

section
/-! PROOFS. O41: the channel request lines. -/

namespace Sys2Proof.Machine

set_option Elab.async false

theorem attached_iff (s : State) (n : Fin 8) : attached s n = true ↔ s.slots[n].state = .attached := by
  rw [attached, beq_iff_eq]

theorem ownerRequests_driven (n : Fin 4) (slot : Fin 8) (s : State) : ownerRequests n (driveRequest n slot true s) =
    if s.channels[n].state = .running ∧ s.channels[n].mode = .block then
      { driveRequest n slot true s with channels := upd s.channels n fun c => { c with blockRun := true } }
    else driveRequest n slot true s := rfl

/-- What a release of the owner's request leaves of the arbiter's grants (R52, R59). -/
theorem released_eq (n : Fin 4) (t : State) : dropUnstartedGrant n t =
    { t with arb := (if t.arb.owner = .channel n ∧ t.planner.cycle = none ∧ channelClaims t n = false then
        { t.arb with owner := .none, hold := .none, holdEnding := false, burst := 0 }
      else t.arb) } := by
  have hidle : (!cycleRunning t) = true ↔ t.planner.cycle = none := by simp [cycleRunning]
  have hclaims : (!channelClaims t n) = true ↔ channelClaims t n = false := by simp
  unfold dropUnstartedGrant
  simp only [hidle, hclaims]
  split <;> rfl

/-- Settles O41. -/
theorem channelRequestsAreSeen : Obligations.ChannelRequestsAreSeen := by
  unfold Obligations.ChannelRequestsAreSeen
  refine ⟨fun n slot s h => ?_, fun n slot s driven h hdriven => ?_, fun n slot s h => ?_,
    fun n slot s driven h hdriven => ⟨fun hunseen => ?_, fun hat howner a ha => ?_⟩⟩
  · exact congrArg _ (if_pos h)
  · rw [hdriven]
    refine congrArg _ ((if_neg (by rw [h]; decide)).trans ?_)
    dsimp only
    by_cases hat : s.slots[slot].state = .attached
    · rw [if_pos ((attached_iff s slot).mpr hat), if_neg (not_not_intro hat)]
      split <;> rfl
    · rw [if_neg (mt (attached_iff s slot).mp hat), if_pos hat]
      rfl
  · exact congrArg _ (if_neg (by rw [h]; decide))
  · rw [hdriven]
    refine congrArg _ ((if_pos h).trans (if_neg ?_))
    rintro ⟨hat, howner⟩
    obtain h | h := hunseen
    · exact h ((attached_iff s slot).mp hat)
    · exact h howner
  · refine congrArg _ ((if_pos h).trans ((if_pos ⟨(attached_iff s slot).mpr hat, howner⟩).trans (congrArg settle ?_)))
    have hmaster : s.planner.master.isSome = false ↔ s.planner.master = none := by simp
    have hended : endCascade n (driveRequest n slot false s) = { driven with arb := a } := by
      rw [ha, hdriven, endCascade_eq]
      simp only [← hmaster]
      rfl
    rw [hended, released_eq, hdriven]

end Sys2Proof.Machine
end

section
/-! PROOFS. O2: the end of a microsecond. Each part of `tick` is one field's change and the commands that fall due. -/

namespace Sys2Proof.Machine

set_option Elab.async false

/-! ## The parts, one by one -/

/-- The pulse time left falls at the end of each millisecond (R41). -/
def pulsePassed (b : Bus) : Bus :=
  { b with
    pulseMicros := if b.state = .resetting then (if b.pulseMicros < 999 then b.pulseMicros + 1 else 0) else b.pulseMicros
    pulseLeft := if b.state = .resetting ∧ 999 ≤ b.pulseMicros then b.pulseLeft - 1 else b.pulseLeft }

/-- The supply's spell goes on (R45). -/
def supplyPassed (b : Bus) : Bus :=
  { b with supplyMicros := if b.supply = .low ∨ b.supply = .recovering then b.supplyMicros + 1 else b.supplyMicros }

/-- The refresh interval (R62). -/
def intervalPassed (b : BusState) (a : Arbiter) : Arbiter :=
  { a with interval :=
      if (b = .run ∨ b = .hold) ∧ a.intervalUse ≠ 0 then (if a.interval + 1 < a.intervalUse then a.interval + 1 else 0)
      else a.interval }

/-- The cascade hold timer (R58, R61). -/
def holdPassed (a : Arbiter) : Arbiter :=
  { a with timerElapsed := if a.timerChannel.isSome then min 10000 (a.timerElapsed + 1) else a.timerElapsed }

/-- The times a PAUSE and a WAIT_DMA have left (R75, R76). -/
def queuePassed (q : OpQueue) : OpQueue :=
  { q with
    pauseLeft := if q.state = .pausing then q.pauseLeft - 1 else q.pauseLeft
    waitLeft := if q.state = .waitingDma then q.waitLeft - 1 else q.waitLeft
    overtaken := false }

/-- A periodic timer (R146). -/
def timerPassed (b : BusState) (t : Timer) : Timer :=
  if t.running ∧ (b = .run ∨ b = .hold) then
    { t with elapsed := if t.elapsed + 1 < t.period * 10 then t.elapsed + 1 else 0 }
  else t

/-- The receiver's silence (R185). -/
def silencePassed (l : Link) : Link :=
  { l with silence :=
      if l.ready = true ∧ repliesIn l.tx < 16 ∧ l.rx.state ≠ .hunt then l.silence + 1 else l.silence }

/-- The cycles' phases: the planner's cycle and master alone, and the free values they use. -/
def cyclePassed (s : State) : State :=
  { s with planner := (tickCycle s).1.planner, choices := (tickCycle s).1.choices }

def masterPassed (s : State) : State :=
  { s with planner := (tickMaster s).1.planner, choices := (tickMaster s).1.choices }

/-- A command that falls due, or none. -/
def dueIf (due : Bool) (c : Instr) : List Instr := if due then [c] else []

theorem tickPulse_eq (s : State) : tickPulse s = ({ s with bus := pulsePassed s.bus },
    dueIf (s.bus.state = .resetting ∧ 999 ≤ s.bus.pulseMicros ∧ s.bus.pulseLeft ≤ 1) .pulseEnd) := by
  unfold tickPulse pulsePassed dueIf modBus
  by_cases hstate : s.bus.state = .resetting
  · by_cases hmore : s.bus.pulseMicros < 999
    · have hnot : ¬ 999 ≤ s.bus.pulseMicros := by omega
      simp [hstate, hmore, hnot]
    · have hlast : 999 ≤ s.bus.pulseMicros := by omega
      simp [hstate, hmore, hlast]
  · simp [hstate]

theorem tickSupply_eq (s : State) : tickSupply s = ({ s with bus := supplyPassed s.bus },
    dueIf (s.bus.supply = .low ∧ 2000 ≤ s.bus.supplyMicros) .supplyLost ++
      dueIf (s.bus.supply = .recovering ∧ 99999 ≤ s.bus.supplyMicros) .supplyRestored) := by
  have hlost : 2000 < s.bus.supplyMicros + 1 ↔ 2000 ≤ s.bus.supplyMicros := by omega
  have hrestored : 100000 ≤ s.bus.supplyMicros + 1 ↔ 99999 ≤ s.bus.supplyMicros := by omega
  have hstill : ∀ b : Bus, b.supply = .good ∨ b.supply = .lost → supplyPassed b = b := by
    rintro ⟨⟩ (rfl | rfl) <;> rfl
  unfold tickSupply
  dsimp only
  split
  case h_1 h => simp [h, supplyPassed, dueIf, modBus, hlost]
  case h_2 h => simp [h, supplyPassed, dueIf, modBus, hrestored]
  case h_3 h => rw [hstill _ (.inl h)]; simp [h, dueIf]
  case h_4 h => rw [hstill _ (.inr h)]; simp [h, dueIf]

theorem tickInterval_eq (s : State) : tickInterval s = ({ s with arb := intervalPassed s.bus.state s.arb },
    dueIf ((s.bus.state = .run ∨ s.bus.state = .hold) ∧ s.arb.intervalUse ≠ 0 ∧ s.arb.intervalUse ≤ s.arb.interval + 1)
      .refreshIntervalExpiry) := by
  unfold tickInterval intervalPassed dueIf modArb
  simp only [refreshing_iff, decide_eq_true_eq]
  by_cases hcounts : (s.bus.state = .run ∨ s.bus.state = .hold) ∧ s.arb.intervalUse ≠ 0
  · by_cases hmore : s.arb.interval + 1 < s.arb.intervalUse
    · have hnot : ¬ s.arb.intervalUse ≤ s.arb.interval + 1 := by omega
      simp [hcounts, hmore, hnot]
    · have hlast : s.arb.intervalUse ≤ s.arb.interval + 1 := by omega
      simp [hcounts, hmore, hlast]
  · rw [if_neg hcounts, if_neg hcounts, if_neg fun h => hcounts ⟨h.1, h.2.1⟩]

theorem tickHoldTimer_eq (s : State) : tickHoldTimer s = ({ s with arb := holdPassed s.arb },
    dueIf (s.arb.timerChannel ≠ none ∧ s.arb.timerLimit ≠ 0 ∧ s.arb.timerLimit * 10 ≤ min 10000 (s.arb.timerElapsed + 1))
      .holdTimerExpiry) := by
  unfold tickHoldTimer
  cases htimer : s.arb.timerChannel with
  | none =>
    have hstill : ∀ a : Arbiter, a.timerChannel = none → holdPassed a = a := by rintro ⟨⟩ rfl; rfl
    rw [hstill _ htimer]
    simp [dueIf]
  | some n => simp [dueIf, holdPassed, modArb, htimer]

theorem tickQueue_eq (s : State) : tickQueue s = ({ s with queue := queuePassed s.queue },
    dueIf (s.queue.state = .pausing ∧ s.queue.pauseLeft ≤ 1) .pauseExpiry ++
      dueIf (s.queue.state = .waitingDma ∧ s.queue.waitLeft ≤ 1) .waitDmaTimeout) := by
  unfold tickQueue queuePassed dueIf modQueue
  dsimp only
  split <;> simp [*]

theorem tickDelay_eq (s : State) : tickDelay s = ({ s with engine := { s.engine with
      delayLeft := if delaying s then s.engine.delayLeft - 1 else s.engine.delayLeft } },
    dueIf (delaying s = true ∧ s.engine.delayLeft ≤ 1) .delayExpiry) := by
  unfold tickDelay dueIf modEngine
  split <;> simp [*]

theorem tickTimer_eq (n : Fin 4) (s : State) : tickTimer n s = ({ s with timers := upd s.timers n (timerPassed s.bus.state) },
    dueIf (s.timers[n].running ∧ (s.bus.state = .run ∨ s.bus.state = .hold) ∧
      s.timers[n].period * 10 ≤ s.timers[n].elapsed + 1) (.timerExpiry n)) := by
  unfold tickTimer dueIf modTimer
  simp only [refreshing_iff, decide_eq_true_eq]
  by_cases hcounts : s.timers[n].running ∧ (s.bus.state = .run ∨ s.bus.state = .hold)
  · have hpassed (f : Timer → Timer) (h : f s.timers[n] = { s.timers[n] with
          elapsed := if s.timers[n].elapsed + 1 < s.timers[n].period * 10 then s.timers[n].elapsed + 1 else 0 }) :
        upd s.timers n f = upd s.timers n (timerPassed s.bus.state) := upd_congr (h.trans (if_pos hcounts).symm)
    rw [if_pos hcounts]
    by_cases hmore : s.timers[n].elapsed + 1 < s.timers[n].period * 10
    · rw [if_pos hmore, if_neg fun h => absurd h.2.2 (Nat.not_le.mpr hmore), hpassed _ (by rw [if_pos hmore])]
    · rw [if_neg hmore, if_pos ⟨hcounts.1, hcounts.2, Nat.le_of_not_lt hmore⟩, hpassed _ (by rw [if_neg hmore])]
  · have hstill : upd s.timers n (timerPassed s.bus.state) = s.timers := upd_of_eq (if_neg hcounts)
    rw [if_neg hcounts, if_neg fun h => hcounts ⟨h.1, h.2.1⟩, hstill]

theorem tickFill_eq (s : State) : tickFill s = (s, dueIf s.image.filling .fillStore) := rfl

theorem tickSilence_eq (s : State) : tickSilence s = ({ s with link := silencePassed s.link },
    dueIf (s.link.ready = true ∧ repliesIn s.link.tx < 16 ∧ s.link.rx.state ≠ .hunt ∧ 99999 ≤ s.link.silence) .receiverSilenceTimeout) := by
  have hheld : (!held s) = true ↔ repliesIn s.link.tx < 16 := by simp [held]
  have hlong : 100000 ≤ s.link.silence + 1 ↔ 99999 ≤ s.link.silence := by omega
  unfold tickSilence silencePassed dueIf modLink
  simp only [hheld, hlong, decide_eq_true_eq]
  by_cases hcounts : s.link.ready = true ∧ repliesIn s.link.tx < 16 ∧ s.link.rx.state ≠ .hunt
  · obtain ⟨hready, hroom, hhunt⟩ := hcounts
    simp [hready, hroom, hhunt]
  · rw [if_neg fun h => hcounts ⟨h.1, h.2.2, h.2.1⟩, if_neg hcounts, if_neg fun h => hcounts ⟨h.1, h.2.1, h.2.2.1⟩]

theorem tickCycle_eq (s : State) : tickCycle s = (cyclePassed s, []) := by
  unfold cyclePassed tickCycle
  split
  · split <;> rfl
  · rfl

theorem tickMaster_eq (s : State) : tickMaster s = (masterPassed s, []) := by
  unfold masterPassed tickMaster
  split <;> rfl

/-! ## The parts together -/

/-- The commands that can fall due, in the order of the parts. -/
def dueCommands : List Instr :=
  [.pulseEnd, .supplyLost, .supplyRestored, .refreshIntervalExpiry, .holdTimerExpiry, .pauseExpiry, .waitDmaTimeout,
    .delayExpiry, .timerExpiry 0, .timerExpiry 1, .timerExpiry 2, .timerExpiry 3, .fillStore, .receiverSilenceTimeout]

/-- Which of them fall due as a microsecond ends. -/
def fallsDue (s : State) : Instr → Bool
  | .pulseEnd => s.bus.state = .resetting ∧ 999 ≤ s.bus.pulseMicros ∧ s.bus.pulseLeft ≤ 1
  | .supplyLost => s.bus.supply = .low ∧ 2000 ≤ s.bus.supplyMicros
  | .supplyRestored => s.bus.supply = .recovering ∧ 99999 ≤ s.bus.supplyMicros
  | .refreshIntervalExpiry =>
    (s.bus.state = .run ∨ s.bus.state = .hold) ∧ s.arb.intervalUse ≠ 0 ∧ s.arb.intervalUse ≤ s.arb.interval + 1
  | .holdTimerExpiry =>
    s.arb.timerChannel ≠ none ∧ s.arb.timerLimit ≠ 0 ∧ s.arb.timerLimit * 10 ≤ min 10000 (s.arb.timerElapsed + 1)
  | .pauseExpiry => s.queue.state = .pausing ∧ s.queue.pauseLeft ≤ 1
  | .waitDmaTimeout => s.queue.state = .waitingDma ∧ s.queue.waitLeft ≤ 1
  | .delayExpiry => delaying s = true ∧ s.engine.delayLeft ≤ 1
  | .timerExpiry n => s.timers[n].running ∧ (s.bus.state = .run ∨ s.bus.state = .hold) ∧
      s.timers[n].period * 10 ≤ s.timers[n].elapsed + 1
  | .fillStore => s.image.filling
  | .receiverSilenceTimeout =>
    s.link.ready = true ∧ repliesIn s.link.tx < 16 ∧ s.link.rx.state ≠ .hunt ∧ 99999 ≤ s.link.silence
  | _ => false

/-- The counts and the phases a microsecond end moves. -/
def timePassed (s : State) : State :=
  let s1 := masterPassed (cyclePassed { s with timeBase := s.timeBase + 1, bus := supplyPassed (pulsePassed s.bus) })
  { s1 with
    arb := holdPassed (intervalPassed s.bus.state s.arb)
    queue := queuePassed s.queue
    engine := { s.engine with delayLeft := if delaying s then s.engine.delayLeft - 1 else s.engine.delayLeft }
    timers := upd (upd (upd (upd s.timers 0 (timerPassed s.bus.state)) 1 (timerPassed s.bus.state)) 2
      (timerPassed s.bus.state)) 3 (timerPassed s.bus.state)
    link := silencePassed s.link }

theorem filter_cons_dueIf (p : Instr → Bool) (c : Instr) (l : List Instr) :
    (c :: l).filter p = dueIf (p c) c ++ l.filter p := by
  rw [List.filter_cons, dueIf]
  split <;> rfl

theorem ticked_eq (s : State) : ticked s = (timePassed s, dueCommands.filter (fallsDue s)) := by
  simp only [ticked, tickParts, runParts, tickPulse_eq, tickSupply_eq, tickInterval_eq, tickHoldTimer_eq, tickQueue_eq,
    tickDelay_eq, tickTimer_eq, tickFill_eq, tickSilence_eq, tickCycle_eq, tickMaster_eq]
  refine Prod.ext rfl ?_
  simp only [dueCommands, filter_cons_dueIf, List.filter_nil, List.nil_append, List.append_nil, List.append_assoc]
  simp (disch := decide) only [upd_other]
  rfl

/-! ## The order in which they come -/

theorem insertAt_perm (c : Instr) : ∀ (l : List Instr) (k : Nat), (insertAt c l k).Perm (c :: l)
  | [], _ => .refl _
  | _ :: _, 0 => .refl _
  | d :: rest, k + 1 => ((insertAt_perm c rest k).cons d).trans (.swap c d rest)

theorem arrange_perm : ∀ (l : List Instr) (k : Nat), (arrange l k).Perm l
  | [], _ => .refl _
  | c :: rest, k => (insertAt_perm c _ _).trans ((arrange_perm rest (k + 1)).cons c)

theorem cyclePassed_planner (s : State) : (cyclePassed s).planner = { s.planner with cycle := (cyclePassed s).planner.cycle } := by
  unfold cyclePassed tickCycle
  split
  · split <;> rfl
  · rfl

theorem masterPassed_planner (s : State) : (masterPassed s).planner = { s.planner with master := (masterPassed s).planner.master } := by
  unfold masterPassed tickMaster
  split <;> rfl

theorem phasesPassed_planner (s : State) : (masterPassed (cyclePassed s)).planner = { s.planner with
    cycle := (masterPassed (cyclePassed s)).planner.cycle
    master := (masterPassed (cyclePassed s)).planner.master } := by
  have hcycle := cyclePassed_planner s
  have hmaster := masterPassed_planner (cyclePassed s)
  generalize (masterPassed (cyclePassed s)).planner = q at *
  generalize (cyclePassed s).planner = p at *
  rw [hmaster, hcycle]

theorem mapped_timers (f : Timer → Timer) (ts : Vector Timer 4) (n : Fin 4) :
    (upd (upd (upd (upd ts 0 f) 1 f) 2 f) 3 f)[n] = f ts[n] := by
  match n with
  | 0 | 1 | 2 | 3 => simp (disch := decide) only [upd_self, upd_other]

/-- A microsecond ends on an empty queue. -/
theorem tick_of_empty {s : State} (h : s.pending = []) : tick s = { timePassed s with
    pending := arrange (dueCommands.filter (fallsDue s)) (timePassed s).choices
    choices := (timePassed s).choices + (dueCommands.filter (fallsDue s)).length } := by
  have hpending : (timePassed s).pending = [] := h
  rw [tick_eq, ticked_eq]
  dsimp only
  rw [hpending, List.nil_append]

theorem mem_arrange_due {s : State} {c : Instr} (hc : c ∈ dueCommands) (k : Nat) :
    c ∈ arrange (dueCommands.filter (fallsDue s)) k ↔ fallsDue s c = true := by
  rw [(arrange_perm _ _).mem_iff, List.mem_filter]
  exact and_iff_right hc

/-- Settles O2: the parts move the counts, and the commands that fall due come in some order. -/
theorem emptyQueueEndsMicrosecond : Obligations.EmptyQueueEndsMicrosecond := by
  unfold Obligations.EmptyQueueEndsMicrosecond
  intro s
  have hstep : step { s with pending := [] } = _ := congrArg Host.Outcome.next (tick_of_empty (s := { s with pending := [] }) rfl)
  have hdue {c : Instr} (hc : c ∈ dueCommands) := mem_arrange_due (s := { s with pending := [] }) hc
  have hperm := arrange_perm (dueCommands.filter (fallsDue { s with pending := [] }))
  refine ⟨_, hstep, ?_, rfl, ?_, rfl, rfl, rfl, rfl, ?_, rfl, ?_, ?_, ?_, ?_, ?_, ?_, ?_, ?_, ?_, ?_, ?_, ?_, ?_⟩
  · intro f hf
    cases f <;> first | rfl | exact absurd (by decide) hf
  · exact phasesPassed_planner _
  · exact fun n => mapped_timers (timerPassed s.bus.state) s.timers n
  case refine_12 => exact (fun n => (hdue (by match n with | 0 | 1 | 2 | 3 => decide) _).trans decide_eq_true_iff)
  case refine_13 => exact hdue (by decide) _
  case refine_14 =>
    refine (hdue (by decide) _).trans (Iff.trans ?_ and_assoc.symm)
    exact decide_eq_true_iff
  case refine_15 => exact (hperm _).nodup_iff.mpr ((by decide : dueCommands.Nodup).filter _)
  case refine_16 => exact fun c hc => (List.mem_filter.mp ((hperm _).mem_iff.mp hc)).1
  all_goals
    refine (hdue (by decide) _).trans ?_
    exact decide_eq_true_iff

end Sys2Proof.Machine
end

section
/-! PROOFS. O4: the phases of a cycle and the outputs that follow; with the bytes the part sees of the slots. -/

namespace Sys2Proof.Machine

set_option Elab.async false

/-! ## The bytes the part sees (R2, R18, R27, R94 to R96) -/

theorem slotByte_eq (s : State) (lines : CardLines) (n : Fin 8) : slotByte s lines n = lowSeen s lines n := by
  unfold slotByte seenLines lowSeen
  simp only [attached_iff]
  split
  · split
    · rfl
    · generalize lines[n] = w
      ext k hk
      interval_cases k <;> simp [byte0, BitVec.getElem_extractLsb']
  · rfl

theorem byte1_seenLines (s : State) (lines : CardLines) (n : Fin 8) :
    byte1 (seenLines s lines n) = highSeen s lines n := by
  unfold seenLines highSeen
  simp only [attached_iff]
  by_cases hat : s.slots[n].state = .attached
  · by_cases hwide : s.slots[n].wide = true
    · rw [if_pos hat, if_pos hwide, if_pos ⟨hat, hwide⟩]
    · rw [if_pos hat, if_neg hwide, if_neg fun h => hwide h.2]
      generalize lines[n] = w
      ext k hk
      interval_cases k <;> simp [byte1, BitVec.getElem_extractLsb']
  · rw [if_neg hat, if_neg fun h => hat h.1]
    rfl

theorem getLsbD_foldl_and (members : Vector Bool 8) (f : Fin 8 → Byte) (k : Nat) : ∀ (l : List (Fin 8)) (b : Byte),
    (l.foldl (fun b n => if members[n] then b &&& f n else b) b).getLsbD k = true ↔
      b.getLsbD k = true ∧ ∀ n ∈ l, members[n] = true → (f n).getLsbD k = true
  | [], b => by simp
  | n :: rest, b => by
    rw [List.foldl_cons, getLsbD_foldl_and members f k rest]
    cases hn : members[n] <;> simp [hn, and_assoc, -Fin.getElem_fin]

theorem andSamples_iff (s : State) (lines : CardLines) (members : Vector Bool 8) {k : Nat} (hk : k < 8) :
    (andSamples s lines members).getLsbD k = true ↔
      ∀ n : Fin 8, members[n] = true → (lowSeen s lines n).getLsbD k = true := by
  have hall (n : Fin 8) : n ∈ allSlots := by revert n; decide
  have hones : (0xFF : Byte).getLsbD k = true := by interval_cases k <;> rfl
  rw [andSamples, getLsbD_foldl_and]
  simp only [slotByte_eq, hones, true_and, hall, true_implies]

/-- The bytes the memory side of a read cycle gives, as the statements say it. -/
theorem memoryGives (s : State) (lines : CardLines) (c : Cycle) :
    MemoryGives s lines c (memoryBytes s lines c).1 (memoryBytes s lines c).2 := by
  unfold MemoryGives memoryBytes
  cases c.target with
  | slot n => exact ⟨slotByte_eq .., congrArg (fun b => if c.wide then b else 0xFF) (byte1_seenLines s lines n)⟩
  | image => exact ⟨rfl, rfl⟩
  | all => exact ⟨fun k hk => andSamples_iff s lines c.members hk, rfl⟩

theorem internal_iff {c : Cycle} {side : CardSide} (h : c.cardSide = some side) :
    c.internal = true ↔ c.target = .slot side.owner ∧ side.direction ≠ .verify := by
  rw [Cycle.internal, h]
  simp

/-- The bytes a cycle carries, as the statements say it. -/
theorem carriedBytes_carries (s : State) (lines : CardLines) (c : Cycle) (timedOut : Bool) :
    Carries s lines c timedOut (carriedBytes s lines c timedOut).1 (carriedBytes s lines c timedOut).2 := by
  have hlost : (timedOut && !c.write) = true ↔ timedOut = true ∧ c.write = false := by simp
  unfold Carries carriedBytes
  simp only [hlost]
  split
  · exact ⟨rfl, rfl⟩
  · unfold movedBytes
    cases hside : c.cardSide with
    | none =>
      dsimp only
      split
      · exact ⟨rfl, rfl⟩
      · exact memoryGives s lines c
    | some side =>
      simp only [internal_iff hside]
      split
      · exact ⟨rfl, rfl⟩
      · cases side.direction with
        | verify => exact ⟨rfl, rfl⟩
        | fromCard =>
          dsimp only [ownerBytes]
          have hlow : byte0 (seenLines s lines side.owner) = lowSeen s lines side.owner := slotByte_eq s lines side.owner
          rw [hlow, byte1_seenLines]
          cases c.wide <;> cases c.highByte <;> exact ⟨rfl, rfl⟩
        | toCard =>
          dsimp only
          split
          · exact ⟨rfl, rfl⟩
          · exact memoryGives s lines c

/-! ## The phases (R1, R14) -/

theorem canHold_iff (s : State) (c : Cycle) : canHold s c = true ↔ CanWait s c := by
  have hside : (match c.cardSide with
      | some side => attached s side.owner
      | none => false) = true ↔ ∃ side, c.cardSide = some side ∧ s.slots[side.owner].state = .attached := by
    cases c.cardSide <;> simp [attached_iff, -Fin.getElem_fin]
  have htarget : (match c.target with
      | .slot n => attached s n
      | .all => allSlots.any fun n => c.members[n] && attached s n
      | .image => false) = true ↔ ∃ n : Fin 8, s.slots[n].state = .attached ∧
        (c.target = .slot n ∨ (c.target = .all ∧ c.members[n] = true)) := by
    have hall (n : Fin 8) : n ∈ allSlots := by revert n; decide
    cases c.target <;> simp [attached_iff, hall, and_comm, -Fin.getElem_fin]
  unfold canHold
  rw [Bool.or_eq_true]
  refine (or_congr htarget hside).trans ⟨?_, ?_⟩
  · rintro (⟨n, hat, h | h⟩ | ⟨side, hc, hat⟩)
    · exact ⟨n, hat, .inl h⟩
    · exact ⟨n, hat, .inr (.inl h)⟩
    · exact ⟨side.owner, hat, .inr (.inr ⟨side, hc, rfl⟩)⟩
  · rintro ⟨n, hat, h | h | ⟨side, hc, rfl⟩⟩
    · exact .inl ⟨n, hat, .inl h⟩
    · exact .inl ⟨n, hat, .inr h⟩
    · exact .inr ⟨side, hc, hat⟩

/-- The time a cycle or a master's strobe has lasted (log entry 7). -/
theorem timeSpent_spec (spent : Option Nat) (clock : Nat) (s : State) : match spent with
    | none => timeSpent spent clock s ≤ clock
    | some before => timeSpent spent clock s = before + clock := by
  cases spent with
  | none => exact Nat.le_of_lt_succ (Nat.mod_lt _ (Nat.succ_pos _))
  | some k => rfl

/-- What a microsecond leaves of a cycle's phase and WAIT clocks (R1, R14, R63). -/
theorem after_spec (s : State) (c : Cycle) (k : Nat) :
    c.after s k = { c with spent := some k, phase := (c.after s k).phase, waits := (c.after s k).waits } ∧
    (k / 2 = 0 → (c.after s k).phase = .setup ∧ (c.after s k).waits = c.waits) ∧
    (0 < k / 2 → k / 2 < c.strobeEnd → (c.after s k).phase = .strobe ∧ (c.after s k).waits = c.waits) ∧
    (c.strobeEnd ≤ k / 2 → c.kind = .refresh → (c.after s k).phase = .recovery ∧ (c.after s k).waits = c.waits) ∧
    (c.strobeEnd ≤ k / 2 → c.kind ≠ .refresh → CanWait s c →
      (c.after s k).phase = .wait ∧ (c.after s k).waits = min c.limit (k / 2 - c.strobeEnd)) ∧
    (c.strobeEnd ≤ k / 2 → c.kind ≠ .refresh → ¬ CanWait s c →
      (c.after s k).phase = (if c.phase = .wait then .wait else .strobe) ∧ (c.after s k).waits = c.waits) := by
  have hpos : 0 < c.strobeEnd := by
    unfold Cycle.strobeEnd
    split <;> omega
  have hwait := canHold_iff s c
  unfold Cycle.after
  dsimp only
  by_cases hnone : k / 2 = 0
  · rw [if_pos hnone]
    refine ⟨rfl, fun _ => ⟨rfl, rfl⟩, ?_, ?_, ?_, ?_⟩ <;> intros <;> omega
  rw [if_neg hnone]
  by_cases hstrobe : k / 2 < c.strobeEnd
  · rw [if_pos hstrobe]
    refine ⟨rfl, fun h => absurd h hnone, fun _ _ => ⟨rfl, rfl⟩, ?_, ?_, ?_⟩ <;> intros <;> omega
  rw [if_neg hstrobe]
  by_cases hrefresh : c.kind = .refresh
  · rw [if_pos hrefresh]
    exact ⟨rfl, fun h => absurd h hnone, fun _ h => absurd h hstrobe, fun _ _ => ⟨rfl, rfl⟩,
      fun _ h => absurd hrefresh h, fun _ h => absurd hrefresh h⟩
  rw [if_neg hrefresh]
  by_cases hcan : canHold s c = true
  · rw [if_pos hcan]
    exact ⟨rfl, fun h => absurd h hnone, fun _ h => absurd h hstrobe, fun _ h => absurd h hrefresh,
      fun _ _ _ => ⟨rfl, rfl⟩, fun _ _ h => absurd (hwait.mp hcan) h⟩
  · rw [if_neg hcan]
    exact ⟨rfl, fun h => absurd h hnone, fun _ h => absurd h hstrobe, fun _ h => absurd h hrefresh,
      fun _ _ h => absurd (hwait.mpr h) hcan, fun _ _ _ => ⟨rfl, rfl⟩⟩

/-- The cycle and the master cycle of the planner as a microsecond ends on an empty queue. -/
theorem step_empty_cycle {s t : State} (h : step { s with pending := [] } = .next t) :
    t.planner.cycle = (tickCycle { s with
      pending := [], timeBase := s.timeBase + 1, bus := supplyPassed (pulsePassed s.bus) }).1.planner.cycle := by
  obtain rfl := Host.Outcome.next.inj h
  rw [tick_of_empty rfl]
  have hmaster (x : State) : (masterPassed x).planner.cycle = x.planner.cycle := by rw [masterPassed_planner]
  exact hmaster _

theorem step_empty_master {s t : State} (h : step { s with pending := [] } = .next t) : ∃ x : State,
    x.planner.master = s.planner.master ∧ x.bus.clock = s.bus.clock ∧
    t.planner.master = (tickMaster x).1.planner.master := by
  obtain rfl := Host.Outcome.next.inj h
  rw [tick_of_empty rfl]
  refine ⟨cyclePassed { s with
    pending := [], timeBase := s.timeBase + 1, bus := supplyPassed (pulsePassed s.bus) }, ?_, rfl, rfl⟩
  rw [cyclePassed_planner]

theorem tickCycle_cycle {s : State} {c : Cycle} (hc : s.planner.cycle = some c) (hphase : c.phase ≠ .recovery) :
    (tickCycle s).1.planner.cycle = some (c.after s (timeSpent c.spent c.clock s)) := by
  unfold tickCycle
  rw [hc]
  dsimp only
  rw [if_neg hphase]
  rfl

theorem tickCycle_still {s : State} (h : ∀ c, s.planner.cycle = some c → c.phase = .recovery) :
    (tickCycle s).1.planner.cycle = s.planner.cycle := by
  unfold tickCycle
  split
  · next c hc => rw [if_pos (h c hc)]
  · rfl

theorem tickMaster_master {s : State} {m : MasterCycle} (hm : s.planner.master = some m) :
    (tickMaster s).1.planner.master = some { m with spent := some (timeSpent m.spent s.bus.clock s) } := by
  unfold tickMaster
  rw [hm]
  rfl

theorem sBase_eq (space : Space) (wide : Bool) :
    sBase space wide = if wide then 1 else if space = .mem then 3 else 4 := by
  cases wide <;> cases space <;> rfl

/-! ## The outputs -/

theorem strobe_iff (c : Cycle) (x : Strobe) : c.strobe = some x ↔ c.kind ≠ .refresh ∧
    (∀ side, c.cardSide = some side → side.direction ≠ .verify) ∧ x = (match c.space, c.write with
      | .mem, false => .mrd
      | .mem, true => .mwr
      | .io, false => .iord
      | .io, true => .iowr) := by
  have hverify : (c.cardSide.any fun x => x.direction == .verify) = true ↔
      ¬ ∀ side, c.cardSide = some side → side.direction ≠ .verify := by
    cases c.cardSide <;> simp
  unfold Cycle.strobe
  simp only [hverify]
  split
  · next hsilent =>
    simp only [reduceCtorEq, false_iff]
    rintro ⟨hkind, hdirection, -⟩
    obtain h | h := hsilent
    · exact hkind h
    · exact h hdirection
  · next hstrobe =>
    obtain ⟨hkind, hdirection⟩ := not_or.mp hstrobe
    rw [not_not] at hdirection
    cases c.space <;> cases c.write <;>
      exact ⟨fun h => ⟨hkind, hdirection, (Option.some.inj h).symm⟩, fun ⟨_, _, h⟩ => congrArg some h.symm⟩

theorem masterDrives_iff (m : MasterCycle) : m.drives = true ↔
    m.found.target = .image ∧ m.write = false ∧ m.found.extra ≤ m.spent.getD 0 / 2 := by
  simp [MasterCycle.drives, and_assoc]

section drives

variable (s : State) (lines : CardLines) (n : Fin 8) {c : Cycle} {side : CardSide}

theorem partakes_iff (c : Cycle) (n : Fin 8) : (c.write && ((c.target == .slot n) || c.members[n])) = true ↔
    c.write = true ∧ (c.target = .slot n ∨ c.members[n] = true) := by
  rw [Bool.and_eq_true, Bool.or_eq_true, beq_iff_eq]

/-- A write's data at its target, or at every slot that takes part (R1, R2, R17). -/
theorem drives_of_no_side (h : c.cardSide = none) : c.drives s lines n =
    if c.write = true ∧ (c.target = .slot n ∨ c.members[n] = true) then
      some ((if c.wide then c.writeHigh else 0xFF) ++ c.writeLow)
    else none := by
  have hin : c.internal = false := by rw [Cycle.internal, h]
  unfold Cycle.drives
  rw [h, hin]
  simp only [Option.any_none, Option.isSome_none, Bool.and_false, Bool.false_and, Bool.or_false, Bool.false_eq_true,
    if_false, partakes_iff]
  by_cases hwrite : c.write = true
  · have hmoved : movedBytes s lines c = (c.writeLow, if c.wide then c.writeHigh else 0xFF) := by
      rw [movedBytes, h]
      exact if_pos hwrite
    rw [hmoved]
    cases c.wide <;> rfl
  · rw [if_neg fun h => hwrite h.1, if_neg fun h => hwrite h.1]

/-- The bytes a transfer's cycle passes on (R94). -/
def passedBytes (s : State) (lines : CardLines) (c : Cycle) (side : CardSide) : Byte × Byte :=
  if c.phase = .recovery ∧ side.direction = .toCard then (c.readLow, c.readHigh) else movedBytes s lines c

variable (h : c.cardSide = some side)
include h

/-- What a transfer's cycle drives (R93 to R96). -/
theorem drives_of_side : c.drives s lines n =
    if (c.target = .slot side.owner ∧ side.direction ≠ .verify) ∨ c.phase = .setup then none
    else if side.owner = n ∧ side.direction = .toCard then
      some (if c.wide then (passedBytes s lines c side).2 ++ (passedBytes s lines c side).1
        else if c.highByte then (passedBytes s lines c side).1 ++ (0xFF : Byte)
        else (0xFF : Byte) ++ (passedBytes s lines c side).1)
    else if c.write = true ∧ (c.target = .slot n ∨ c.members[n] = true) then
      some (if c.wide then (passedBytes s lines c side).2 ++ (passedBytes s lines c side).1
        else (0xFF : Byte) ++ (passedBytes s lines c side).1)
    else none := by
  have hpassed : (if (c.phase == .recovery) && (c.cardSide.any fun x => x.direction == .toCard) then
      (c.readLow, c.readHigh) else movedBytes s lines c) = passedBytes s lines c side := by
    simp [passedBytes, h]
  have hsilent : (c.internal || (c.cardSide.isSome && (c.phase == .setup))) = true ↔
      (c.target = .slot side.owner ∧ side.direction ≠ .verify) ∨ c.phase = .setup := by
    rw [Bool.or_eq_true, internal_iff h, h]
    simp
  have howner : (c.cardSide.any fun x => (x.owner == n) && (x.direction == .toCard)) = true ↔
      side.owner = n ∧ side.direction = .toCard := by
    rw [h]
    simp
  unfold Cycle.drives
  dsimp only
  rw [hpassed]
  simp only [hsilent, howner, partakes_iff]
  cases c.wide <;> rfl

theorem drives_none (hnone : c.phase = .setup ∨ (side.direction = .verify ∧ c.write = false) ∨
    (side.direction ≠ .verify ∧ c.target = .slot side.owner)) : c.drives s lines n = none := by
  rw [drives_of_side s lines n h]
  obtain hsetup | ⟨hverify, hwrite⟩ | ⟨hmoves, htarget⟩ := hnone
  · exact if_pos (.inr hsetup)
  · simp [hverify, hwrite]
  · exact if_pos (.inl ⟨htarget, hmoves⟩)

theorem drives_fromCard (hphase : c.phase ≠ .setup) (htarget : c.target ≠ .slot side.owner)
    (hdirection : side.direction = .fromCard) : c.drives s lines n =
      if c.write = true ∧ (c.target = .slot n ∨ c.members[n] = true) then
        some (if c.wide then highSeen s lines side.owner ++ lowSeen s lines side.owner
          else (0xFF : Byte) ++ (if c.highByte then highSeen s lines side.owner else lowSeen s lines side.owner))
      else none := by
  have hin : ¬ c.internal = true := fun hin => htarget ((internal_iff h).mp hin).1
  have hmoved : passedBytes s lines c side = ownerBytes (seenLines s lines side.owner) c := by
    rw [passedBytes, if_neg (by simp [hdirection]), movedBytes, h]
    dsimp only
    rw [if_neg hin, hdirection]
  have hlow : byte0 (seenLines s lines side.owner) = lowSeen s lines side.owner := slotByte_eq s lines side.owner
  rw [drives_of_side s lines n h, if_neg (not_or.mpr ⟨fun h => htarget h.1, hphase⟩),
    if_neg (fun hto => absurd (hdirection.symm.trans hto.2) (by decide)), hmoved, ownerBytes, hlow, byte1_seenLines]
  cases c.wide <;> cases c.highByte <;> rfl

theorem drives_toCard_other (hdirection : side.direction = .toCard) (hwrite : c.write = false) (hother : side.owner ≠ n) :
    c.drives s lines n = none := by
  rw [drives_of_side s lines n h]
  simp [hdirection, hwrite, hother]

theorem drives_toCard_owner (hphase : c.phase ≠ .setup) (htarget : c.target ≠ .slot side.owner)
    (hdirection : side.direction = .toCard) (hn : side.owner = n) : ∃ b0 b1 : Byte,
      (if c.phase = .recovery ∨ c.target = .image then b0 = c.readLow ∧ (c.wide = true → b1 = c.readHigh)
        else MemoryGives s lines c b0 b1) ∧
      c.drives s lines n = some
        (if c.wide then b1 ++ b0 else if c.highByte then b0 ++ (0xFF : Byte) else (0xFF : Byte) ++ b0) := by
  have hin : ¬ c.internal = true := fun hin => htarget ((internal_iff h).mp hin).1
  refine ⟨(passedBytes s lines c side).1, (passedBytes s lines c side).2, ?_, ?_⟩
  · by_cases hheld : c.phase = .recovery
    · rw [if_pos (.inl hheld), passedBytes, if_pos ⟨hheld, hdirection⟩]
      exact ⟨rfl, fun _ => rfl⟩
    · have hpassed : passedBytes s lines c side = if c.target = .image then
          (c.readLow, if c.wide then c.readHigh else 0xFF) else memoryBytes s lines c := by
        rw [passedBytes, if_neg fun hto => hheld hto.1, movedBytes, h]
        dsimp only
        rw [if_neg hin, hdirection]
      rw [hpassed]
      by_cases himage : c.target = .image
      · rw [if_pos (.inr himage), if_pos himage]
        exact ⟨rfl, fun hwide => if_pos hwide⟩
      · rw [if_neg (not_or.mpr ⟨hheld, himage⟩), if_neg himage]
        exact memoryGives s lines c
  · rw [drives_of_side s lines n h, if_neg (not_or.mpr ⟨fun h => htarget h.1, hphase⟩), if_pos ⟨hn, hdirection⟩]

end drives

/-- Settles O4. -/
theorem phasesPassWithTime : Obligations.PhasesPassWithTime := by
  unfold Obligations.PhasesPassWithTime
  refine ⟨fun s c t hc hphase h => ?_, fun s t hnone h => ?_, fun s t m hm h => ?_, fun s x => ?_, fun s => ?_,
    fun s lines n m hcycle hm hat => ?_, fun s n => ⟨?_, ?_, ?_, ?_, ?_, ?_, ?_, ?_, ?_, ?_⟩⟩
  · have hd := (step_empty_cycle h).trans (tickCycle_cycle (by exact hc) hphase)
    generalize hx : ({ s with pending := [], timeBase := s.timeBase + 1, bus := supplyPassed (pulsePassed s.bus) } : State) = x at hd
    have hcan : CanWait x c = CanWait s c := by rw [← hx]; rfl
    have hspec := after_spec x c (timeSpent c.spent c.clock x)
    rw [hcan] at hspec
    refine ⟨timeSpent c.spent c.clock x, _, c.strobeEnd, ?_, rfl, ?_, _, hd, hspec⟩
    · have hk := timeSpent_spec c.spent c.clock x
      cases hspent : c.spent <;> rw [hspent] at hk <;> exact hk
    · rw [Cycle.strobeEnd, sBase_eq]
  · exact (step_empty_cycle h).trans (tickCycle_still (by exact hnone))
  · obtain ⟨x, hmaster, hclock, ht⟩ := step_empty_master h
    refine ⟨_, ht.trans (tickMaster_master (hmaster.trans hm)), ?_⟩
    have hk := timeSpent_spec m.spent x.bus.clock x
    rw [← hclock]
    cases hspent : m.spent <;> rw [hspent] at hk <;> exact hk
  · unfold pinStrobe
    cases s.planner.cycle with
    | none => simp
    | some c =>
      dsimp only
      constructor
      · intro h
        split at h
        · next hphase =>
          obtain ⟨hkind, hdirection, hx⟩ := (strobe_iff c x).mp h
          exact ⟨c, rfl, hphase, hkind, hdirection, hx⟩
        · exact nomatch h
      · rintro ⟨d, hd, hphase, hstrobe⟩
        obtain rfl := Option.some.inj hd
        rw [if_pos hphase]
        exact (strobe_iff _ x).mpr hstrobe
  · cases hc : s.planner.cycle <;> simp [pinRefresh, hc]
  · rw [pinData, if_pos ((attached_iff s n).mpr hat), hcycle, hm]
    dsimp only
    have hdrives : (m.drives && (m.slot == n)) = true ↔
        m.slot = n ∧ m.found.target = .image ∧ m.write = false ∧ m.found.extra ≤ m.spent.getD 0 / 2 := by
      rw [Bool.and_eq_true, masterDrives_iff, beq_iff_eq, and_comm]
    simp only [hdrives]
  · cases hbus : s.bus.state <;> simp [pinCardReset, hbus, BusState.live]
  · rfl
  · exact attached_iff s n
  · cases hc : s.planner.cycle with
    | none => simp [pinTerminalCount, hc]
    | some c => cases hside : c.cardSide <;> simp [pinTerminalCount, hc, hside]
  · rintro ⟨k, hk⟩
    rw [pinAddress, hk]
  · intro hno
    unfold pinAddress
    split
    · next k hk => exact absurd hk (hno k)
    · rfl
  · intro k
    have hcycle : (s.planner.cycle.any fun c => (c.initiator == .channel k) && (c.cardSide.any fun x => x.owner == n)) = true ↔
        ∃ c side, s.planner.cycle = some c ∧ c.initiator = .channel k ∧ c.cardSide = some side ∧ side.owner = n := by
      cases hc : s.planner.cycle with
      | none => simp
      | some c => cases hside : c.cardSide <;> simp [hside]
    rw [pinGrant, Bool.and_eq_true, Bool.or_eq_true, Bool.and_eq_true, beq_iff_eq, beq_iff_eq, hcycle, attached_iff]
  · exact fun lines hat => if_neg (mt (attached_iff s n).mp hat)
  · intro lines hc hm
    rw [pinData, hc, hm, ite_self]
  · intro lines c hc hat
    have hdata : pinData s lines n = c.drives s lines n := by
      rw [pinData, if_pos ((attached_iff s n).mpr hat), hc]
    rw [hdata]
    refine ⟨drives_of_no_side s lines n, fun side hside => ⟨drives_none s lines n hside, drives_fromCard s lines n hside,
      fun hphase htarget hdirection hwrite => ⟨drives_toCard_other s lines n hside hdirection hwrite, fun hn => ?_⟩⟩⟩
    exact drives_toCard_owner s lines n hside hphase htarget hdirection hn

end Sys2Proof.Machine
end

section
/-! PROOFS. O25: a cycle takes its data. -/

namespace Sys2Proof.Machine

set_option Elab.async false

theorem internal_any (c : Cycle) : c.internal =
    c.cardSide.any fun side => decide (c.target = .slot side.owner ∧ side.direction ≠ .verify) := by
  unfold Cycle.internal
  cases c.cardSide with
  | none => rfl
  | some side => simp [Bool.decide_and, bne, beq_eq_decide]

theorem showsUnclaimed_eq (c : Cycle) : c.showsUnclaimed =
    (c.unclaimed && !(c.cardSide.any fun x => decide (x.direction = .verify))) := by
  unfold Cycle.showsUnclaimed
  cases c.cardSide with
  | none => simp
  | some side => rfl

theorem slot?_eq (target : CycleTarget) : target.slot? = match target with
    | .slot n => some n
    | _ => none := by cases target <;> rfl

theorem probeSamples_get (s : State) (lines : CardLines) (c : Cycle) (timedOut : Bool) (n : Fin 8) :
    (probeSamples s lines c timedOut)[n] =
      if timedOut = false ∧ c.members[n] = true then lowSeen s lines n else 0xFF := by
  have hsampled : (!timedOut && c.members[n]) = true ↔ timedOut = false ∧ c.members[n] = true := by
    rw [Bool.and_eq_true, Bool.not_eq_true']
  have hget : (probeSamples s lines c timedOut)[n] = if !timedOut && c.members[n] then slotByte s lines n else 0xFF :=
    Vector.getElem_ofFn n.isLt
  rw [hget, slotByte_eq]
  simp only [hsampled]

theorem waitable_iff (c : Cycle) (waits : Nat) : (if c.waitable then min waits c.limit else 0) =
    if c.target = .image ∧ c.cardSide = none then 0 else min waits c.limit := by
  have hwaits : c.waitable = true ↔ ¬ (c.target = .image ∧ c.cardSide = none) := by
    unfold Cycle.waitable
    cases c.cardSide <;> simp
  simp only [hwaits, ite_not]

/-- The cycle's bytes stored, if it writes an image window. -/
def storedCells (s : State) (c : Cycle) (b0 b1 : Byte) : List Host.Cell :=
  if c.write = true ∧ c.target = .image ∧ c.readOnly = false then
    writeBytesAt s.image.cells c.imageOffset (if c.wide then [b0, b1] else [b0])
  else s.image.cells

theorem readByte_storedCells {s : State} {c : Cycle} (b0 b1 : Byte) (hwf : ImageCanonical s) (hwrite : c.write = true)
    (himage : c.target = .image) (hopen : c.readOnly = false) (x : Nat) : readByte (storedCells s c b0 b1) x =
      if x = c.imageOffset then b0 else if c.wide = true ∧ x = c.imageOffset + 1 then b1
      else readByte s.image.cells x := by
  rw [storedCells, if_pos ⟨hwrite, himage, hopen⟩, readByte_writeBytesAt hwf]
  obtain rfl | hlow := eq_or_ne x c.imageOffset
  · cases c.wide <;> simp
  · obtain rfl | hhigh := eq_or_ne x (c.imageOffset + 1)
    · cases c.wide <;> simp
    · have hlength : (if c.wide then [b0, b1] else [b0]).length ≤ 2 := by cases c.wide <;> simp
      rw [if_neg hlow, if_neg fun h : c.wide = true ∧ _ => hhigh h.2, if_neg]
      rintro ⟨hmin, hmax⟩
      omega

theorem storeCycle_eq (c : Cycle) (b : Byte × Byte) (s : State) :
    storeCycle c b s = { s with image := { s.image with cells := storedCells s c b.1 b.2 } } := by
  have hstores : (c.write && (c.target == .image) && !c.readOnly) = true ↔
      c.write = true ∧ c.target = .image ∧ c.readOnly = false := by simp [and_assoc]
  unfold storeCycle storedCells
  simp only [hstores]
  split <;> rfl

/-- A cycle that has taken its data. -/
def takenCycle (s : State) (lines : CardLines) (c : Cycle) (waits : Nat) (timedOut : Bool) : Cycle :=
  { c with
    phase := .recovery, waits := waits, timedOut := timedOut, readLow := (carriedBytes s lines c timedOut).1,
    readHigh := (carriedBytes s lines c timedOut).2,
    samples := if c.kind = .probe then probeSamples s lines c timedOut else c.samples }

theorem finishStrobe_taken (waits : Nat) (timedOut : Bool) (lines : CardLines) (s : State) (c : Cycle) :
    DataTaken waits timedOut lines s c (finishStrobe c waits timedOut lines s) := by
  refine ⟨(carriedBytes s lines c timedOut).1, (carriedBytes s lines c timedOut).2,
    takenCycle s lines c waits timedOut, _,
    carriedBytes_carries s lines c timedOut, rfl, fun n => ?_, rfl, fun hwf hwrite himage hopen x => ?_, ?_⟩
  · rw [← probeSamples_get]
    unfold takenCycle
    dsimp only
    split <;> rfl
  · exact readByte_storedCells _ _ hwf hwrite himage hopen x
  · unfold finishStrobe
    dsimp only
    rw [storeCycle_eq]
    refine congrArg₂ present ?_ ?_
    · rw [Cycle.presentation, showsUnclaimed_eq, slot?_eq] <;> rfl
    · rw [internal_any]
      rfl

/-- Settles O25. -/
theorem cycleTakesItsData : Obligations.CycleTakesItsData := by
  unfold Obligations.CycleTakesItsData
  refine ⟨fun waits lines s hnone => ⟨congrArg Host.Outcome.next ?_, congrArg Host.Outcome.next ?_⟩, fun waits lines s c hc hphase hkind => ⟨?_, ?_, ?_⟩⟩
  · unfold endWait
    split
    · next c hc =>
      refine if_neg fun h => ?_
      exact (hnone c hc).elim h.1 h.2
    · rfl
  · unfold timeOut
    split
    · next c hc =>
      refine if_neg fun h => ?_
      exact (hnone c hc).elim h.1 h.2.1
    · rfl
  · have ht : endWait waits lines s = finishStrobe c (if c.waitable then min waits c.limit else 0) false lines s := by
      rw [endWait, hc]
      exact if_pos ⟨hphase, hkind⟩
    rw [← waitable_iff]
    exact ⟨_, congrArg Host.Outcome.next ht, finishStrobe_taken ..⟩
  · intro hcan
    have ht : timeOut lines s = finishStrobe c c.limit true lines s := by
      rw [timeOut, hc]
      exact if_pos ⟨hphase, hkind, (canHold_iff s c).mpr hcan⟩
    exact ⟨_, congrArg Host.Outcome.next ht, finishStrobe_taken ..⟩
  · intro hcannot
    refine congrArg Host.Outcome.next ?_
    rw [timeOut, hc]
    exact if_neg fun h => hcannot ((canHold_iff s c).mp h.2.2)

end Sys2Proof.Machine
end

section
/-! PROOFS. O31: refresh, owed and paid; O27: master cycles. First what a watch unit's hold does at a boundary. -/

namespace Sys2Proof.Machine

set_option Elab.async false

/-! ## A watch unit's hold at a boundary (R43) -/

theorem changeBus_eq (new : BusState) (cause : BusCause) (s : State) : changeBus new cause s =
    { s with
      bus := busChanged new cause s.bus
      link := (notice 4 [s.bus.state.code, new.code, cause.code] s).link } := by
  rw [← changeBus_link]
  exact (notice_touches 4 _ (recordBus new cause s)).eq_link

theorem takeWatchHold_eq (s : State) : takeWatchHold s = watchHeld s := by
  unfold takeWatchHold watchHeld
  cases hu : s.bus.holdRequest with
  | none => rfl
  | some u =>
    dsimp only
    by_cases hrun : s.bus.state = .run
    · have hcode : BusCause.code (.watch u) = if u = 0 then 2 else 3 := by
        match u with
        | 0 | 1 => rfl
      have hengine : movedEngine .hold s =
          { s.engine with held := s.engine.held || decide (s.engine.state ≠ .idle) } := by
        simp [movedEngine, hrun]
      rw [if_pos hrun, if_neg (not_not_intro hrun), moveLive_eq, changeBus_eq, hengine, movedArb, if_pos hrun, hrun, hcode]
      rfl
    · rw [if_neg hrun, if_pos hrun]

/-! ## Refresh (R62 to R64) -/

theorem refreshDue_eq (s : State) : refreshDue s =
    if 16 ≤ s.arb.owed then { s with arb := { s.arb with interval := 0, lost := min 65535 (s.arb.lost + 1) } }
    else if s.arb.owed = 15 ∧ s.arb.shortReported = false then
      notice 7 (16 :: bytes2 s.arb.lost)
        { s with arb := { s.arb with interval := 0, owed := 16, shortReported := true } }
    else { s with arb := { s.arb with interval := 0, owed := s.arb.owed + 1 } } := by
  unfold refreshDue noticeRefreshShort modArb
  dsimp only
  by_cases hmost : 16 ≤ s.arb.owed
  · rw [if_neg (Nat.not_lt.mpr hmost), if_pos hmost]
  · rw [if_pos (Nat.lt_of_not_le hmost), if_neg hmost]
    have hshort : (s.arb.owed + 1 = 16 ∧ (!s.arb.shortReported) = true) ↔ s.arb.owed = 15 ∧ s.arb.shortReported = false := by
      simp
    simp only [hshort]
    split
    · next h => rw [h.1]; rfl
    · rfl

/-- What takes effect at a boundary after the initiator's result. -/
theorem boundaryEffects_eq (c : Cycle) (s : State) :
    boundaryEffects c s = settingsTaken (changesDue (takeResult c (watchHeld s))) := by
  rw [boundaryEffects, applySettings_eq, takeWatchHold_eq]

/-- The state as a cycle has just ended, its length counted (R1, R13). -/
def cycleOver (clocks : Nat) (s : State) : State :=
  { s with planner := { s.planner with cycle := none, lastClocks := clocks }, arb := { s.arb with owner := .none } }

theorem boundary_eq (c : Cycle) (s : State) : boundary c s =
    settle (holdBoundary s.arb.owner (settingsTaken (changesDue (takeResult c (watchHeld (cycleOver c.length s)))))) := by
  rw [boundary, boundaryEffects_eq]
  rfl

theorem watchHeld_counts (s : State) : (watchHeld s).arb.owed = s.arb.owed ∧ (watchHeld s).arb.row = s.arb.row ∧
    (watchHeld s).arb.shortReported = s.arb.shortReported := by
  unfold watchHeld
  cases s.bus.holdRequest with
  | none => exact ⟨rfl, rfl, rfl⟩
  | some u =>
    dsimp only
    split <;> exact ⟨rfl, rfl, rfl⟩

/-- Settles O31. -/
theorem refreshIsOwedAndPaid : Obligations.RefreshIsOwedAndPaid := by
  unfold Obligations.RefreshIsOwedAndPaid
  refine ⟨fun s hstill => ?_, fun s hrefreshing hinterval => ?_, fun s hnone => ?_, fun s h r c hc hkind hh hr => ?_⟩
  · refine congrArg Host.Outcome.next (if_neg fun hcounts => ?_)
    obtain hdead | hzero := hstill
    · exact ((refreshing_iff _).mp hcounts.1).elim hdead.1 hdead.2
    · exact hcounts.2 hzero
  · rw [← refreshDue_eq]
    exact congrArg Host.Outcome.next (if_pos ⟨(refreshing_iff _).mpr hrefreshing, hinterval⟩)
  · refine congrArg Host.Outcome.next ?_
    unfold endRefresh
    split
    · next c hc => exact if_neg (hnone c hc)
    · rfl
  · have hlength : c.length = 5 := if_pos hkind
    have hend : endRefresh s = boundary c s := by
      rw [endRefresh, hc]
      exact if_pos hkind
    have hresult : takeResult c h = r := by
      obtain ⟨howed, hrow, hshort⟩ := watchHeld_counts (cycleOver 5 s)
      rw [← show h = watchHeld (cycleOver 5 s) from hh] at howed hrow hshort
      rw [hr, takeResult, hkind]
      dsimp only [modArb, refreshPaid]
      rw [howed, hrow, hshort]
      have hpaid : s.arb.owed - 1 = 0 ↔ s.arb.owed ≤ 1 := by omega
      simp only [cycleOver, hpaid]
    refine ⟨changesDue r, changesDue_made r, congrArg Host.Outcome.next ?_⟩
    rw [hend, boundary_eq, hlength, ← show h = watchHeld (cycleOver 5 s) from hh, hresult]

/-! ## Master cycles (R23, R25) -/

theorem masterAddress_eq (space : Space) (address : BitVec 20) :
    masterAddress space address = if space = .mem then address.toNat else address.toNat % 0x10000 := by
  cases space with
  | mem => exact Nat.mod_eq_of_lt address.isLt
  | io => rfl

theorem storeMaster_eq (m : MasterCycle) (b : Byte) (s : State) : storeMaster m b s =
    { s with image := { s.image with cells :=
      (if m.write = true ∧ m.found.target = .image ∧ m.found.readOnly = false then
        writeByte s.image.cells m.found.imageOffset b
      else s.image.cells) } } := by
  have hstores : (m.write && (m.found.target == .image) && !m.found.readOnly) = true ↔
      m.write = true ∧ m.found.target = .image ∧ m.found.readOnly = false := by simp [and_assoc]
  unfold storeMaster
  simp only [hstores]
  split <;> rfl

theorem masterGone_settingsTaken (s : State) : masterGone s = settingsTaken { s with
    planner := { s.planner with master := none }
    arb := if s.arb.grant = none then { s.arb with owner := .none, hold := .none } else s.arb } := by
  have hfree : s.arb.grant.isNone = true ↔ s.arb.grant = none := Option.isNone_iff_eq_none
  rw [masterGone, applySettings_eq]
  dsimp only
  simp only [hfree]
  split <;> rfl

/-- Settles O27. -/
theorem masterCyclesReachWindows : Obligations.MasterCyclesReachWindows := by
  unfold Obligations.MasterCyclesReachWindows
  refine ⟨fun space address write s hnot => ?_, fun space address write s n place found hgrant hmaster hplace hfound m hm => ?_,
    fun clocks data s hnone => ?_, fun clocks data byte s q m hm hbyte hq => ?_⟩
  · refine congrArg Host.Outcome.next ?_
    unfold assertStrobe
    split
    · next n hgrant hmaster => exact hnot.elim (fun h => nomatch h.symm.trans hgrant) fun h => absurd hmaster h
    · rfl
  · refine congrArg Host.Outcome.next ?_
    rw [assertStrobe, hgrant, hmaster]
    dsimp only
    rw [masterAddress_eq, ← hplace, ← hfound, hm]
    simp only [Bool.not_eq_true']
    rfl
  · refine congrArg Host.Outcome.next ?_
    rw [releaseStrobe, hnone]
  · refine congrArg Host.Outcome.next ?_
    have hdata : masterByte m clocks data = byte := by
      rw [hbyte, masterByte]
      simp only [Bool.not_eq_true']
    rw [releaseStrobe, hm]
    dsimp only
    rw [takeWatchHold_eq, masterGone_settingsTaken, storeMaster_eq, hdata]
    have hstored : (if m.write = true ∧ m.found.target = .image ∧ m.found.readOnly = false then
        writeByte s.image.cells m.found.imageOffset byte else s.image.cells) =
        if m.write = true ∧ m.found.target = .image ∧ m.found.readOnly = false then
          writeByte s.image.cells m.found.imageOffset data else s.image.cells := by
      split
      · next hwrites => rw [hbyte, if_neg fun h => absurd (hwrites.1.symm.trans h.2) (by decide)]
      · rfl
    have hpresented : present (m.presentation byte) { s with image := { s.image with cells :=
        (if m.write = true ∧ m.found.target = .image ∧ m.found.readOnly = false then
          writeByte s.image.cells m.found.imageOffset byte else s.image.cells) } } = q := by
      rw [hstored, hq]
      rfl
    have harb : q.arb = s.arb := by rw [hq]; exact present_touches _ _ .arb (by decide)
    have hplanner : q.planner = s.planner := by rw [hq]; exact present_touches _ _ .planner (by decide)
    rw [hpresented, harb, hplanner]

end Sys2Proof.Machine
end

section
/-! PROOFS. O38: a transfer's access has ended. -/

namespace Sys2Proof.Machine

set_option Elab.async false

/-! ## What leaves arbiter and channels aside -/

/-- The arbiter and the channels of a state replaced. -/
def withDma (a : Arbiter) (v : Vector Channel 4) (s : State) : State := { s with arb := a, channels := v }

theorem withDma_channels (a : Arbiter) (v : Vector Channel 4) (s : State) : (withDma a v s).channels = v := rfl

theorem withDma_touches (a : Arbiter) (v : Vector Channel 4) (s : State) : Touches [.channels, .arb] s (withDma a v s) := by
  intro f hf
  cases f <;> first | rfl | exact absurd (by decide) hf

theorem aside_withDma (a : Arbiter) (v : Vector Channel 4) : Aside (withDma a v) := aside_arb_channels a v

theorem handRecord_withDma (a : Arbiter) (v : Vector Channel 4) (r : Record) (s : State) :
    handRecord r (withDma a v s) = withDma a v (handRecord r s) := by
  have hhigh (t : State) : testHighAfterStore (withDma a v t) = withDma a v (testHighAfterStore t) := by
    by_cases h : (!t.capture.high && decide (t.settings.almostFull ≤ t.capture.recordCount)) = true
    · exact ((if_pos h).trans ((aside_withDma a v).notice { t with capture := { t.capture with high := true } } 0 _)).trans
        (congrArg (withDma a v) (if_pos h).symm)
    · exact (if_neg h).trans (congrArg (withDma a v) (if_neg h).symm)
  unfold handRecord
  by_cases hfits : s.capture.fits r = true
  · rw [if_pos hfits, if_pos (c := (withDma a v s).capture.fits r = true) hfits]
    exact hhigh { s with capture := { s.capture.modCounts r.source (fun _ => zeroCounts) with
      records := (s.capture.modCounts r.source fun _ => zeroCounts).records ++ [{ r with
        sequence := s.capture.seq, coalesced := (s.capture.counts r.source).coalesced,
        lost := (s.capture.counts r.source).lost }]
      seq := (s.capture.modCounts r.source fun _ => zeroCounts).seq + 1 } }
  · rw [if_neg hfits, if_neg (c := (withDma a v s).capture.fits r = true) hfits]
    rfl

/-! ## Telling the queue twice (R76) -/

/-- A WAIT_DMA on the channel is the operation in progress. -/
def WaitsFor (n : Fin 4) (s : State) : Prop :=
  s.queue.state = .waitingDma ∧ ∃ op rest limit, s.queue.ops = op :: rest ∧ op.kind = .waitDma n limit

theorem tellQueue_of_not_waiting {n : Fin 4} {s : State} (h : ¬ WaitsFor n s) : tellQueue n s = s := by
  unfold tellQueue
  split
  · next op rest hstate hops =>
    split
    · next k limit hkind =>
      refine if_neg fun hk => h ⟨hstate, op, rest, limit, hops, ?_⟩
      rw [hkind, hk]
    · rfl
    · rfl
    · rfl
  · rfl

theorem buildReply_queue (s : State) (f : OpenFrame) : (buildReply s f).queue = s.queue :=
  buildReply_touches s f .queue (by decide)

theorem closeFrames_state (s : State) : (closeFrames s).queue.state = s.queue.state := by
  have hkept (fs : List OpenFrame) (t : State) (ht : t.queue.state = s.queue.state) :
      (fs.foldl buildReply t).queue.state = s.queue.state :=
    List.foldlRecOn (motive := fun t => t.queue.state = s.queue.state) fs buildReply ht
      fun t ht f _ => (congrArg OpQueue.state (buildReply_queue t f)).trans ht
  exact hkept _ _ rfl

theorem skipFrame_state (id : Nat) (q : OpQueue) : (skipFrame id q).state = q.state := rfl

/-- An operation that ends leaves the queue IDLE. -/
theorem endOp_state {s : State} {op : OpRecord} {rest : List OpRecord} (h : s.queue.ops = op :: rest) (status : OpStatus) :
    (endOp status s).queue.state = .idle := by
  rw [endOp, h]
  dsimp only
  rw [closeFrames_state]
  dsimp only
  split <;> rfl

theorem tellQueue_done (n : Fin 4) (s : State) : ¬ WaitsFor n (tellQueue n s) := by
  by_cases h : WaitsFor n s
  · obtain ⟨hstate, op, rest, limit, hops, hkind⟩ := h
    have hended : tellQueue n s = endWaitDma s := by
      unfold tellQueue
      rw [hstate, hops]
      dsimp only
      rw [hkind]
      exact if_pos rfl
    have hidle : (endWaitDma s).queue.state = .idle := endOp_state (by exact hops) .ok
    rw [hended]
    exact fun hwaits => nomatch hidle.symm.trans hwaits.1
  · rw [tellQueue_of_not_waiting h]
    exact h

/-! ## Completed transfers (R95, R97 to R101) -/

theorem holdAfterTransfer_eq (n : Fin 4) (terminal : Bool) (s : State) :
    holdAfterTransfer n terminal s = { s with arb := transferCounted n terminal s } := by
  unfold holdAfterTransfer transferCounted modArb
  cases hhold : s.arb.hold with
  | none => rfl
  | cascade k => rfl
  | demand k =>
    by_cases hk : k = n
    · subst hk
      simp [Bool.decide_and]
    · simp [hk]
  | block k =>
    by_cases hk : k = n
    · subst hk
      simp
    · simp [hk]

/-- The channel stepped by a completed transfer. -/
def steppedChannel (n : Fin 4) (a : Access) (c : Channel) : Channel :=
  { c with
    offset := stepOffset n c, count := c.count + 1, runFlags := c.runFlags.join a.flags,
    pulse := c.pulse && !a.pulsed, access := none }

theorem completeTransfer_eq (n : Fin 4) (a : Access) (s : State) : completeTransfer n a s =
    if a.terminal then terminalCount n (withDma (transferCounted n true s) (upd s.channels n (steppedChannel n a)) s)
    else withDma (transferCounted n false s) (upd s.channels n (steppedChannel n a)) s := by
  rw [completeTransfer, holdAfterTransfer_eq]
  cases a.terminal <;> rfl

/-- The DMA_END record of a channel at its terminal count (R99). -/
def endRecord (n : Fin 4) (c : Channel) (time : Time) : Record where
  source := .channel n
  slot := some c.owner
  flags := runRecordFlags c.runFlags c.autoReload
  sequence := 0
  time := time
  coalesced := 0
  lost := 0
  firstFail := none
  entry := none
  steps := none
  data := natByte c.page.val :: (bytes2 c.offset.toNat ++ bytes2 c.count.toNat)

/-- What a terminal count hands over before the channel reloads or stops (R76, R99, R100). -/
def terminalTold (n : Fin 4) (c : Channel) (s : State) : State :=
  tellQueue n (notice 1 ([natByte n.val, natByte c.owner.val, natByte c.page.val] ++ bytes2 c.offset.toNat ++
    [boolCode c.autoReload]) (if c.recordEnd then handRecord (endRecord n c s.timeBase) s else s))

/-- The channels with Done set. -/
def doneSet (n : Fin 4) (v : Vector Channel 4) : Vector Channel 4 := upd v n fun c => { c with finished := true }

theorem terminalCount_eq (n : Fin 4) (a : Arbiter) (v : Vector Channel 4) (s : State) :
    terminalCount n (withDma a v s) =
      if v[n].autoReload then reloadChannel n (withDma a (doneSet n v) (terminalTold n v[n] s))
      else leaveRunning n .done (withDma a (doneSet n v) (terminalTold n v[n] s)) := by
  have hdone : (doneSet n v)[n] = { v[n] with finished := true } := upd_self v n _
  have hset : modChannel n (fun c => { c with finished := true }) (withDma a v s) = withDma a (doneSet n v) s := rfl
  have hrecord : (if (doneSet n v)[n].recordEnd then
      handRecord (dmaEndRecord n (withDma a (doneSet n v) s)) (withDma a (doneSet n v) s)
      else withDma a (doneSet n v) s) = withDma a (doneSet n v)
        (if v[n].recordEnd then handRecord (endRecord n v[n] s.timeBase) s else s) := by
    have hr : dmaEndRecord n (withDma a (doneSet n v) s) = endRecord n v[n] s.timeBase := by
      unfold dmaEndRecord
      dsimp only
      rw [show (withDma a (doneSet n v) s).channels[n] = _ from hdone]
      rfl
    rw [hr, hdone]
    split
    · exact handRecord_withDma a (doneSet n v) _ s
    · rfl
  have htold (x : State) : tellQueue n (noticeDmaDone n (withDma a (doneSet n v) x)) = withDma a (doneSet n v)
      (tellQueue n (notice 1 ([natByte n.val, natByte v[n].owner.val, natByte v[n].page.val] ++ bytes2 v[n].offset.toNat ++
        [boolCode v[n].autoReload]) x)) := by
    unfold noticeDmaDone
    dsimp only
    rw [show (withDma a (doneSet n v) x).channels[n] = _ from hdone, (aside_withDma a _).notice,
      (aside_withDma a _).tellQueue]
  unfold terminalCount
  dsimp only
  rw [hset, show (withDma a (doneSet n v) s).channels = doneSet n v from rfl, hrecord, htold]
  have hgoes (x : State) (y z : State) (hyz : y = z) : (if (withDma a (doneSet n v) x).channels[n].autoReload then
      reloadChannel n (withDma a (doneSet n v) x) else y) =
      if v[n].autoReload then reloadChannel n (withDma a (doneSet n v) x) else z := by
    rw [show (withDma a (doneSet n v) x).channels[n] = _ from hdone, hyz]
  refine hgoes (terminalTold n v[n] s) _ _ (tellQueue_of_not_waiting ?_)
  rw [leaveRunning_eq]
  exact tellQueue_done n _

theorem flags_join (f g : AccessFlags) : f.join g =
    { unclaimed := f.unclaimed || g.unclaimed, prot := f.prot || g.prot, narrowed := f.narrowed || g.narrowed } := rfl

theorem stepOffset_eq (n : Fin 4) (c : Channel) : stepOffset n c =
    if c.down then c.offset - (if 2 ≤ n.val then 2 else 1) else c.offset + (if 2 ≤ n.val then 2 else 1) := by
  simp only [stepOffset, wideChannel, decide_eq_true_eq]

theorem transferDone_ok {n : Fin 4} {a : Access} {s : State} (h : a.status = .ok) :
    transferDone n a s = completeTransfer n a s := by
  rw [transferDone, h]

theorem transferDone_failed {n : Fin 4} {a : Access} {s : State} {cause : DmaCause} (h : a.status ≠ .ok)
    (hcause : cause = if a.status = .timeout then .timeout else .blocked) :
    transferDone n a s = faultChannel n cause s := by
  unfold transferDone
  split
  · next hok => exact absurd hok h
  · next htimeout => rw [hcause, if_pos htimeout]
  · next hblocked => rw [hcause, if_neg (by rw [hblocked]; decide)]

/-- A reload at terminal count (R98, R196). -/
theorem reloadChannel_eq (n : Fin 4) (s : State) : reloadChannel n s = { s with channels := upd s.channels n fun c =>
    { c with
      page := c.basePage, offset := c.baseOffset, count := c.baseCount, runFlags := noFlags,
      blockRun := decide (c.mode = .block) && requested s n c.owner } } := rfl

theorem reloadChannel_get (n : Fin 4) (s : State) : (reloadChannel n s).channels[n] = { s.channels[n] with
    page := s.channels[n].basePage, offset := s.channels[n].baseOffset, count := s.channels[n].baseCount,
    runFlags := noFlags,
    blockRun := decide (s.channels[n].mode = .block) && requested s n s.channels[n].owner } :=
  upd_self s.channels n _

theorem terminalTold_touches (n : Fin 4) (c : Channel) (s : State) :
    Touches [.link, .queue, .capture] s (terminalTold n c s) :=
  Touches.trans (.ite ((handRecord_touches _ s).mono) (.refl _ s)) (((notice_touches _ _ _).mono).trans
    ((tellQueue_touches n _).mono))

theorem terminalTold_capture (n : Fin 4) (c : Channel) (s : State) : (terminalTold n c s).capture =
    (if c.recordEnd then handRecord (endRecord n c s.timeBase) s else s).capture :=
  (tellQueue_touches n _ .capture (by decide)).trans (notice_touches _ _ _ .capture (by decide))

theorem requested_congr {s t : State} (hslots : t.slots = s.slots) (hcards : t.cards = s.cards) (n : Fin 4) (slot : Fin 8) :
    requested t n slot = requested s n slot := by
  rw [requested, requested, attached, attached, hslots, hcards]

/-- Settles O38. -/
theorem dmaTransferStepsItsChannel : Obligations.DmaTransferStepsItsChannel := by
  unfold Obligations.DmaTransferStepsItsChannel
  refine ⟨fun n a s c d hc hok hd => ?_, fun n a s cause hrun hfail hcause => ?_⟩
  · have hstepped : steppedChannel n a c = d := by
      rw [hd, ← stepOffset_eq, ← flags_join]
      rfl
    have hd' : (upd s.channels n (steppedChannel n a))[n] = d := by rw [upd_self, hc, hstepped]
    have hfield := transferDone_touches n a s
    have htold := terminalTold_touches n d s
    have hterminal (hterm : a.terminal = true) : transferDone n a s =
        if d.autoReload then reloadChannel n (withDma (transferCounted n true s)
          (doneSet n (upd s.channels n (steppedChannel n a))) (terminalTold n d s))
        else leaveRunning n .done (withDma (transferCounted n true s)
          (doneSet n (upd s.channels n (steppedChannel n a))) (terminalTold n d s)) := by
      rw [transferDone_ok hok, completeTransfer_eq, if_pos hterm, terminalCount_eq, hd']
    have hplain (hterm : a.terminal = false) : transferDone n a s =
        withDma (transferCounted n false s) (upd s.channels n (steppedChannel n a)) s := by
      rw [transferDone_ok hok, completeTransfer_eq, if_neg (by rw [hterm]; decide)]
    have hrest (hterm : a.terminal = true) : Touches [.channels, .arb] (terminalTold n d s) (transferDone n a s) := by
      have hset (v : Vector Channel 4) : Touches [.channels, .arb] (terminalTold n d s)
          (withDma (transferCounted n true s) v (terminalTold n d s)) := withDma_touches _ _ _
      rw [hterminal hterm]
      exact .ite ((hset _).trans (touches_channels _ _)) ((hset _).trans ((leaveRunning_touches n .done _).mono))
    refine ⟨fun m hm => ?_, fun hterm => ⟨?_, ?_⟩, fun hterm r hr => ⟨hfield, ?_, ?_, fun hreload => ?_, fun hstop => ⟨?_, ?_⟩⟩⟩
    · have hother (f : Channel → Channel) (v : Vector Channel 4) : (upd v n f)[m] = v[m] := upd_other v n m f hm.symm
      cases hterm : a.terminal with
      | false =>
        rw [hplain hterm]
        exact hother _ _
      | true =>
        rw [hterminal hterm]
        split
        · rw [reloadChannel_eq]
          dsimp only [withDma, doneSet]
          rw [hother, hother, hother]
        · rw [leaveRunning_eq]
          dsimp only [withDma, doneSet]
          rw [hother, hother, hother]
    · rw [hplain hterm]
      exact hd'
    · rw [hplain hterm]
      exact withDma_touches _ _ s
    · rw [hrest hterm .capture (by decide), terminalTold_capture, hr]
      rw [hd]
      rfl
    · rintro told rfl
      rw [hrest hterm .link (by decide), hrest hterm .queue (by decide), hr, hd]
      exact ⟨rfl, rfl⟩
    · have hautoReload : d.autoReload = true := by rw [hd]; exact hreload
      have hdone : (doneSet n (upd s.channels n (steppedChannel n a)))[n] = { d with finished := true } :=
        (upd_self _ n _).trans (congrArg (fun c : Channel => { c with finished := true }) hd')
      have hrequested : requested (withDma (transferCounted n true s)
          (doneSet n (upd s.channels n (steppedChannel n a))) (terminalTold n d s)) n d.owner = requested s n d.owner :=
        requested_congr (htold .slots (by decide)) (htold .cards (by decide)) n d.owner
      rw [hterminal hterm, if_pos hautoReload]
      refine (reloadChannel_get n _).trans ?_
      rw [withDma_channels, hdone, hrequested, hd]
    · rw [hterminal hterm, if_neg (by rw [hd]; exact Bool.eq_false_iff.mp hstop), leaveRunning_eq]
      dsimp only [withDma, doneSet]
      rw [upd_self, upd_self, hd', hd]
      rfl
    · rw [hterminal hterm, if_neg (by rw [hd]; exact Bool.eq_false_iff.mp hstop), leaveRunning_eq]
      have hplanner : (terminalTold n d s).planner = s.planner := htold .planner (by decide)
      simp only [letGo, withDma, hplanner]
  · rw [transferDone_failed hfail hcause, faultChannel_of_running hrun]
    have haside := (aside_arb_channels (letGo n s) (upd s.channels n fun c => stopped c .faulted cause))
    refine ⟨?_, fun m hm => ?_, ?_, ?_, ?_⟩
    · simp only [tellQueue_channels, notice_channels, upd_self]
    · simp only [tellQueue_channels, notice_channels]
      exact upd_other _ n m _ hm.symm
    · simp only [tellQueue_arb, notice_arb]
    · rw [← faultChannel_of_running hrun]
      exact faultChannel_touches n cause s
    · rintro told rfl
      rw [haside.notice s, haside.tellQueue]
      exact ⟨rfl, rfl⟩

end Sys2Proof.Machine
end

section
/-! PROOFS. O34 and O35: the operation queue, its results, and the ends that others report. -/

namespace Sys2Proof.Machine

set_option Elab.async false

/-! ## The end of an operation (R73, R77, R78) -/

/-- A frame with the results that the end of an operation files with it (R73, R77). -/
def filedFrame (st : OpStatus) (op : OpRecord) (rest : List OpRecord) (stops : Bool) (f : OpenFrame) : OpenFrame :=
  if f.id = op.frame then
    { f with results := f.results ++ endedResult st op ::
      (if stops then (rest.filter fun r => decide (r.frame = op.frame)).map (endedResult .skipped) else []) }
  else f

/-- The frame of the operation is skipped: the status is an error, and the frame stops on one (R77). -/
def skips (st : OpStatus) (op : OpRecord) (frames : List OpenFrame) : Bool :=
  st.isError && stopsOnError frames op.frame

theorem skips_iff (st : OpStatus) (op : OpRecord) (frames : List OpenFrame) : skips st op frames = true ↔
    (st = .timeout ∨ st = .blocked) ∧ ∃ f ∈ frames, f.id = op.frame ∧ f.stopOnError = true := by
  have herror : st.isError = true ↔ st = .timeout ∨ st = .blocked := by cases st <;> decide
  rw [skips, Bool.and_eq_true, herror, stopsOnError, List.any_eq_true]
  simp

theorem stopsOnError_fileResult (id k : Nat) (r : OpResult) (frames : List OpenFrame) :
    stopsOnError (fileResult k r frames) id = stopsOnError frames id := by
  rw [stopsOnError, fileResult, List.any_map]
  refine congrArg frames.any (funext fun f => ?_)
  dsimp only [Function.comp]
  split <;> rfl

/-- Several results filed with one frame. -/
theorem foldl_fileResult_same (id : Nat) (result : OpRecord → OpResult) : ∀ (ops : List OpRecord) (first : OpResult)
    (frames : List OpenFrame), ops.foldl (fun fs r => fileResult id (result r) fs) (fileResult id first frames) =
      frames.map fun f => if f.id = id then { f with results := f.results ++ first :: ops.map result } else f
  | [], _, _ => rfl
  | r :: ops, first, frames => by
    rw [List.foldl_cons, foldl_fileResult_same id result ops, fileResult, List.map_map]
    refine List.map_congr_left fun f _ => ?_
    by_cases hid : f.id = id <;> simp [hid]

theorem closeFrames_eq (s : State) : closeFrames s =
    sendAll ((s.queue.frames.filter fun f => decide (f.opCount ≤ f.results.length)).map fun f => opsReply f f.results).flatten
      { s with queue := { s.queue with
        frames := s.queue.frames.filter fun f => decide (f.results.length < f.opCount) } } := by
  have hopen (f : OpenFrame) : (!f.complete) = decide (f.results.length < f.opCount) := by
    rw [OpenFrame.complete, ← decide_not]
    simp only [Nat.not_le]
  unfold closeFrames
  dsimp only
  rw [foldl_buildReply]
  simp only [hopen]
  rfl

theorem endOp_eq (st : OpStatus) {s : State} {op : OpRecord} {rest : List OpRecord} (hops : s.queue.ops = op :: rest) :
    endOp st s = closeFrames { s with queue := { s.queue with
      ops := if skips st op s.queue.frames then rest.filter (fun r => decide (r.frame ≠ op.frame)) else rest
      frames := s.queue.frames.map (filedFrame st op rest (skips st op s.queue.frames))
      state := .idle, pauseLeft := 0, waitLeft := 0, access := none } } := by
  have hended : op.result st = endedResult st op := rfl
  have hskips : (st.isError && stopsOnError (fileResult op.frame (op.result st) s.queue.frames) op.frame) =
      skips st op s.queue.frames := by rw [stopsOnError_fileResult]; rfl
  rw [endOp, hops]
  dsimp only
  rw [hskips]
  cases hstops : skips st op s.queue.frames with
  | false =>
    have hfiled : fileResult op.frame (op.result st) s.queue.frames =
        s.queue.frames.map (filedFrame st op rest false) := by
      refine List.map_congr_left fun f _ => ?_
      unfold filedFrame
      split <;> rfl
    rw [hfiled]
    rfl
  | true =>
    have hfiled : (rest.filter fun r => decide (r.frame = op.frame)).foldl
        (fun fs r => fileResult op.frame (r.result .skipped) fs) (fileResult op.frame (op.result st) s.queue.frames) =
        s.queue.frames.map (filedFrame st op rest true) := by
      rw [foldl_fileResult_same]
      refine List.map_congr_left fun f _ => ?_
      unfold filedFrame
      split <;> rfl
    rw [if_pos rfl, skipFrame]
    dsimp only
    rw [hfiled]
    rfl

/-! ## Expiries and accesses (R72, R75, R76) -/

/-- Settles O34. -/
theorem operationsEndWithTheirResults : Obligations.OperationsEndWithTheirResults := by
  unfold Obligations.OperationsEndWithTheirResults
  refine ⟨fun s => rfl, fun s => rfl, fun a s op next rest hops hnext taken htaken => ?_,
    fun st s op rest stops filed hops hstops hfiled => ?_⟩
  · rw [queueAccessDone, hops]
    dsimp only
    rw [htaken, hnext]
    cases a.status <;> rfl
  · have hskips : skips st op s.queue.frames = stops := by
      rw [Bool.eq_iff_iff, skips_iff, hstops]
    rw [endOp_eq st hops, closeFrames_eq, hskips, show filed = s.queue.frames.map (filedFrame st op rest stops) from hfiled]

/-! ## What others report (R22, R74, R76) -/

theorem tellQueue_of_waiting {n : Fin 4} {s : State} {op : OpRecord} {rest : List OpRecord} {limit : Nat}
    (hstate : s.queue.state = .waitingDma) (hops : s.queue.ops = op :: rest) (hkind : op.kind = .waitDma n limit) :
    tellQueue n s = endWaitDma s := by
  unfold tellQueue
  rw [hstate, hops]
  dsimp only
  rw [hkind]
  exact if_pos rfl

theorem closeFrames_queue (s : State) : (closeFrames s).queue = { s.queue with
    frames := s.queue.frames.filter fun f => decide (f.results.length < f.opCount) } := by
  rw [closeFrames_eq, sendAll_queue]

/-- What telling the queue does to it depends on the queue alone. -/
theorem tellQueue_queue_congr {s t : State} (h : s.queue = t.queue) (n : Fin 4) :
    (tellQueue n s).queue = (tellQueue n t).queue := by
  by_cases hwaits : WaitsFor n s
  · obtain ⟨hstate, op, rest, limit, hops, hkind⟩ := hwaits
    rw [tellQueue_of_waiting hstate hops hkind, tellQueue_of_waiting (h ▸ hstate) (h ▸ hops) hkind, endWaitDma, endWaitDma,
      endOp_eq .ok (by exact hops), endOp_eq .ok (by exact h ▸ hops), closeFrames_queue, closeFrames_queue]
    simp only [modQueue, h]
    rfl
  · have hwaits' : ¬ WaitsFor n t := by rwa [WaitsFor, ← h]
    rw [tellQueue_of_not_waiting hwaits, tellQueue_of_not_waiting hwaits', h]

/-- Settles O35. -/
theorem queueTakesWhatOthersEnd : Obligations.QueueTakesWhatOthersEnd := by
  unfold Obligations.QueueTakesWhatOthersEnd
  refine ⟨fun samples bitmap timedOut cycles s op rest hops => ?_, fun n s => ⟨fun op rest limit => tellQueue_of_waiting, fun hnot => ?_⟩,
    fun n s cause a => ⟨?_, ?_, fun hok => ?_⟩, fun s op rest n limit hidle hops hkind hlive hover => ?_,
    fun s op rest hops => ⟨fun hexec => ?_, fun hexec => ?_⟩,
    fun space write word fixed address times k data w size hw hsize => ?_, flushQueue_eq⟩
  · rw [probeDone, hops]
    rfl
  · refine tellQueue_of_not_waiting ?_
    rintro ⟨hstate, op, rest, limit, hops, hkind⟩
    obtain h | h := hnot
    · exact h hstate
    · exact h op limit (by rw [hops]; rfl) hkind
  · by_cases hrun : s.channels[n].state = .running
    · rw [if_pos hrun, faultChannel_of_running hrun]
      refine tellQueue_queue_congr ?_ n
      rw [notice_queue]
    · rw [if_neg hrun, faultChannel_of_not_running hrun]
  · rw [clearChannel_eq]
    split
    · exact tellQueue_queue_congr (by rfl) n
    · rfl
  · rw [transferDone_ok hok, completeTransfer_eq]
    split
    · have hhanded (c : Channel) : (terminalTold n c s).queue = (tellQueue n s).queue := by
        refine tellQueue_queue_congr ((notice_queue _ _ _).trans ?_) n
        split
        · exact handRecord_touches _ s .queue (by decide)
        · rfl
      rw [terminalCount_eq, ← hhanded]
      split
      · rfl
      · rw [leaveRunning_eq]
        rfl
    · rfl
  · have hlive : s.bus.state.live = true := (live_iff _).mpr hlive
    have hwait : waitOver s n = true := by
      rw [waitOver, Bool.or_eq_true, bne_iff_ne]
      exact hover
    have hrest : (endOp .ok s).queue.ops = rest := by
      have hgoes : skips .ok op s.queue.frames = false := rfl
      rw [endOp_eq .ok hops, closeFrames_queue, hgoes]
      rfl
    unfold startOps
    rw [hrest, hops, List.length_cons, startRounds, hidle, hlive, hops]
    dsimp only
    rw [hkind]
    dsimp only
    rw [hwait]
    rfl
  · rw [queueWants, hexec, hops]
  · unfold queueWants
    split
    · next h _ => exact absurd h hexec
    · rfl
  · have hsame : size = spaceSize space := by
      rw [hsize]
      cases space <;> rfl
    have hwidth : widthOf word = w := hw.symm
    dsimp only [OpKind.access?]
    rw [hwidth, hsame]
    cases fixed <;> rfl

end Sys2Proof.Machine
end

section
/-! PROOFS. O28 and O29: the arbiter's claims and grants, and the holds. -/

namespace Sys2Proof.Machine

set_option Elab.async false

/-! ## Claims (R49) -/

/-- The claim of a channel's mode (R49). -/
def ModeClaims (s : State) (n : Fin 4) : Prop :=
  match s.channels[n].mode with
  | .single => requested s n s.channels[n].owner = true
  | .demand => requested s n s.channels[n].owner = true
  | .block => s.channels[n].blockRun = true
  | .cascade => requested s n s.channels[n].owner = true ∧
      (s.arb.timerChannel = none ∨ s.arb.timerChannel = some n)

theorem modeClaims_iff (s : State) (n : Fin 4) :
    modeClaims s n = true ↔ s.channels[n].state = .running ∧ ModeClaims s n := by
  unfold modeClaims ModeClaims
  dsimp only
  rw [Bool.and_eq_true, beq_iff_eq]
  cases s.channels[n].mode <;> simp

theorem holdClaims_iff (s : State) (n : Fin 4) : holdClaims s n = true ↔
    s.channels[n].state = .running ∧ (s.channels[n].access ≠ none ∨ ModeClaims s n) := by
  rw [holdClaims, Bool.or_eq_true, modeClaims_iff, Bool.and_eq_true, beq_iff_eq, Option.isSome_iff_ne_none, ← and_or_left,
    or_comm]

theorem channelClaims_iff (s : State) (n : Fin 4) : channelClaims s n = true ↔
    s.channels[n].state = .running ∧ (s.channels[n].pulse = true ∨ s.channels[n].access ≠ none ∨ ModeClaims s n) := by
  rw [channelClaims, Bool.or_eq_true, holdClaims_iff, Bool.and_eq_true, beq_iff_eq, ← and_or_left, or_comm]

/-! ## The best claim (R50, R51) -/

theorem busFree_iff (s : State) : busFree s = true ↔ freeBus s := by
  simp [busFree, freeBus, and_assoc]

/-- A member found first in a list that rises: it satisfies, and no member below it does. -/
theorem find?_allFour {p : Fin 4 → Bool} {n : Fin 4} (hn : p n = true) (hfirst : ∀ m, m < n → p m = false) :
    allFour.find? p = some n := by
  have hsplit : ∀ n : Fin 4, allFour = allFour.take n.val ++ n :: allFour.drop (n.val + 1) := by decide
  have hbelow : ∀ n m : Fin 4, m ∈ allFour.take n.val → m < n := by decide
  rw [List.find?_eq_some_iff_append]
  refine ⟨hn, _, _, hsplit n, fun m hm => ?_⟩
  rw [hfirst m (hbelow n m hm)]
  rfl

theorem findSome?_allSlots {α : Type} {f : Fin 8 → Option α} {n : Fin 8} {x : α} (hn : f n = some x)
    (hfirst : ∀ m, m < n → f m = none) : allSlots.findSome? f = some x := by
  have hsplit : ∀ n : Fin 8, allSlots = allSlots.take n.val ++ n :: allSlots.drop (n.val + 1) := by decide
  have hbelow : ∀ n m : Fin 8, m ∈ allSlots.take n.val → m < n := by decide
  rw [List.findSome?_eq_some_iff]
  exact ⟨_, n, _, hsplit n, hn, fun m hm => hfirst m (hbelow n m hm)⟩

theorem bestChannel_of_first {s : State} {n : Fin 4} (hn : channelClaims s n = true)
    (hfirst : ∀ m : Fin 4, m ≠ n → channelClaims s m = true →
      s.channels[n].owner < s.channels[m].owner ∨ (s.channels[n].owner = s.channels[m].owner ∧ n < m)) :
    bestChannel s = some n := by
  refine findSome?_allSlots (n := s.channels[n].owner) (find?_allFour ?_ fun m hm => ?_) fun slot hslot => ?_
  · rw [hn, beq_self_eq_true, Bool.and_self]
  · rw [← Bool.not_eq_true, Bool.and_eq_true, beq_iff_eq]
    rintro ⟨howner, hclaims⟩
    obtain h | ⟨-, h⟩ := hfirst m hm.ne hclaims
    · exact absurd h (by rw [howner]; exact lt_irrefl _)
    · exact absurd h hm.asymm
  · rw [List.find?_eq_none]
    rintro m - hm
    rw [Bool.and_eq_true, beq_iff_eq] at hm
    obtain ⟨rfl, hclaims⟩ := hm
    have hother : m ≠ n := by
      rintro rfl
      exact absurd hslot (lt_irrefl _)
    obtain h | ⟨h, -⟩ := hfirst m hother hclaims
    · exact absurd hslot h.asymm
    · exact absurd hslot (by rw [h]; exact lt_irrefl _)

theorem bestChannel_of_none {s : State} (h : ∀ n : Fin 4, channelClaims s n = false) : bestChannel s = none := by
  rw [bestChannel, List.findSome?_eq_none_iff]
  rintro slot -
  rw [List.find?_eq_none]
  rintro n - hn
  rw [h n, Bool.and_false] at hn
  exact Bool.false_ne_true hn

theorem bestClaim_refresh {s : State} (howed : 0 < s.arb.owed) (h : s.bus.state = .run ∨ s.bus.state = .hold) :
    bestClaim s = .refresh :=
  if_pos (by rw [Bool.and_eq_true, decide_eq_true_eq, refreshing_iff]; exact ⟨howed, h⟩)

theorem bestClaim_channel {s : State} {n : Fin 4} (howed : s.arb.owed = 0) (hrun : s.bus.state = .run)
    (hn : bestChannel s = some n) : bestClaim s = .channel n := by
  rw [bestClaim, howed, hrun]
  simp [hn]

/-- With no refresh and no channel eligible, service and queue are left (R50, R51). -/
theorem bestClaim_rest {s : State} (hrefresh : 0 < s.arb.owed → ¬ refreshing s.bus.state = true)
    (hchannels : s.bus.state = .run → bestChannel s = none) : bestClaim s =
      if serviceClaims s && s.bus.state.live then .service
      else if queueClaims s && s.bus.state.live then .queue else .none := by
  have hnone : (decide (0 < s.arb.owed) && refreshing s.bus.state) = false := by
    rw [Bool.and_eq_false_iff, decide_eq_false_iff_not]
    by_cases h : 0 < s.arb.owed
    · exact .inr (Bool.eq_false_iff.mpr (hrefresh h))
    · exact .inl h
  have hbest : (if s.bus.state == .run then bestChannel s else none) = none := by
    split
    · next h => exact hchannels (beq_iff_eq.mp h)
    · rfl
  rw [bestClaim, hnone, hbest]
  rfl

/-! ## The grant (R50, R53 to R55, R58) -/

theorem arbDecide_of_free {s : State} (h : freeBus s) : arbDecide s = match bestClaim s with
    | .channel n => grantChannel n s
    | .refresh => modArb (fun a => { a with owner := .refresh }) s
    | .service => modArb (fun a => { a with owner := .service }) s
    | .queue => modArb (fun a => { a with owner := .queue }) s
    | .none => s
    | .master _ => s := if_pos ((busFree_iff s).mpr h)

/-- The arbiter as a channel's claim is granted (R53 to R55, R58). -/
theorem grantChannel_eq {s : State} {n : Fin 4} (hrun : s.channels[n].state = .running) : grantChannel n s = { s with arb :=
    match s.channels[n].mode with
    | .cascade => { s.arb with
        owner := .master n, hold := .cascade n, grant := some n
        timerChannel := some (s.arb.timerChannel.getD n)
        timerElapsed := if s.arb.timerChannel = none then 0 else s.arb.timerElapsed
        timerLimit := if s.arb.timerChannel = none then s.settings.masterLimit else s.arb.timerLimit }
    | .single => { s.arb with owner := .channel n }
    | .demand =>
      if requested s n s.channels[n].owner then { s.arb with
        owner := .channel n, hold := .demand n, holdEnding := false, burst := 0, burstLimit := s.settings.burstLimit }
      else { s.arb with owner := .channel n }
    | .block =>
      if s.channels[n].blockRun then { s.arb with owner := .channel n, hold := .block n, holdEnding := false }
      else { s.arb with owner := .channel n } } := by
  have hmode : modeClaims s n = true ↔ ModeClaims s n := (modeClaims_iff s n).trans (and_iff_right hrun)
  unfold grantChannel
  cases hm : s.channels[n].mode with
  | single => rfl
  | demand =>
    rw [ModeClaims, hm] at hmode
    simp only [hmode]
    split <;> rfl
  | block =>
    rw [ModeClaims, hm] at hmode
    simp only [hmode]
    split <;> rfl
  | cascade =>
    unfold grantCascade
    cases htimer : s.arb.timerChannel <;> simp [modArb, htimer]

theorem arbDecide_of_dead {s : State} (hdead : s.bus.state = .off ∨ s.bus.state = .resetting ∨ s.bus.state = .down) :
    arbDecide s = s := by
  by_cases hfree : freeBus s
  · have hbest : bestClaim s = .none := by
      obtain h | h | h := hdead <;> rw [bestClaim_rest] <;> simp [h, refreshing, BusState.live]
    rw [arbDecide_of_free hfree, hbest]
  · exact if_neg (mt (busFree_iff s).mp hfree)

/-- Settles O28. -/
theorem arbiterGrantsByRank : Obligations.ArbiterGrantsByRank := by
  unfold Obligations.ArbiterGrantsByRank
  refine ⟨fun s n => channelClaims_iff s n, fun s hbusy => ?_, fun s hfree howed hrefreshing => ?_,
    fun s n c hfree howed hrun hc hclaims hfirst => ?_, fun s hfree hlive howed hnone => ?_, fun s => arbDecide_of_dead⟩
  · exact if_neg (mt (busFree_iff s).mp hbusy)
  · rw [arbDecide_of_free hfree, bestClaim_refresh howed hrefreshing]
    rfl
  · subst hc
    have hbest := bestChannel_of_first hclaims hfirst
    rw [arbDecide_of_free hfree, bestClaim_channel howed hrun hbest]
    exact grantChannel_eq ((channelClaims_iff s n).mp hclaims).1
  · have hlive : s.bus.state.live = true := (live_iff _).mpr hlive
    have hrefresh (h : 0 < s.arb.owed) : ¬ refreshing s.bus.state = true := by
      rw [howed h]
      decide
    have hserves : serviceClaims s = true ↔ serviceWants s ≠ none := Option.isSome_iff_ne_none
    have hqueue : queueClaims s = true ↔ s.queue.state = .executing := beq_iff_eq
    have hbest : bestClaim s = if serviceWants s ≠ none then .service
        else if s.queue.state = .executing then .queue else .none := by
      rw [bestClaim_rest hrefresh fun hrun => bestChannel_of_none (hnone hrun), hlive]
      simp only [Bool.and_true, hserves, hqueue]
    rw [arbDecide_of_free hfree, hbest]
    by_cases hservice : serviceWants s ≠ none
    · rw [if_pos hservice, if_pos hservice]
      rfl
    · rw [if_neg hservice, if_neg hservice]
      by_cases hexec : s.queue.state = .executing
      · rw [if_pos hexec, if_pos hexec]
        rfl
      · rw [if_neg hexec, if_neg hexec]

/-! ## Holds at a boundary (R54 to R56) -/

theorem heldBy_of_not {a : Arbiter} (h : a.hold = .none ∨ ∃ n, a.hold = .cascade n) : heldBy a = none := by
  obtain h | ⟨n, h⟩ := h <;> rw [heldBy, h]

theorem holdBoundary_of_held {s : State} {n : Fin 4} (h : heldBy s.arb = some n) (previous : Owner) :
    holdBoundary previous s =
      if s.arb.holdEnding || !holdClaims s n then modArb endHold s
      else if decide (0 < s.arb.owed) && (previous != .refresh) then modArb (fun a => { a with owner := .refresh }) s
      else modArb (fun a => { a with owner := .channel n }) s := by
  rw [holdBoundary, h]

theorem transferDone_arb {n : Fin 4} {a : Access} {s : State} (hok : a.status = .ok)
    (hgoes : a.terminal = false ∨ s.channels[n].autoReload = true) :
    (transferDone n a s).arb = transferCounted n a.terminal s := by
  rw [transferDone_ok hok, completeTransfer_eq]
  cases hterm : a.terminal with
  | false => rfl
  | true =>
    have hreload : s.channels[n].autoReload = true := hgoes.resolve_left (by rw [hterm]; decide)
    have hstepped : (upd s.channels n (steppedChannel n a))[n].autoReload = true := by
      rw [upd_self]
      exact hreload
    rw [if_pos rfl, terminalCount_eq, if_pos hstepped]
    rfl

/-- Settles O29. -/
theorem holdsGoOnOrEnd : Obligations.HoldsGoOnOrEnd := by
  unfold Obligations.HoldsGoOnOrEnd
  refine ⟨fun s n => holdClaims_iff s n, fun previous s hnone => ?_, fun previous s n hheld => ?_, fun n a s => transferDone_arb⟩
  · rw [holdBoundary, heldBy_of_not hnone]
  · have heq := holdBoundary_of_held ((heldBy_eq_some_iff _ _).mpr hheld) previous
    refine ⟨fun hends => ?_, fun hgoes hclaims howed hother => ?_, fun hgoes hclaims hfree => ?_⟩
    all_goals rw [heq]
    · exact if_pos (by obtain h | h := hends <;> simp [h])
    · rw [hgoes, hclaims]
      simp [howed, hother, modArb]
    · rw [hgoes, hclaims]
      obtain h | h := hfree <;> simp [h, modArb]

end Sys2Proof.Machine
end

section
/-! PROOFS. O30: what goes on by itself after a command. -/

namespace Sys2Proof.Machine

set_option Elab.async false

/-! ## The source a selection takes (R113, R132, R148) -/

theorem lineEligible_iff (s : State) (l : Fin 12) (n : Fin 8) :
    lineEligible s l n = true ↔ eligibleSource s (.lineSlot l n) := by
  simp only [lineEligible, eligibleSource, lineSlotOf, Bool.and_eq_true, Bool.or_eq_true, Bool.not_eq_true', beq_iff_eq]
  tauto

theorem timerEligible_iff (s : State) (n : Fin 4) : timerEligible s n = true ↔ eligibleSource s (.timer n) := by
  simp only [timerEligible, eligibleSource, Bool.and_eq_true, Bool.or_eq_true, beq_iff_eq]

theorem find?_allSlots {p : Fin 8 → Bool} {n : Fin 8} (hn : p n = true) (hfirst : ∀ m, m < n → p m = false) :
    allSlots.find? p = some n := by
  have hsplit : ∀ n : Fin 8, allSlots = allSlots.take n.val ++ n :: allSlots.drop (n.val + 1) := by decide
  have hbelow : ∀ n m : Fin 8, m ∈ allSlots.take n.val → m < n := by decide
  rw [List.find?_eq_some_iff_append]
  refine ⟨hn, _, _, hsplit n, fun m hm => ?_⟩
  rw [hfirst m (hbelow n m hm)]
  rfl

theorem findSome?_allLines {α : Type} {f : Fin 12 → Option α} {n : Fin 12} {x : α} (hn : f n = some x)
    (hfirst : ∀ m, m < n → f m = none) : allLines.findSome? f = some x := by
  have hsplit : ∀ n : Fin 12, allLines = allLines.take n.val ++ n :: allLines.drop (n.val + 1) := by decide
  have hbelow : ∀ n m : Fin 12, m ∈ allLines.take n.val → m < n := by decide
  rw [List.findSome?_eq_some_iff]
  exact ⟨_, n, _, hsplit n, hn, fun m hm => hfirst m (hbelow n m hm)⟩

section first

variable {s : State} {keep : Bool}

theorem firstLine_of_none (h : ∀ l n, s.lines[l].keepAlive = keep → ¬ eligibleSource s (.lineSlot l n)) :
    firstLine s keep = none := by
  rw [firstLine, List.findSome?_eq_none_iff]
  rintro l -
  split
  · next hkeep =>
    rw [Option.map_eq_none_iff, List.find?_eq_none]
    exact fun n _ hn => h l n (beq_iff_eq.mp hkeep) ((lineEligible_iff s l n).mp hn)
  · rfl

theorem firstLine_of_first {l : Fin 12} {n : Fin 8} (hkeep : s.lines[l].keepAlive = keep)
    (hn : eligibleSource s (.lineSlot l n))
    (hfirst : ∀ l' n', s.lines[l'].keepAlive = keep → eligibleSource s (.lineSlot l' n') →
      8 * l.val + n.val ≤ 8 * l'.val + n'.val) : firstLine s keep = some (.lineSlot l n) := by
  refine findSome?_allLines (n := l) ?_ fun l' hl' => ?_
  · have hslot : allSlots.find? (fun n => lineEligible s l n) = some n := by
      refine find?_allSlots ((lineEligible_iff s l n).mpr hn) fun m hm => ?_
      rw [← Bool.not_eq_true, lineEligible_iff]
      intro hm'
      have hle := hfirst l m hkeep hm'
      omega
    rw [if_pos (beq_iff_eq.mpr hkeep), hslot]
    rfl
  · split
    · next hkeep' =>
      rw [Option.map_eq_none_iff, List.find?_eq_none]
      intro m _ hm
      have hle := hfirst l' m (beq_iff_eq.mp hkeep') ((lineEligible_iff s l' m).mp hm)
      omega
    · rfl

theorem firstTimer_of_none (h : ∀ n : Fin 4, s.timers[n].keepAlive = keep → ¬ eligibleSource s (.timer n)) :
    firstTimer s keep = none := by
  rw [firstTimer, Option.map_eq_none_iff, List.find?_eq_none]
  rintro n - hn
  rw [Bool.and_eq_true, beq_iff_eq, timerEligible_iff] at hn
  exact h n hn.1 hn.2

theorem firstTimer_of_first {n : Fin 4} (hkeep : s.timers[n].keepAlive = keep) (hn : eligibleSource s (.timer n))
    (hfirst : ∀ m : Fin 4, s.timers[m].keepAlive = keep → eligibleSource s (.timer m) → n.val ≤ m.val) :
    firstTimer s keep = some (.timer n) := by
  have hfind : allFour.find? (fun n => (s.timers[n].keepAlive == keep) && timerEligible s n) = some n := by
    refine find?_allFour ?_ fun m hm => ?_
    · rw [Bool.and_eq_true, beq_iff_eq, timerEligible_iff]
      exact ⟨hkeep, hn⟩
    · rw [← Bool.not_eq_true, Bool.and_eq_true, beq_iff_eq, timerEligible_iff]
      rintro ⟨hkeep', hm'⟩
      have hle := hfirst m hkeep' hm'
      omega
  rw [firstTimer, hfind]
  rfl

end first

theorem selected_of_none {s : State} (h : ∀ src, ¬ eligibleSource s src) : selected s = none := by
  rw [selected, firstLine_of_none fun l n _ => h _, firstTimer_of_none fun n _ => h _,
    firstLine_of_none fun l n _ => h _]
  exact firstTimer_of_none fun n _ => h _

theorem lineRank {s : State} {l : Fin 12} {keep : Bool} (h : s.lines[l].keepAlive = keep) (n : Fin 8) :
    sourceRank s (.lineSlot l n) = (if keep then 0 else 200) + 8 * l.val + n.val := by rw [sourceRank, h]

theorem timerRank {s : State} {n : Fin 4} {keep : Bool} (h : s.timers[n].keepAlive = keep) :
    sourceRank s (.timer n) = (if keep then 100 else 300) + n.val := by rw [sourceRank, h]

/-- The eligible source of the least rank is selected (R132). -/
theorem selected_of_first {s : State} {src : Source} (hsrc : eligibleSource s src)
    (hfirst : ∀ other, eligibleSource s other → sourceRank s src ≤ sourceRank s other) : selected s = some src := by
  have hline {keep : Bool} (l : Fin 12) (n : Fin 8) (hk : s.lines[l].keepAlive = keep)
      (he : eligibleSource s (.lineSlot l n)) : sourceRank s src ≤ (if keep then 0 else 200) + 8 * l.val + n.val :=
    lineRank hk n ▸ hfirst _ he
  have htimer {keep : Bool} (n : Fin 4) (hk : s.timers[n].keepAlive = keep) (he : eligibleSource s (.timer n)) :
      sourceRank s src ≤ (if keep then 100 else 300) + n.val := timerRank hk ▸ hfirst _ he
  have noLine {keep : Bool} (h : (if keep then 0 else 200) + 95 < sourceRank s src) : firstLine s keep = none :=
    firstLine_of_none fun l n hk he => by have hle := hline l n hk he; omega
  have noTimer {keep : Bool} (h : (if keep then 100 else 300) + 3 < sourceRank s src) : firstTimer s keep = none :=
    firstTimer_of_none fun n hk he => by have hle := htimer n hk he; omega
  unfold selected
  cases src with
  | channel n => exact hsrc.elim
  | watch u => exact hsrc.elim
  | lineSlot l n =>
    have hkeep := lineRank (s := s) (l := l) rfl n
    have hhere {keep : Bool} (hk : s.lines[l].keepAlive = keep) : firstLine s keep = some (.lineSlot l n) := by
      refine firstLine_of_first hk hsrc fun l' n' hk' he => ?_
      have hle := hline l' n' hk' he
      rw [lineRank hk] at hle
      omega
    cases hk : s.lines[l].keepAlive with
    | true => rw [hhere hk]
    | false =>
      have hrank : 200 ≤ sourceRank s (.lineSlot l n) := by rw [lineRank hk]; simp; omega
      rw [noLine (keep := true) (by simp; omega), noTimer (keep := true) (by simp; omega), hhere hk]
  | timer n =>
    have hhere {keep : Bool} (hk : s.timers[n].keepAlive = keep) : firstTimer s keep = some (.timer n) := by
      refine firstTimer_of_first hk hsrc fun m hk' he => ?_
      have hle := htimer m hk' he
      rw [timerRank hk] at hle
      omega
    cases hk : s.timers[n].keepAlive with
    | true =>
      have hrank : 100 ≤ sourceRank s (.timer n) := by rw [timerRank hk]; simp
      rw [noLine (keep := true) (by simp; omega), hhere hk]
    | false =>
      have hrank : 300 ≤ sourceRank s (.timer n) := by rw [timerRank hk]; simp
      rw [noLine (keep := true) (by simp; omega), noTimer (keep := true) (by simp; omega),
        noLine (keep := false) (by simp; omega)]
      exact hhere hk

/-! ## The queue and the engine go on (R71, R132 to R134, R137) -/

theorem startOps_of_started {s : State} {op : OpRecord} {rest : List OpRecord} (hidle : s.queue.state = .idle)
    (hops : s.queue.ops = op :: rest) (hlive : s.bus.state.live = true)
    (hwait : ∀ n limit, op.kind = .waitDma n limit → s.channels[n].finished = false ∧ s.channels[n].state = .running) :
    startOps s = { s with queue :=
      match op.kind with
      | .access _ _ _ _ _ _ _ => { s.queue with state := .executing }
      | .probe _ => { s.queue with state := .executing }
      | .pause micros => { s.queue with state := .pausing, pauseLeft := micros }
      | .waitDma _ limit => { s.queue with state := .waitingDma, waitLeft := limit * 100 } } := by
  unfold startOps
  rw [hops, List.length_cons, startRounds, hidle, hlive, hops]
  dsimp only
  cases hkind : op.kind with
  | access => rfl
  | probe => rfl
  | pause => rfl
  | waitDma n limit =>
    obtain ⟨hfinished, hrunning⟩ := hwait n limit hkind
    have hgoes : waitOver s n = false := by
      rw [waitOver, hfinished, hrunning]
      rfl
    dsimp only
    rw [hgoes]
    rfl

theorem startOps_of_dead {s : State} (h : s.bus.state.live = false) : startOps s = s := by
  unfold startOps
  cases s.queue.ops.length with
  | zero => rfl
  | succ k => rw [startRounds, h, Bool.and_false]; rfl

theorem serviceSelect_of_busy {s : State} (h : s.engine.state ≠ .idle) : serviceSelect s = s :=
  if_neg (by rwa [beq_iff_eq])

theorem serviceSelect_of_none {s : State} (h : selected s = none) : serviceSelect s = s := by
  by_cases hidle : s.engine.state = .idle
  · refine (if_pos (beq_iff_eq.mpr hidle)).trans ?_
    rw [h]
  · exact serviceSelect_of_busy hidle

/-- A service of no steps ends at once, and the next selection follows (R134). -/
theorem serviceSelect_of_no_steps {s : State} {src : Source} (hidle : s.engine.state = .idle)
    (hsrc : selected s = some src) (hsteps : stepsOf (beginService src s) (boundEntry s src) = []) :
    serviceSelect s = serviceSelect (finishService (beginService src s)) := by
  rw [← serviceSelect_enough 401 s ((selectionsLeft_le s).trans (by decide)), selectServices, hidle, hsrc]
  dsimp only
  rw [hsteps]
  rfl

theorem serviceSelect_of_steps {s : State} {src : Source} {st : Step} {more : List Step} (hidle : s.engine.state = .idle)
    (hsrc : selected s = some src) (hsteps : stepsOf (beginService src s) (boundEntry s src) = st :: more) :
    serviceSelect s = beginStep (beginService src s) := by
  rw [serviceSelect, selectServices, hidle, hsrc]
  dsimp only
  rw [hsteps]
  rfl

theorem beginStep_eq (s : State) : beginStep s = { s with engine := { s.engine with delayLeft :=
    (match currentStep s with
    | some (.delay micros) => micros
    | _ => s.engine.delayLeft) } } := by
  unfold beginStep
  cases currentStep s with
  | none => rfl
  | some st => cases st <;> rfl

theorem stepsOf_beginService {s : State} {src : Source} (entry : Option (Fin 24)) :
    stepsOf (beginService src s) entry = stepsOf s entry := by
  have hentries : (beginService src s).entries = s.entries := by cases src <;> rfl
  unfold stepsOf
  rw [hentries]

/-- Settles O30. -/
theorem settleLetsWorkGoOn : Obligations.SettleLetsWorkGoOn := by
  unfold Obligations.SettleLetsWorkGoOn
  refine ⟨fun s => ⟨rfl, settle_touches s⟩, fun s hdead => ?_, fun s op rest hidle hops hlive hwait => ?_,
    fun s => serviceSelect_of_busy, fun s hnone => serviceSelect_of_none (selected_of_none hnone),
    fun s src hidle hsrc hfirst => ⟨selected_of_first hsrc hfirst, fun hsteps u hu => ?_, fun st more hsteps => ?_⟩⟩
  · have hlive : s.bus.state.live = false := by obtain h | h | h := hdead <;> rw [h] <;> rfl
    have hnone (src : Source) : ¬ eligibleSource s src := by
      cases src with
      | lineSlot l n => rintro ⟨-, -, -, -, -, h⟩; obtain hd | hd | hd := hdead <;> simp [hd] at h
      | timer n => rintro ⟨-, h⟩; obtain hd | hd | hd := hdead <;> simp [hd] at h
      | channel n => exact id
      | watch u => exact id
    rw [settle, startOps_of_dead hlive, serviceSelect_of_none (selected_of_none hnone), arbDecide_of_dead hdead]
  · exact startOps_of_started hidle hops ((live_iff _).mpr hlive) hwait
  · have hbegin : beginService src s = u := by
      rw [hu]
      cases src <;> rfl
    rw [← hbegin]
    exact serviceSelect_of_no_steps hidle (selected_of_first hsrc hfirst) ((stepsOf_beginService _).trans hsteps)
  · rw [serviceSelect_of_steps hidle (selected_of_first hsrc hfirst) ((stepsOf_beginService _).trans hsteps)]
    have hcurrent : currentStep (beginService src s) = some st := by
      have hentry : (beginService src s).engine.entry = some (boundEntry s src) := rfl
      have hzero : (beginService src s).engine.step = 0 := rfl
      rw [currentStep, hentry, hzero]
      dsimp only
      rw [stepsOf_beginService, hsteps]
      rfl
    refine ⟨?_, ?_, fun l n hsrc => ?_, fun n hsrc => ?_⟩
    · exact ((beginService_touches src s).mono).trans ((beginStep_touches _).mono)
    · rw [beginStep_eq, hcurrent]
      cases st <;> rfl
    all_goals subst hsrc; rw [beginStep_eq]
    · refine ⟨rfl, fun l' n' => ?_⟩
      refine (lineSlotOf_mod l l' n n' (fun x => { x with pending := false, inService := true }) s).trans ?_
      by_cases h : l' = l ∧ n' = n
      · obtain ⟨rfl, rfl⟩ := h
        rw [if_pos ⟨rfl, rfl⟩, if_pos ⟨rfl, rfl⟩]
        rfl
      · rw [if_neg h, if_neg fun h' => h ⟨h'.1.symm, h'.2.symm⟩]
        rfl
    · exact ⟨rfl, rfl⟩

end Sys2Proof.Machine
end

section
/-! PROOFS. O46: the accesses that the steps of a service make, and the step boundary. -/

namespace Sys2Proof.Machine

set_option Elab.async false

/-! ## The step the engine performs -/

theorem currentStep_of_entry {s : State} {e : Fin 24} (hentry : s.engine.entry = some (some e)) :
    currentStep s = s.entries[e].steps[s.engine.step]? := by
  rw [currentStep, hentry]
  rfl

theorem serviceWants_of_not_serving {s : State} (h : s.engine.state ≠ .serving) : serviceWants s = none :=
  if_neg fun h' => h (eq_of_beq h')

theorem serviceWants_of_serving {s : State} {st : Step} (hserving : s.engine.state = .serving)
    (hstep : currentStep s = some st) : serviceWants s = st.access s.engine.done := by
  rw [serviceWants, if_pos (beq_iff_eq.mpr hserving), hstep]

/-! ## The bytes of the accesses a failed step does not make (R136) -/

/-- The bytes of a step that captures nothing, or of a MIN by words with its last odd byte, from its `done`-th
access on. -/
def bytesLeft (st : Step) (done : Nat) : Nat :=
  match st with
  | .inrep _ word times => (times - done) * widthOf word
  | .min _ times => times - 2 * done
  | _ => 0

/-- The accesses of a MIN from its `d`-th on: words, then the odd byte. -/
theorem sum_minWidths (times d m : Nat) (hm : m ≤ (times + 1) / 2 - d) :
    ((List.range m).map fun k => widthOf (decide (2 * (d + k) + 2 ≤ times))).sum = min times (2 * (d + m)) - 2 * d := by
  induction m with
  | zero => simp
  | succ m ih =>
    rw [List.range_succ, List.map_append, List.sum_append, ih (by omega), List.map_singleton, List.sum_singleton]
    by_cases hword : 2 * (d + m) + 2 ≤ times
    · rw [decide_eq_true hword, widthOf, if_pos rfl]
      omega
    · rw [decide_eq_false hword, widthOf, if_neg Bool.false_ne_true]
      omega

theorem padding_eq (st : Step) (done : Nat) :
    padding st (done + 1) = List.replicate (bytesLeft st (done + 1)) 0xFF := by
  cases st with
  | inp port word => simp [padding, Step.accesses, bytesLeft]
  | inrep port word times =>
    refine congrArg (List.replicate · 0xFF) ?_
    show ((List.range (times - (done + 1))).map fun _ => widthOf word).sum = _
    rw [List.map_const', List.sum_replicate, List.length_range]
    rfl
  | out port word v => rfl
  | min address times =>
    refine congrArg (List.replicate · 0xFF) ?_
    refine (sum_minWidths times (done + 1) ((times + 1) / 2 - (done + 1)) (Nat.le_refl _)).trans ?_
    show _ = times - 2 * (done + 1)
    omega
  | mout address word v => rfl
  | delay micros => rfl

/-! ## The end of an access (R135, R136) -/

/-- The engine after an access of the step `st`: one more made, its data and flags taken. -/
def accessTaken (st : Step) (a : Access) (s : State) : State :=
  { s with engine := { s.engine with
    access := none, done := s.engine.done + 1
    captured := s.engine.captured ++ (if st.reads then a.data else [])
    flags := s.engine.flags.joinAccess a.flags } }

/-- A failing access: the step ends with its status and the bytes not read filled up. -/
def stepFailed (st : Step) (a : Access) (t : State) : State :=
  { t with engine := { t.engine with
    captured := t.engine.captured ++ List.replicate (bytesLeft st t.engine.done) 0xFF
    flags := { t.engine.flags with
      stepError := true
      timeout := t.engine.flags.timeout || decide (a.status = .timeout)
      blocked := t.engine.flags.blocked || decide (a.status = .blocked) }
    firstFail := some (t.engine.firstFail.getD t.engine.step) } }

theorem fail_eq (f : RecordFlags) {status : ByteStatus} (h : status ≠ .ok) :
    f.fail status = { f with
      stepError := true
      timeout := f.timeout || decide (status = .timeout)
      blocked := f.blocked || decide (status = .blocked) } := by
  cases status with
  | ok => exact absurd rfl h
  | timeout => simp [RecordFlags.fail]
  | blocked => simp [RecordFlags.fail]

theorem serviceAccessDone_ok {a : Access} {s : State} {st : Step} (hstep : currentStep s = some st)
    (hstatus : a.status = .ok) :
    serviceAccessDone a s =
      if s.engine.done + 1 < st.accesses then accessTaken st a s else stepBoundary (accessTaken st a s) := by
  rw [serviceAccessDone, hstep]
  exact if_pos hstatus

theorem serviceAccessDone_failed {a : Access} {s : State} {st : Step} (hstep : currentStep s = some st)
    (hstatus : a.status ≠ .ok) : serviceAccessDone a s = stepBoundary (stepFailed st a (accessTaken st a s)) := by
  have hdone : serviceAccessDone a s = stepBoundary (modEngine (fun g => { g with
      captured := g.captured ++ padding st g.done
      flags := g.flags.fail a.status
      firstFail := match g.firstFail with
        | some k => some k
        | none => some g.step }) (accessTaken st a s)) := by
    rw [serviceAccessDone, hstep]
    exact if_neg hstatus
  have hfirst : (match (accessTaken st a s).engine.firstFail with
      | some k => some k
      | none => some (accessTaken st a s).engine.step) =
      some ((accessTaken st a s).engine.firstFail.getD (accessTaken st a s).engine.step) := by
    cases (accessTaken st a s).engine.firstFail <;> rfl
  have hpadding : padding st (accessTaken st a s).engine.done =
      List.replicate (bytesLeft st (accessTaken st a s).engine.done) 0xFF := padding_eq st s.engine.done
  rw [hdone, modEngine, hfirst, fail_eq _ hstatus, hpadding]
  rfl

/-! ## The step boundary (R134, R135, R139) -/

/-- The step `st`, the next one, is begun, or stood before in STOP. -/
def stepGoesOn (st : Step) (s : State) : State :=
  { s with engine := { s.engine with
    step := s.engine.step + 1, done := 0
    state := if s.bus.state = .stop then .suspended else s.engine.state
    delayLeft :=
      if s.bus.state = .stop then s.engine.delayLeft
      else match st with
        | .delay micros => micros
        | _ => s.engine.delayLeft } }

theorem stepBoundary_of_last {s : State} {e : Fin 24} (hentry : s.engine.entry = some (some e))
    (hlast : s.entries[e].steps.length ≤ s.engine.step + 1) : stepBoundary s = serviceSelect (finishService s) := by
  rw [stepBoundary, hentry]
  exact if_neg (Nat.not_lt.mpr hlast)

theorem stepBoundary_of_next {s : State} {e : Fin 24} {st : Step} (hentry : s.engine.entry = some (some e))
    (hnext : s.entries[e].steps[s.engine.step + 1]? = some st) : stepBoundary s = stepGoesOn st s := by
  have hmore : s.engine.step + 1 < (stepsOf s (some e)).length := (List.getElem?_eq_some_iff.mp hnext).1
  have hboundary : stepBoundary s =
      if s.bus.state == .stop then
        modEngine (fun g => { g with state := .suspended }) (modEngine (fun g => { g with step := g.step + 1, done := 0 }) s)
      else beginStep (modEngine (fun g => { g with step := g.step + 1, done := 0 }) s) := by
    rw [stepBoundary, hentry]
    exact if_pos hmore
  have hcurrent : currentStep (modEngine (fun g => { g with step := g.step + 1, done := 0 }) s) = some st :=
    (currentStep_of_entry (s := modEngine (fun g => { g with step := g.step + 1, done := 0 }) s) hentry).trans hnext
  rw [hboundary]
  by_cases hstop : s.bus.state = .stop
  · rw [if_pos (beq_iff_eq.mpr hstop)]
    simp only [stepGoesOn, if_pos hstop]
    rfl
  · rw [if_neg fun h => hstop (eq_of_beq h), beginStep_eq, hcurrent]
    simp only [stepGoesOn, if_neg hstop]
    cases st <;> rfl

/-- Settles O46. -/
theorem serviceStepsMakeTheirAccesses : Obligations.ServiceStepsMakeTheirAccesses := by
  unfold Obligations.ServiceStepsMakeTheirAccesses
  refine ⟨fun s => serviceWants_of_not_serving, fun s e st hentry hstep => ?_, fun s e hentry =>
    ⟨stepBoundary_of_last hentry, fun st hnext => stepBoundary_of_next hentry hnext⟩⟩
  have hcurrent : currentStep s = some st := (currentStep_of_entry hentry).trans hstep
  refine ⟨fun hserving => ?_, fun a count missing captures taken hcount hcaptures hmissing htaken => ?_⟩
  · rw [serviceWants_of_serving hserving hcurrent]
    cases st <;> rfl
  have hcount : count = st.accesses := by cases st <;> exact hcount
  have hcaptures : captures = st.reads := by cases st <;> exact hcaptures
  have hmissing : missing = bytesLeft st (s.engine.done + 1) := by cases st <;> exact hmissing
  have htaken : taken = accessTaken st a s := by rw [htaken, hcaptures]; rfl
  subst hcount hmissing htaken
  exact ⟨serviceAccessDone_ok hcurrent, serviceAccessDone_failed hcurrent⟩

end Sys2Proof.Machine
end

section
/-! PROOFS. O47: the end of a DELAY step, and the end of a service with its record. -/

namespace Sys2Proof.Machine

set_option Elab.async false

/-! ## The end of a DELAY step (R137) -/

theorem delaying_of_delay {s : State} {e : Fin 24} {micros : Nat} (hserving : s.engine.state = .serving)
    (hentry : s.engine.entry = some (some e)) (hstep : s.entries[e].steps[s.engine.step]? = some (.delay micros)) :
    delaying s = true := by
  rw [delaying, (currentStep_of_entry hentry).trans hstep, hserving]
  rfl

theorem delayExpiry_of_delaying {s : State} (h : delaying s = true) :
    exec .delayExpiry s = .next (settle (stepBoundary { s with engine := { s.engine with delayLeft := 0 } })) :=
  congrArg Host.Outcome.next (if_pos h)

/-! ## The source leaves service (R115, R116) -/

/-- A line-slot in service at the end of its service: for a LEVEL line the sampling. -/
def lineServed (s : State) (l : Fin 12) (n : Fin 8) (x : LineSlot) : LineSlot :=
  if s.lines[l].sense = .edge then { x with inService := false }
  else if asserted s l n = false then { x with inService := false, stillAsserted := 0 }
  else if x.stillAsserted < 3 then
    { x with
      inService := false, stillAsserted := x.stillAsserted + 1
      pending := x.pending || (watched s n && !x.stuck) }
  else { x with inService := false, stillAsserted := x.stillAsserted + 1, stuck := true, pending := false }

/-- The line-slot leaves service. -/
def serviceOff (l : Fin 12) (n : Fin 8) (s : State) : State := modLineSlot l n (fun x => { x with inService := false }) s

theorem lineSlotOf_serviceOff (l : Fin 12) (n : Fin 8) (s : State) :
    lineSlotOf (serviceOff l n s) l n = { lineSlotOf s l n with inService := false } :=
  lineSlotOf_mod_self l n _ s

theorem endLineService_idle {s : State} {l : Fin 12} {n : Fin 8} (h : ¬ (lineSlotOf s l n).inService = true) :
    endLineService l n s = s := if_neg h

theorem endLineService_edge {s : State} {l : Fin 12} {n : Fin 8} (h : (lineSlotOf s l n).inService = true)
    (hsense : s.lines[l].sense = .edge) : endLineService l n s = serviceOff l n s :=
  (if_pos h).trans (if_neg (c := (s.lines[l].sense == .level) = true) (by rw [hsense]; decide))

theorem endLineService_level {s : State} {l : Fin 12} {n : Fin 8} (h : (lineSlotOf s l n).inService = true)
    (hsense : s.lines[l].sense = .level) : endLineService l n s = sampleLine l n (serviceOff l n s) :=
  (if_pos h).trans (if_pos (c := (s.lines[l].sense == .level) = true) (beq_iff_eq.mpr hsense))

section sampling

variable {s : State} {l : Fin 12} {n : Fin 8}

theorem sampleLine_released (h : ¬ asserted s l n = true) :
    sampleLine l n s = evaluate l n (modLineSlot l n (fun x => { x with stillAsserted := 0 }) s) := if_neg h

/-- The still-asserted count risen. -/
def stillCounted (l : Fin 12) (n : Fin 8) (s : State) : State :=
  modLineSlot l n (fun x => { x with stillAsserted := x.stillAsserted + 1 }) s

theorem lineSlotOf_stillCounted (l : Fin 12) (n : Fin 8) (s : State) :
    lineSlotOf (stillCounted l n s) l n = { lineSlotOf s l n with stillAsserted := (lineSlotOf s l n).stillAsserted + 1 } :=
  lineSlotOf_mod_self l n _ s

theorem sampleLine_again (h : asserted s l n = true) (hcount : (lineSlotOf s l n).stillAsserted < 3) :
    sampleLine l n s = evaluate l n (stillCounted l n s) := by
  have hless : (lineSlotOf (stillCounted l n s) l n).stillAsserted < 4 := by
    rw [lineSlotOf_stillCounted]; exact Nat.succ_lt_succ hcount
  exact (if_pos h).trans (if_pos hless)

theorem sampleLine_stuck (h : asserted s l n = true) (hcount : 3 ≤ (lineSlotOf s l n).stillAsserted) :
    sampleLine l n s =
      noticeLineStuck l n (modLineSlot l n (fun x => { x with stuck := true, pending := false }) (stillCounted l n s)) := by
  have hfour : ¬ (lineSlotOf (stillCounted l n s) l n).stillAsserted < 4 := by
    rw [lineSlotOf_stillCounted]; exact Nat.not_lt.mpr (Nat.succ_le_succ hcount)
  exact (if_pos h).trans (if_neg hfour)

end sampling

/-- What the end of a service leaves of its line-slot. -/
theorem lineSlotOf_endLineService {s : State} {l : Fin 12} {n : Fin 8} (h : (lineSlotOf s l n).inService = true) :
    lineSlotOf (endLineService l n s) l n = lineServed s l n (lineSlotOf s l n) := by
  by_cases hsense : s.lines[l].sense = .edge
  · rw [endLineService_edge h hsense, lineSlotOf_serviceOff, lineServed, if_pos hsense]
  have hlevel : s.lines[l].sense = .level := by
    cases hs : s.lines[l].sense
    · exact absurd hs hsense
    · rfl
  have hoff := lineSlotOf_serviceOff l n s
  have hcounted : evaluated (stillCounted l n (serviceOff l n s)) l n = evaluated s l n :=
    evaluated_congr ((touches_lineSlots _ _).trans (touches_lineSlots _ _)) l n
  have hzeroed : evaluated (modLineSlot l n (fun x => { x with stillAsserted := 0 }) (serviceOff l n s)) l n =
      evaluated s l n := evaluated_congr ((touches_lineSlots _ _).trans (touches_lineSlots _ _)) l n
  rw [endLineService_level h hlevel, lineServed, if_neg hsense]
  by_cases hline : asserted s l n = true
  · rw [if_neg (by rw [hline]; decide)]
    by_cases hcount : (lineSlotOf s l n).stillAsserted < 3
    · have hvalue : evaluated s l n { lineSlotOf s l n with
          inService := false, stillAsserted := (lineSlotOf s l n).stillAsserted + 1 } =
          { lineSlotOf s l n with
            inService := false, stillAsserted := (lineSlotOf s l n).stillAsserted + 1
            pending := (lineSlotOf s l n).pending || (watched s n && !(lineSlotOf s l n).stuck) } := by
        simp [evaluated, hlevel, hline, -Fin.getElem_fin]
      rw [if_pos hcount, sampleLine_again (s := serviceOff l n s) hline (by rw [hoff]; exact hcount),
        lineSlotOf_evaluate, if_pos ⟨rfl, rfl⟩, lineSlotOf_stillCounted, hoff, hcounted,
        hvalue]
    · rw [if_neg hcount, sampleLine_stuck (s := serviceOff l n s) hline (by rw [hoff]; exact Nat.not_lt.mp hcount),
        lineSlotOf_stuckNotice, lineSlotOf_mod_self, lineSlotOf_stillCounted, hoff]
  · have hvalue : evaluated s l n { lineSlotOf s l n with inService := false, stillAsserted := 0 } =
        { lineSlotOf s l n with inService := false, stillAsserted := 0 } := by
      simp [evaluated, Bool.eq_false_iff.mpr hline, -Fin.getElem_fin]
    rw [if_pos (Bool.eq_false_iff.mpr hline), sampleLine_released (s := serviceOff l n s) hline,
      lineSlotOf_evaluate, if_pos ⟨rfl, rfl⟩, lineSlotOf_mod_self, hoff, hzeroed, hvalue]

/-- The state after the LINE_STUCK notice, where there is one (R117). -/
def stuckTold (l : Fin 12) (n : Fin 8) (s : State) : State :=
  if s.lineSlots[l][n].inService = true ∧ s.lines[l].sense = .level ∧ asserted s l n = true ∧
      3 ≤ s.lineSlots[l][n].stillAsserted then
    notice 3 [natByte l.val, natByte n.val, entryCode s.lines[l].entry, natByte (s.lineSlots[l][n].stillAsserted + 1)] s
  else s

theorem stuckTold_touches (l : Fin 12) (n : Fin 8) (s : State) : Touches [.link] s (stuckTold l n s) :=
  .ite (notice_touches _ _ _) (.refl _ _)

theorem endLineService_link (l : Fin 12) (n : Fin 8) (s : State) : (endLineService l n s).link = (stuckTold l n s).link := by
  by_cases h : (lineSlotOf s l n).inService = true
  · by_cases hlevel : s.lines[l].sense = .level
    · rw [endLineService_level h hlevel]
      have hoff := lineSlotOf_serviceOff l n s
      by_cases hline : asserted s l n = true
      · by_cases hcount : (lineSlotOf s l n).stillAsserted < 3
        · rw [stuckTold, if_neg fun h => absurd h.2.2.2 (Nat.not_le.mpr hcount),
            sampleLine_again (s := serviceOff l n s) hline (by rw [hoff]; exact hcount)]
          exact evaluate_touches _ _ _ .link (by decide)
        · rw [stuckTold, if_pos ⟨h, hlevel, hline, Nat.not_lt.mp hcount⟩,
            sampleLine_stuck (s := serviceOff l n s) hline (by rw [hoff]; exact Nat.not_lt.mp hcount), noticeLineStuck,
            lineSlotOf_mod_self, lineSlotOf_stillCounted, hoff]
          exact notice_link_congr _ _ rfl rfl rfl
      · rw [stuckTold, if_neg fun h => hline h.2.2.1, sampleLine_released (s := serviceOff l n s) hline]
        exact evaluate_touches _ _ _ .link (by decide)
    · have hedge : s.lines[l].sense = .edge := by
        cases hs : s.lines[l].sense
        · rfl
        · exact absurd hs hlevel
      rw [stuckTold, if_neg fun h => hlevel h.2.1, endLineService_edge h hedge]
      rfl
  · rw [stuckTold, if_neg fun h' => h h'.1, endLineService_idle h]

/-! ## The record is handed over (R143) -/

/-- What handing a record over does to the queue is read from the queue and the settings, and to the link from link
and time too. -/
theorem handRecord_congr (r : Record) {s t : State} (hcapture : s.capture = t.capture)
    (hsettings : s.settings = t.settings) :
    (handRecord r s).capture = (handRecord r t).capture ∧
      (s.link = t.link → s.timeBase = t.timeBase → (handRecord r s).link = (handRecord r t).link) := by
  unfold handRecord
  rw [hcapture]
  split
  · rw [storeRecord_capture, storeRecord_capture, storeRecord_link, storeRecord_link, hcapture, hsettings]
    refine ⟨rfl, fun hlink htime => ?_⟩
    split
    · exact notice_link_congr _ _ hlink hsettings htime
    · exact hlink
  · refine ⟨?_, fun hlink _ => hlink⟩
    rw [dropRecord, dropRecord, hcapture]

/-- The link at the end of a service, before its record is handed over. -/
def sourceTold (src : Source) (s : State) : State :=
  match src with
  | .lineSlot l n => stuckTold l n s
  | _ => s

theorem sourceTold_touches (src : Source) (s : State) : Touches [.link] s (sourceTold src s) := by
  cases src with
  | lineSlot l n => exact stuckTold_touches l n s
  | _ => exact .refl _ _

theorem releaseSource_link (src : Source) (s : State) : (releaseSource src s).link = (sourceTold src s).link := by
  cases src with
  | lineSlot l n => exact endLineService_link l n s
  | _ => rfl

/-- The record, handed over if the service makes one. -/
def recordMade (entry : Option (Fin 24)) (r : Record) (s : State) : State :=
  if makesRecord s entry then handRecord r s else s

theorem recordMade_touches (entry : Option (Fin 24)) (r : Record) (s : State) :
    Touches [.capture, .link] s (recordMade entry r s) := .ite (handRecord_touches _ _) (.refl _ _)

theorem recordMade_congr (entry : Option (Fin 24)) (r : Record) {s t : State}
    (hentries : s.entries = t.entries) (hcapture : s.capture = t.capture) (hsettings : s.settings = t.settings) :
    (recordMade entry r s).capture = (recordMade entry r t).capture ∧
      (s.link = t.link → s.timeBase = t.timeBase → (recordMade entry r s).link = (recordMade entry r t).link) := by
  have hmakes : makesRecord s entry = makesRecord t entry := by unfold makesRecord; rw [hentries]
  rw [recordMade, recordMade, hmakes]
  split
  · exact handRecord_congr r hcapture hsettings
  · exact ⟨hcapture, fun hlink _ => hlink⟩

theorem finishService_eq {s : State} {src : Source} {entry : Option (Fin 24)} (hsource : s.engine.source = some src)
    (hentry : s.engine.entry = some entry) :
    finishService s =
      { recordMade entry (serviceRecord s src entry (stillFor s src)) (releaseSource src s) with engine := resetEngine } := by
  rw [finishService, hsource, hentry]
  rfl

section finish

variable {s : State} {src : Source} {entry : Option (Fin 24)} (hsource : s.engine.source = some src)
  (hentry : s.engine.entry = some entry)

include hsource hentry

theorem finishService_link : (finishService s).link =
    (recordMade entry (serviceRecord s src entry (stillFor s src)) (sourceTold src s)).link := by
  have hrelease := releaseSource_touches src s
  have htold := sourceTold_touches src s
  rw [finishService_eq hsource hentry]
  exact (recordMade_congr entry _ ((hrelease .entries (by decide)).trans (htold .entries (by decide)).symm)
    ((hrelease .capture (by decide)).trans (htold .capture (by decide)).symm)
    ((hrelease .settings (by decide)).trans (htold .settings (by decide)).symm)).2 (releaseSource_link src s)
    ((hrelease .timeBase (by decide)).trans (htold .timeBase (by decide)).symm)

theorem finishService_capture : (finishService s).capture =
    (recordMade entry (serviceRecord s src entry (stillFor s src)) s).capture := by
  have hrelease := releaseSource_touches src s
  rw [finishService_eq hsource hentry]
  exact (recordMade_congr entry _ (hrelease .entries (by decide)) (hrelease .capture (by decide))
    (hrelease .settings (by decide))).1

theorem finishService_lineSlots : (finishService s).lineSlots = (releaseSource src s).lineSlots := by
  rw [finishService_eq hsource hentry]
  exact recordMade_touches entry _ _ .lineSlots (by decide)

theorem finishService_timers : (finishService s).timers = (releaseSource src s).timers := by
  rw [finishService_eq hsource hentry]
  exact recordMade_touches entry _ _ .timers (by decide)

theorem finishService_engine : (finishService s).engine = resetEngine := by
  rw [finishService_eq hsource hentry]

end finish

/-- Settles O47. -/
theorem servicesEndWithTheirRecords : Obligations.ServicesEndWithTheirRecords := by
  unfold Obligations.ServicesEndWithTheirRecords
  refine ⟨fun s h => congrArg Host.Outcome.next (if_neg (Bool.eq_false_iff.mp h)),
    fun s e micros hserving hentry hstep => ?_, fun s src entry r hsource hentry hr => ?_⟩
  · rw [delayExpiry_of_delaying (delaying_of_delay hserving hentry hstep)]
    refine ⟨fun hlast => ?_, fun st hnext => ?_⟩
    · rw [stepBoundary_of_last (s := { s with engine := { s.engine with delayLeft := 0 } }) hentry hlast]
    · rw [stepBoundary_of_next (s := { s with engine := { s.engine with delayLeft := 0 } }) hentry hnext, ← hserving]
      rfl
  have hrecord : r = serviceRecord s src entry (stillFor s src) := by
    rw [hr]
    cases src <;> cases entry <;> rfl
  refine ⟨finishService_engine hsource hentry, finishService_touches s, fun k hk => ?_, ?_, fun n hn => ?_,
    fun l n hl => ?_⟩
  · have htold : k = sourceTold src s := by
      rw [hk]
      cases src with
      | lineSlot l n =>
        rw [sourceTold, stuckTold, entryCode_eq] <;> rfl
      | _ => rfl
    have hsame : makesRecord (sourceTold src s) entry = makesRecord s entry := by
      unfold makesRecord; rw [sourceTold_touches src s .entries (by decide)]
    have hlink : (finishService s).link = (if makesRecord s entry then handRecord r k else k).link := by
      rw [finishService_link hsource hentry, htold, recordMade, hsame, hrecord]
    refine hlink.trans ?_
    cases entry <;> rfl
  · have hcapture : (finishService s).capture = (if makesRecord s entry then handRecord r s else s).capture := by
      rw [finishService_capture hsource hentry, recordMade, hrecord]
    refine hcapture.trans ?_
    cases entry <;> rfl
  · subst hn
    exact ⟨finishService_lineSlots hsource hentry, finishService_timers hsource hentry⟩
  · subst hl
    refine ⟨(finishService_timers hsource hentry).trans (endLineService_touches l n s .timers (by decide)),
      fun l' n' => ?_⟩
    rw [finishService_lineSlots hsource hentry]
    show lineSlotOf (endLineService l n s) l' n' = if l' = l ∧ n' = n ∧ (lineSlotOf s l n).inService = true then
      lineServed s l n (lineSlotOf s l n) else lineSlotOf s l' n'
    by_cases hkey : l' = l ∧ n' = n
    · obtain ⟨rfl, rfl⟩ := hkey
      by_cases hservice : (lineSlotOf s l' n').inService = true
      · rw [if_pos ⟨rfl, rfl, hservice⟩, lineSlotOf_endLineService hservice]
      · rw [if_neg fun h => hservice h.2.2, endLineService_idle hservice]
    · rw [if_neg fun h => hkey ⟨h.1, h.2.1⟩, endLineService_other fun h => hkey ⟨h.1.symm, h.2.symm⟩]

end Sys2Proof.Machine
end

section
/-! PROOFS. O26: the result an initiator takes at the end of a cycle, and the boundary. -/

namespace Sys2Proof.Machine

set_option Elab.async false

/-! ## What a transfer that has ended leaves of its channel -/

/-- A change of a channel that keeps its owner, and an access that has ended as it is. -/
def KeepsOwner (c d : Channel) : Prop := d.owner = c.owner ∧ (c.access = none → d.access = none)

theorem KeepsOwner.trans {c d e : Channel} (h : KeepsOwner c d) (k : KeepsOwner d e) : KeepsOwner c e :=
  ⟨k.1.trans h.1, fun hc => k.2 (h.2 hc)⟩

theorem keepsOwner_upd {v : Vector Channel 4} {n : Fin 4} {f : Channel → Channel} (h : KeepsOwner v[n] (f v[n])) :
    KeepsOwner v[n] (upd v n f)[n] := by
  rw [upd_self]
  exact h

theorem transferDone_keepsOwner (n : Fin 4) (a : Access) (s : State) :
    KeepsOwner s.channels[n] (transferDone n a s).channels[n] := by
  by_cases hok : a.status = .ok
  · have hstepped : KeepsOwner s.channels[n] (upd s.channels n (steppedChannel n a))[n] :=
      keepsOwner_upd ⟨rfl, fun _ => rfl⟩
    rw [transferDone_ok hok, completeTransfer_eq]
    split
    · rw [terminalCount_eq]
      have hdone := hstepped.trans
        (keepsOwner_upd (f := fun c => { c with finished := true }) ⟨rfl, fun h => h⟩)
      split
      · rw [reloadChannel_eq]
        exact hdone.trans (keepsOwner_upd ⟨rfl, fun h => h⟩)
      · rw [leaveRunning_eq]
        exact hdone.trans (keepsOwner_upd ⟨rfl, fun _ => rfl⟩)
    · exact hstepped
  · rw [transferDone_failed hok rfl]
    by_cases hrun : s.channels[n].state = .running
    · rw [faultChannel_of_running hrun, tellQueue_channels, notice_channels]
      exact keepsOwner_upd ⟨rfl, fun _ => rfl⟩
    · rw [faultChannel_of_not_running hrun]
      exact ⟨rfl, fun h => h⟩

theorem finishClears_keepsOwner (n : Fin 4) (s : State) :
    KeepsOwner s.channels[n] (finishClears n s).channels[n] := by
  by_cases hwait : s.channels[n].waiting = []
  · rw [finishClears_of_none hwait]
    exact ⟨rfl, fun h => h⟩
  · rw [finishClears_eq hwait, sendAll_channels]
    exact keepsOwner_upd ⟨rfl, fun _ => rfl⟩

/-! ## The initiator takes its result (R72, R89, R95, R135) -/

theorem putAccess_eq (init : Initiator) (x : Option Access) (s : State) : putAccess init x s = withAccess init x s := by
  cases init <;> rfl

theorem clearsOver_of_over {n : Fin 4} {s : State} (hcycle : s.planner.cycle = none)
    (haccess : s.channels[n].access = none) : clearsOver n s = finishClears n s :=
  if_neg fun h => by
    obtain h | ⟨x, hx, -⟩ := (transferring_iff s n).mp h
    · exact h haccess
    · exact nomatch hcycle.symm.trans hx

theorem withAccess_channel (n : Fin 4) (x : Option Access) (s : State) :
    (withAccess (.channel n) x s).channels[n] = { s.channels[n] with access := x } :=
  upd_self s.channels n _

/-- Between cycles the CLEARs that waited take effect just when their transfer has ended. -/
theorem clearsAfter_accessGoesOn {s : State} (hcycle : s.planner.cycle = none) (init : Initiator) (a : Access) :
    clearsAfter init (accessGoesOn init a s) = resultTaken init a s := by
  unfold accessGoesOn resultTaken
  rw [putAccess_eq, putAccess_eq]
  by_cases hdone : a.stage = .done
  · rw [if_pos hdone, if_pos hdone]
    cases init with
    | queue => rfl
    | channel n =>
      refine clearsOver_of_over ?_ ((transferDone_keepsOwner n a _).2 ?_)
      · have hplanner : (transferDone n a (withAccess (.channel n) none s)).planner = s.planner :=
          transferDone_touches n a _ .planner (by decide)
        exact (congrArg Planner.cycle hplanner).trans hcycle
      · rw [withAccess_channel]
    | service => rfl
    | master => rfl
  · rw [if_neg hdone, if_neg hdone]
    cases init with
    | queue => rfl
    | channel n =>
      refine if_pos ((transferring_iff _ n).mpr (.inl ?_))
      rw [withAccess_channel]
      exact Option.some_ne_none a
    | service => rfl
    | master => rfl

theorem accessAfter_eq (c : Cycle) (a : Access) :
    ({ a.take c.wide (c.byteResult c.readLow) (c.byteResult c.readHigh) with cycles := a.cycles + 1 } : Access) =
      accessAfter c a := by
  rw [Access.take, accessAfter]
  split
  · rfl
  · match a with
    | { stage := .first, .. } => rfl
    | { stage := .second, .. } => rfl
    | { stage := .done, .. } => rfl

theorem takeResult_access {c : Cycle} {s : State} (hkind : c.kind = .access) (hcycle : s.planner.cycle = none) :
    takeResult c s = (match accessOf s c.initiator, c.initiator with
      | some a, init => resultTaken init (accessAfter c a) s
      | none, .channel n => finishClears n s
      | none, _ => s) := by
  rw [takeResult, hkind]
  dsimp only
  cases haccess : accessOf s c.initiator with
  | some a =>
    exact (clearsAfter_accessGoesOn hcycle c.initiator _).trans
      (congrArg (resultTaken c.initiator · s) (accessAfter_eq c a))
  | none =>
    cases hinit : c.initiator with
    | channel n =>
      rw [hinit] at haccess
      exact clearsOver_of_over hcycle haccess
    | _ => rfl

/-- The accesses in progress as a cycle ends and a watch unit's hold takes effect. -/
theorem accessOf_watchHeld (s : State) (init : Initiator) (clocks : Nat) :
    accessOf (watchHeld (cycleOver clocks s)) init = accessOf s init := by
  unfold watchHeld
  cases hrequest : (cycleOver clocks s).bus.holdRequest with
  | none => cases init <;> rfl
  | some u =>
    dsimp only
    split <;> cases init <;> rfl

theorem watchHeld_planner (s : State) : (watchHeld s).planner = s.planner := by
  unfold watchHeld
  split
  · rfl
  · split <;> rfl

theorem watchHeld_slots (s : State) : (watchHeld s).slots = s.slots := by
  unfold watchHeld
  split
  · rfl
  · split <;> rfl

theorem takeResult_probe {c : Cycle} {s : State} (hkind : c.kind = .probe) : takeResult c s =
    probeDone (allSlots.map fun n => if s.slots[n].state = .attached then c.samples[n] else 0xFF)
      (natByte (bitsNumber (allSlots.map fun n => c.members[n]))) c.timedOut 1 s := by
  rw [takeResult, hkind, probeBytes]
  simp only [attached_iff, bitmapOf]

theorem length_of_driven {c : Cycle} (hkind : c.kind ≠ .refresh) :
    c.length = 1 + (if c.wide then 1 else if c.space = .mem then 3 else 4) + c.extra + c.waits + 1 := by
  rw [Cycle.length, if_neg hkind, sBase_eq]

/-- Settles O26. -/
theorem cycleEndReachesTheBoundary : Obligations.CycleEndReachesTheBoundary := by
  unfold Obligations.CycleEndReachesTheBoundary
  refine ⟨fun s hnone => congrArg Host.Outcome.next ?_, fun s h r c hc hphase hkind hh hr => ?_⟩
  · unfold endCycle
    split
    · next c hc =>
      exact if_neg fun hends => (hnone c hc).elim (fun hphase => hphase hends.1) hends.2
    · rfl
  have hend : endCycle s = boundary c s := by
    rw [endCycle, hc]
    exact if_pos ⟨hphase, hkind⟩
  have hheld : h = watchHeld (cycleOver c.length s) := by rw [hh, length_of_driven hkind]; rfl
  have hover : h.planner.cycle = none := by rw [hheld, watchHeld_planner]; rfl
  have hslots : h.slots = s.slots := by rw [hheld, watchHeld_slots]; rfl
  have haccess : accessOf h c.initiator = accessOf s c.initiator := by rw [hheld, accessOf_watchHeld]
  have hresult : takeResult c h = r := by
    rw [hr]
    by_cases hprobe : c.kind = .probe
    · rw [if_pos hprobe, takeResult_probe hprobe, hslots]
    · have hacc : c.kind = .access := by cases hk : c.kind <;> simp_all
      rw [if_neg hprobe, ← haccess]
      exact takeResult_access hacc hover
  refine ⟨changesDue r, changesDue_made r, congrArg Host.Outcome.next ?_⟩
  rw [hend, boundary_eq, ← hheld, hresult]

end Sys2Proof.Machine
end

section
/-! PROOFS. O24: CYCLE_START drives a cycle or ends the byte without one. -/

namespace Sys2Proof.Machine

set_option Elab.async false

/-! ## The access whose cycle a grant starts (R9, R97) -/

theorem startCycle_of_running {s : State} (h : s.planner.cycle ≠ none) (ack : Bool) : startCycle ack s = s :=
  if_pos (Option.isSome_iff_ne_none.mpr h)

theorem startCycle_idle {s : State} (hcycle : s.planner.cycle = none) (ack : Bool) : startCycle ack s =
    (match s.arb.owner with
    | .refresh => driveCycle (refreshCycle s) s
    | .channel n =>
      match s.channels[n].access with
      | some a => startAccess (.channel n) a ack s
      | none =>
        startAccess (.channel n) (beginAccess s (channelWants s n) s.channels[n].terminal s.channels[n].pulse) ack s
    | .service =>
      match s.engine.access, serviceWants s with
      | some a, _ => startAccess .service a ack s
      | none, some i => startAccess .service (beginAccess s i false false) ack s
      | none, none => s
    | .queue =>
      match probing s, s.queue.access, queueWants s with
      | some port, _, _ => startProbe port s
      | none, some a, _ => startAccess .queue a ack s
      | none, none, some i => startAccess .queue (beginAccess s i false false) ack s
      | none, none, none => s
    | .none => s
    | .master _ => s) :=
  if_neg fun h => Option.isSome_iff_ne_none.mp h hcycle

/-- A grant starts the next cycle of its initiator's access, begun now if none is in progress. -/
theorem startCycle_of_next {s : State} {init : Initiator} {a : Access} (hcycle : s.planner.cycle = none)
    (howner : s.arb.owner = ownerOf init) (hnext : nextAccess s init = some a) (ack : Bool) :
    startCycle ack s = startAccess init a ack s := by
  rw [startCycle_idle hcycle, howner]
  cases init with
  | queue =>
    cases hprobe : probing s with
    | some port => rw [nextAccess, hprobe] at hnext; exact nomatch hnext
    | none =>
      rw [nextAccess, hprobe] at hnext
      simp only [ownerOf]
      cases haccess : s.queue.access with
      | some b =>
        rw [haccess] at hnext
        rw [show b = a from Option.some.inj hnext]
      | none =>
        cases hwants : queueWants s with
        | some i =>
          rw [haccess, hwants] at hnext
          rw [← show beginAccess s i false false = a from Option.some.inj hnext]
        | none => rw [haccess, hwants] at hnext; exact nomatch hnext
  | channel n =>
    simp only [ownerOf]
    cases haccess : s.channels[n].access with
    | some b =>
      simp only [nextAccess] at hnext
      rw [haccess] at hnext
      rw [show b = a from Option.some.inj hnext]
    | none =>
      simp only [nextAccess] at hnext
      rw [haccess] at hnext
      rw [← show beginAccess s (channelWants s n) s.channels[n].terminal s.channels[n].pulse = a from
        Option.some.inj hnext]
  | service =>
    simp only [ownerOf]
    cases haccess : s.engine.access with
    | some b =>
      rw [nextAccess, haccess] at hnext
      rw [show b = a from Option.some.inj hnext]
    | none =>
      cases hwants : serviceWants s with
      | some i =>
        rw [nextAccess, haccess, hwants] at hnext
        rw [← show beginAccess s i false false = a from Option.some.inj hnext]
      | none => rw [nextAccess, haccess, hwants] at hnext; exact nomatch hnext
  | master => exact nomatch hnext

theorem noneAttached_iff (s : State) : noneAttached s = true ↔ ∀ n : Fin 8, s.slots[n].state ≠ .attached := by
  rw [noneAttached, Bool.not_eq_true', List.any_eq_false]
  have hall : ∀ n : Fin 8, n ∈ allSlots := by decide
  exact ⟨fun h n hn => h n (hall n) ((attached_iff s n).mpr hn), fun h n _ hn => h n ((attached_iff s n).mp hn)⟩

/-! ## A driven cycle (R1, R3, R11, R12, R93, R94) -/

theorem cardSideOf_eq (s : State) (init : Initiator) (terminal : Bool) :
    cardSideOf s init terminal = (match init with
      | .channel k => some { owner := s.channels[k].owner, direction := s.channels[k].direction, terminal := terminal }
      | _ => none) := by
  cases init <;> rfl

theorem membersOf_get (s : State) (target : CycleTarget) (init : Initiator) (terminal : Bool) (n : Fin 8) :
    (membersOf s target (cardSideOf s init terminal))[n] =
      (decide (target = .all) && decide (s.slots[n].state = .attached) &&
        (match init with
         | .channel k => decide (s.channels[k].owner ≠ n)
         | _ => true)) := by
  have hget : (membersOf s target (cardSideOf s init terminal))[n] =
      ((target == .all) && attached s n &&
        (match cardSideOf s init terminal with
         | some x => x.owner != n
         | none => true)) := by
    rw [membersOf, Fin.getElem_fin, Vector.getElem_ofFn] <;> rfl
  have hattached : attached s n = decide (s.slots[n].state = .attached) := by
    rw [Bool.eq_iff_iff, attached_iff, decide_eq_true_iff]
  rw [hget, hattached, Bool.beq_eq_decide_eq]
  cases init with
  | channel k =>
    refine congrArg (fun b => decide (target = .all) && decide (s.slots[n].state = .attached) && b) ?_
    exact (decide_not (p := s.channels[k].owner = n)).symm
  | _ => rfl

theorem fetchEarly_eq (s : State) (side : Option CardSide) (target : CycleTarget) (offset : Nat) :
    fetchEarly s side target offset =
      if (decide (target = .image) && side.any fun x => decide (x.direction = .toCard)) = true then
        readByte s.image.cells offset
      else 0xFF := by
  cases side with
  | none => simp [fetchEarly]
  | some x => simp [fetchEarly, and_comm]

theorem withAccess_planner (init : Initiator) (x : Option Access) (s : State) :
    (withAccess init x s).planner = s.planner := by
  cases init <;> rfl

/-- Where the cycle is driven, the access falls back to narrow unless its attempt is a wide cycle (R12). -/
theorem startAccess_drives {s : State} {init : Initiator} {a : Access} {ack wide : Bool}
    (hwithout : withoutCycle s a.nextByte.target (cardSideOf s init a.terminal).isSome = none)
    (hwide : wide = (a.attempting && ((a.nextByte.target == .image) || ack))) :
    startAccess init a ack s = { withAccess init
        (some { a with narrowed := a.narrowed || (a.wideAttempt && decide (a.stage = .first) && !wide) }) s with
      planner := { s.planner with
        cycle := some (plannedCycle s init a wide)
        address := BitVec.ofNat 20 (plannedCycle s init a wide).address } } := by
  have hfirst : (a.stage == .first) = decide (a.stage = .first) := rfl
  have hnarrowed : (if (a.attempting && !wide) = true then { a with narrowed := true } else a : Access) =
      { a with narrowed := a.narrowed || (a.wideAttempt && decide (a.stage = .first) && !wide) } := by
    have hfalls : (a.narrowed || (a.wideAttempt && decide (a.stage = .first) && !wide)) =
        (a.narrowed || (a.attempting && !wide)) := by
      rw [Access.attempting, hfirst]
      cases a.narrowed <;> simp
    rw [hfalls]
    cases a.attempting && !wide with
    | true => rw [Bool.or_true]; rfl
    | false => rw [Bool.or_false]; rfl
  have hstart : startAccess init a ack s = driveCycle
      (plannedCycle s init (if (a.attempting && !wide) = true then { a with narrowed := true } else a) wide)
      (putAccess init (some (if (a.attempting && !wide) = true then { a with narrowed := true } else a)) s) := by
    rw [startAccess, hwithout, hwide]
  rw [hstart, hnarrowed, putAccess_eq, driveCycle, modPlanner, withAccess_planner]
  rfl

/-! ## A byte that ends without a cycle (R17 to R19, R95, R102) -/

theorem take_eq_endedWithout (status : ByteStatus) (a : Access) :
    a.take a.attempting { status := status, value := 0xFF } { status := status, value := 0xFF } =
      endedWithout status a := by
  have hattempting : a.attempting = (a.wideAttempt && !a.narrowed && (a.stage == .first)) := rfl
  rw [Access.take, endedWithout, hattempting]
  cases hstage : a.stage with
  | first =>
    rw [show (Stage.first == Stage.first) = true from rfl, Bool.and_true]
  | second =>
    rw [show (Stage.second == Stage.first) = false from rfl, Bool.and_false]
    rfl
  | done =>
    rw [show (Stage.done == Stage.first) = false from rfl, Bool.and_false]
    rfl

theorem withoutCycle_eq_none {s : State} {target : CycleTarget} {dma : Bool}
    (hslot : ∀ n, target = .slot n → s.slots[n].state = .attached)
    (hall : target = .all → dma = true ∨ ∃ n : Fin 8, s.slots[n].state = .attached) :
    withoutCycle s target dma = none := by
  cases target with
  | slot n => exact if_pos ((attached_iff s n).mpr (hslot n rfl))
  | all =>
    refine if_neg fun h => ?_
    obtain ⟨hdma, hnone⟩ := Bool.and_eq_true_iff.mp h
    obtain hd | ⟨n, hn⟩ := hall rfl
    · rw [hd] at hdma
      exact nomatch hdma
    · exact (noneAttached_iff s).mp hnone n hn
  | image => rfl

theorem withoutCycle_eq_some {s : State} {target : CycleTarget} {dma : Bool} {status : ByteStatus}
    (h : (∃ n : Fin 8, target = .slot n ∧ s.slots[n].state ≠ .attached ∧ status = .blocked) ∨
      (target = .all ∧ dma = false ∧ (∀ n : Fin 8, s.slots[n].state ≠ .attached) ∧ status = .ok)) :
    withoutCycle s target dma = some status := by
  obtain ⟨n, rfl, hslot, rfl⟩ | ⟨rfl, rfl, hnone, rfl⟩ := h
  · exact if_neg fun h => hslot ((attached_iff s n).mp h)
  · exact if_pos ((noneAttached_iff s).mpr hnone)

theorem cardSideOf_isSome_iff (s : State) (init : Initiator) (terminal : Bool) :
    (cardSideOf s init terminal).isSome = true ↔ ∃ n, init = .channel n := by
  cases init <;> simp [cardSideOf]

theorem resultTaken_owner (n : Fin 4) (a : Access) (s : State) :
    (resultTaken (.channel n) a s).channels[n].owner = s.channels[n].owner := by
  have hput (x : Option Access) : (withAccess (.channel n) x s).channels[n].owner = s.channels[n].owner := by
    rw [withAccess_channel]
  unfold resultTaken
  split
  · exact (finishClears_keepsOwner n _).1.trans ((transferDone_keepsOwner n a _).1.trans (hput none))
  · exact hput (some a)

theorem changesMade_of_none_due (s : State) : ChangesMade (fun _ => false) s s := by
  have htold : changesTold (fun _ => false) s = s := by simp [changesTold]
  refine ⟨.refl _ s, fun _ => rfl, fun n _ => ⟨rfl, fun _ => rfl⟩, fun n hn => absurd hn Bool.false_ne_true,
    fun n hn => absurd hn Bool.false_ne_true, fun c hc => absurd hc.2.1 Bool.false_ne_true, fun c _ => rfl, ?_⟩
  intro told heq
  rw [heq.trans htold]
  exact ⟨rfl, rfl, rfl, rfl, rfl⟩

/-- The ISOLATE of a transfer's owner that waited for its end (R102, log entry 35). -/
theorem isolateAfter_changesMade (init : Initiator) (a : Access) (s : State) :
    ChangesMade (fun m => match init with
        | .channel n => decide (m = s.channels[n].owner)
        | _ => false)
      (resultTaken init a s) (isolateAfter init (resultTaken init a s)) := by
  cases init with
  | channel n =>
    have hmade := changeDue_changesMade s.channels[n].owner (resultTaken (.channel n) a s)
    rw [isolateAfter, resultTaken_owner]
    exact hmade
  | _ => exact changesMade_of_none_due _

theorem startAccess_ends {s : State} {init : Initiator} {a : Access} {status : ByteStatus}
    (hcycle : s.planner.cycle = none)
    (hwithout : withoutCycle s a.nextByte.target (cardSideOf s init a.terminal).isSome = some status) (ack : Bool) :
    startAccess init a ack s = settle (holdBoundary s.arb.owner (isolateAfter init
      (resultTaken init (endedWithout status a) { s with arb := { s.arb with owner := .none } }))) := by
  have hends : startAccess init a ack s = grantUnused s.arb.owner (isolateAfter init (clearsAfter init
      (accessGoesOn init (a.take a.attempting { status := status, value := 0xFF } { status := status, value := 0xFF })
        (modArb (fun x => { x with owner := .none }) s)))) := by
    rw [startAccess, hwithout]
  have hfree : modArb (fun x => { x with owner := .none }) s = { s with arb := { s.arb with owner := .none } } := rfl
  rw [hends, take_eq_endedWithout, hfree,
    clearsAfter_accessGoesOn (s := { s with arb := { s.arb with owner := .none } }) hcycle, grantUnused]

theorem probeCycle_members (s : State) (port : Nat) (n : Fin 8) :
    (probeCycle s port).members[n] = decide (s.slots[n].state = .attached) := by
  show (attachedSet s)[n] = _
  rw [attachedSet, mapAll_get]
  rfl

theorem startProbe_drives {s : State} (port : Nat) {n : Fin 8} (h : s.slots[n].state = .attached) :
    startProbe port s = driveCycle (probeCycle s port) s :=
  if_neg fun hnone => (noneAttached_iff s).mp hnone n h

theorem startProbe_ends {s : State} (port : Nat) (h : ∀ n : Fin 8, s.slots[n].state ≠ .attached) :
    startProbe port s = settle (holdBoundary s.arb.owner
      (probeDone (List.replicate 8 0xFF) 0 false 0 { s with arb := { s.arb with owner := .none } })) :=
  if_pos ((noneAttached_iff s).mpr h)

/-- Settles O24. -/
theorem cycleStartDrivesOrEndsTheByte : Obligations.CycleStartDrivesOrEndsTheByte := by
  unfold Obligations.CycleStartDrivesOrEndsTheByte
  refine ⟨fun ack s hstill => congrArg Host.Outcome.next ?_, fun ack s hcycle howner => ?_,
    fun ack s port hcycle howner hport => ?_, fun ack s init a r hcycle howner hnext hr => ?_⟩
  · by_cases hcycle : s.planner.cycle = none
    · rw [startCycle_idle hcycle]
      obtain h | h | ⟨n, h⟩ := hstill
      · exact absurd hcycle h
      · rw [h]
      · rw [h]
    · exact startCycle_of_running hcycle ack
  · refine ⟨refreshCycle s, rfl, rfl, rfl, rfl, rfl, rfl, congrArg Host.Outcome.next ?_⟩
    rw [startCycle_idle hcycle, howner]
    rfl
  · have hstart : startCycle ack s = startProbe port s := by
      rw [startCycle_idle hcycle, howner, hport]
    refine ⟨fun ⟨n, hn⟩ => ⟨probeCycle s port, rfl, rfl, rfl, rfl, rfl, rfl, rfl, rfl, rfl, rfl, rfl, rfl, rfl, rfl, rfl,
      probeCycle_members s port, ?_⟩, fun hnone => congrArg Host.Outcome.next ?_⟩
    · refine congrArg Host.Outcome.next ?_
      rw [hstart, startProbe_drives port hn]
      rfl
    · rw [hstart, startProbe_ends port hnone, howner]
  have hstart : exec (.cycleStart ack) s = .next (startAccess init a ack s) :=
    congrArg Host.Outcome.next (startCycle_of_next hcycle howner hnext ack)
  have hr : r = a.nextByte := hr
  subst hr
  refine ⟨fun hslot hall wide early side c hwide hside hearly hmembers hc => ?_, fun status hstatus => ?_⟩
  · have hwithout : withoutCycle s a.nextByte.target (cardSideOf s init a.terminal).isSome = none :=
      withoutCycle_eq_none hslot fun h => (hall h).imp_left (cardSideOf_isSome_iff s init a.terminal).mpr
    have hplanned : plannedCycle s init a wide = c := by
      have hsides : cardSideOf s init a.terminal = side :=
        (cardSideOf_eq s init a.terminal).trans hside.symm
      have hset : membersOf s a.nextByte.target side = c.members := by
        refine Vector.ext fun i hi => ?_
        have hget := (membersOf_get s a.nextByte.target init a.terminal ⟨i, hi⟩).trans (hmembers ⟨i, hi⟩).symm
        rw [hsides] at hget
        exact hget
      rw [hc, plannedCycle, Access.nextAddress, spaceSize_eq, hsides, hset, fetchEarly_eq, fetchEarly_eq, hearly]
      rfl
    rw [hstart, startAccess_drives hwithout hwide, hplanned]
  · refine ⟨_, hstart.trans (congrArg Host.Outcome.next (startAccess_ends hcycle (withoutCycle_eq_some ?_) ack)),
      isolateAfter_changesMade init _ _⟩
    refine hstatus.imp_right fun ⟨htarget, hchannel, hnone, hok⟩ => ⟨htarget, ?_, hnone, hok⟩
    exact Bool.eq_false_iff.mpr fun h => ((cardSideOf_isSome_iff s init a.terminal).mp h).elim hchannel

end Sys2Proof.Machine
end
